-- ==== Sys2Proof/Word.lean ====
section
/-! DEFINITION. The two word types of the SDF-4812's register space and byte streams (R6, R528). -/

namespace Sys2Proof

/-- A byte of a packet, of a buffer or of a memory. -/
abbrev Byte := BitVec 8

/-- A 32-bit register (R528: every register is 32 bits wide). -/
abbrev Word := BitVec 32

end Sys2Proof
end

