-- ==== Sys2Proof/Syntax.lean ====
section
/-! DEFINITION. The commands of the SDF-4812: one constructor of `Instr` for each row of spec/opcode_table.json,
in the table's order, with the operands that the rule of that row gives it. -/

namespace Sys2Proof

/-- The four transports of R57. -/
inductive Transport where
  | rdma | udp | mailbox | tandem
  deriving DecidableEq, Repr

/-- Where a request came from: its transport and the session key of R57 (the QP number; source address and port as one
number; the ring number; originating module and session as one number). `pasid` is the PASID of a bound mailbox ring
(R212, R483); `arrived` is the number of bytes that the transport delivered (R73 step 1). -/
structure Endpoint where
  transport : Transport
  key : Nat
  pasid : Option Nat
  deriving DecidableEq, Repr

/-- A command packet (R64): the fields of its header, the parameter area, the CRC it carried and the number of bytes that
the transport delivered. The opcode is the constructor's. Reserved header bytes travel as they were sent. -/
structure Packet where
  src : Endpoint
  delivered : Nat
  version : Byte
  flags : Byte
  tag : Nat
  pid : Nat
  livery : Nat
  generation : Nat
  plen : Nat
  due : Nat
  reserved : Nat
  crc : Word
  params : List Byte
  deriving DecidableEq, Repr

/-- The masters of R14, in the order in which a block serves them. -/
inductive Master where
  | unitController | commandProcessor | endpoint | smbus
  deriving DecidableEq, Repr

/-- The parts of a RoCE v2 packet that every RAE rule reads (R152, R160, R161): the QP number it is for, its PSN, whether
it was marked CE and whether its ICRC was right. -/
structure RoceHdr where
  qp : Nat
  psn : Nat
  ce : Bool
  icrcOk : Bool
  deriving DecidableEq, Repr

/-- The unsupported receptions of R154, one for each of its rows. -/
inductive UnsupportedKind where
  | atomic | flushOrAtomicWrite | sendWithInvalidate | memoryWindow | longSend | otherTransport | closedQp
  deriving DecidableEq, Repr

/-- A CM REQ (R155, R173, R188): its destination service port, the native private data, the peer, the NVMe queue sizes of
the private data of the NVMe/RDMA binding, whether the connection asks for pinning (R180), the CM timeout and the local
acknowledgement exponent that it carries. -/
structure CmReq where
  port : Nat
  pid : Nat
  livery : Nat
  peerQp : Nat
  peerKey : Nat
  startPsn : Nat
  cmTimeoutUs : Nat
  ackExponent : Nat
  pinned : Bool
  nvmeQid : Nat
  hsqsize : Nat
  hrqsize : Nat
  deriving DecidableEq, Repr

/-- An NVMe-oF command capsule (R191, R192): the QP it came on, its command identifier, its fused bits, its namespace,
command dwords 10 to 15, the keyed SGL (address, key, length) and the data that came in the capsule. -/
structure Capsule where
  qp : Nat
  cid : Nat
  fuse : Nat
  nsid : Nat
  cdw10 : Word
  cdw11 : Word
  cdw12 : Word
  cdw13 : Word
  cdw14 : Word
  cdw15 : Word
  sglAddr : Nat
  sglKey : Nat
  sglLen : Nat
  data : List Byte
  deriving DecidableEq, Repr

/-- The data of a Fabrics Connect (R189): names as byte strings up to their NUL. -/
structure ConnectData where
  qp : Nat
  cid : Nat
  qid : Nat
  cntlid : Nat
  sqsize : Nat
  katoMs : Nat
  hostId : Nat
  subNqn : List Byte
  hostNqn : List Byte
  deriving DecidableEq, Repr

/-- The kinds of Ethernet payload that the destination decision of R108 tells apart. -/
inductive EthKind where
  | pfc (enable : Nat) (times : List Nat)
  | ptp (messageType : Nat) (seqId : Nat) (domain : Nat) (timeNs : Nat)
  | arpOrNd
  | icmpEcho
  | roceBulk
  | roceOther
  | command (bytes : List Byte)
  | tandem
  | other
  deriving DecidableEq, Repr

/-- A received Ethernet frame (R106 to R108): the link it came on, its length with FCS, the FCS verdict, its tag, its IP
header fields, its addresses and what it carries. -/
structure EthFrame where
  link : Nat
  length : Nat
  fcsOk : Bool
  tagged : Bool
  vlan : Nat
  pcp : Nat
  dei : Bool
  dstMac : Nat
  srcMac : Nat
  isIp : Bool
  ipv6 : Bool
  dscp : Nat
  ecn : Nat
  srcIp : Nat
  dstIp : Nat
  srcPort : Nat
  dstPort : Nat
  kind : EthKind
  deriving DecidableEq, Repr

/-- A received Tandem frame (R135): the link it came on, the fields of its 16-byte header and its payload. For a type 0
frame `inner` holds the decapsulated Ethernet frame. -/
structure TandemFrame where
  link : Nat
  version : Byte
  type : Nat
  hops : Nat
  seqValid : Bool
  priority : Nat
  dest : Nat
  source : Nat
  flow : Nat
  sequence : Nat
  payload : List Byte
  inner : Option EthFrame
  deriving DecidableEq, Repr

/-- The 64-byte protection field of a block (R253), field by field. -/
structure ProtField where
  guard : Nat
  tag : Nat
  lref : Nat
  psi : Nat
  strip : Nat
  stamp : Nat
  wseq : Nat
  keySlot : Nat
  cv : Bool
  role : Nat
  version : Nat
  deriving DecidableEq, Repr

/-- A 4 KiB block as it lies on a drive: its data and its protection field (R253). -/
structure Block where
  data : List Byte
  pf : ProtField
  deriving DecidableEq, Repr

/-- How a drive ended a command (R364). -/
inductive DriveStatus where
  | success | readError | reservationConflict | writeRetryable | writeError
  deriving DecidableEq, Repr

/-- A member label as read from a drive (R236). -/
structure Label where
  layoutVersion : Nat
  mapVersion : Nat
  pfVersion : Nat
  member : Nat
  crcOk : Bool
  identity : Nat
  seed : Nat
  d : Nat
  sc : Nat
  s : Nat
  n : Nat
  units : Nat
  sequence : Nat
  slots : List Nat
  ordinals : List Nat
  deriving DecidableEq, Repr

/-- A Blotter record (R289, R290): its sequence number and the body of its type. -/
inductive RecordBody where
  | intentStripe (wseq psi lstripe object path fill : Nat)
  | intentRmw (wseq psi lstripe object kind : Nat) (parityOnly : Bool) (first n shadowMask shadowCount payload : Nat)
  | mapCommit (wseq psi fill state mgen lstripe object oldPsi : Nat) (oldValid : Bool) (takeLen : Option Nat) (ordinal : Nat)
      (frameFollows : Bool)
  | frame (rts offset object ordinal : Nat)
  | close (wseq intentRsn outcome : Nat)
  | metadata (segment block payload : Nat)
  | relayCursor (cursor ordinal phase : Nat)
  | void (first last : Nat)
  | reserved (type : Nat)
  deriving DecidableEq, Repr

structure BltRecord where
  rsn : Nat
  crcOk : Bool
  body : RecordBody
  deriving DecidableEq, Repr

/-- One kept block of the home log (R291, R304): its position and either a record block's header and records or a payload
block's data. -/
structure HomeBlock where
  position : Nat
  isPayload : Bool
  headerVersion : Nat
  tail : Nat
  ack : Nat
  nextSeq : Nat
  records : List BltRecord
  payload : List Byte
  deriving DecidableEq, Repr

/-- Requesters of a memory read that R434 tells apart. -/
inductive MemRequester where
  | bar2 (address : Nat)
  | command (id : Nat)
  | rdmaRead (qp : Nat)
  | drain (descriptor : Nat)
  | readStaging (read : Nat)
  | bulkIngress (qp : Nat)
  | sharedCell (link : Nat)
  | qpContext (qp : Nat)
  | controlCore (instance_ : Nat)
  | mapSegment (segment : Nat)
  | blotterRing (rsn : Nat)
  | scrubber
  deriving DecidableEq, Repr

/-- Causes of a drive-port containment (R360, DPQn_Ps_AER). -/
inductive AerKind where
  | nonFatal | fatal | surpriseDown | completionTimeout
  deriving DecidableEq, Repr

/-- A message on the partner link (R405). -/
structure PartnerMsg where
  version : Byte
  role : Nat
  slotId : Bool
  eligible : Bool
  hbInAlive : Bool
  sequence : Nat
  value : Nat
  deriving DecidableEq, Repr

/-- What one slot controller's registers read in a poll (R371): the STATUS nibbles and CHANGE bit of its four slots, or
`answered = false` for a transfer that failed its retries (R372). -/
structure SlotReading where
  answered : Bool
  status : Nat
  change : Nat
  deriving DecidableEq, Repr

/-- How a DMA descriptor's transfer ended, as the status code written back (R485). -/
inductive DmaEnd where
  | done | poisoned | hostError
  deriving DecidableEq, Repr

/-- A DMA descriptor as fetched from the host's ring (R485). -/
structure DmaDescriptor where
  hostAddr : Nat
  hbm : Bool
  offset : Nat
  length : Nat
  toHost : Bool
  irq : Bool
  deriving DecidableEq, Repr

/-- The commands, in the table's order. The first 83 are the command packets of the Sundef Command Protocol (R77). -/
inductive Instr where
  | nop (p : Packet)
  | sessionOpen (p : Packet)
  | sessionClose (p : Packet)
  | versionQuery (p : Packet)
  | stepContinue (p : Packet)
  | stepRelease (p : Packet)
  | stepCancel (p : Packet)
  | longopQuery (p : Packet)
  | nsCreate (p : Packet)
  | nsDelete (p : Packet)
  | nsQuery (p : Packet)
  | nsFormat (p : Packet)
  | takeOpen (p : Packet)
  | takeClose (p : Packet)
  | takeExport (p : Packet)
  | takeDelete (p : Packet)
  | takeQuery (p : Packet)
  | commit (p : Packet)
  | flush (p : Packet)
  | readTo (p : Packet)
  | frameIndexQuery (p : Packet)
  | inkRegister (p : Packet)
  | inkRevoke (p : Packet)
  | inkQuery (p : Packet)
  | rqCreate (p : Packet)
  | rqDestroy (p : Packet)
  | rqFlush (p : Packet)
  | arrayCreate (p : Packet)
  | arrayQuery (p : Packet)
  | memberQuery (p : Packet)
  | mapCheckpoint (p : Packet)
  | memberFail (p : Packet)
  | memberReplace (p : Packet)
  | lostStripeQuery (p : Packet)
  | otrConfigure (p : Packet)
  | otrPass (p : Packet)
  | otrSuspectQuery (p : Packet)
  | rlyConfigure (p : Packet)
  | rlyQuery (p : Packet)
  | rlyPass (p : Packet)
  | rlyCopyback (p : Packet)
  | lvyCreate (p : Packet)
  | lvyDelete (p : Packet)
  | lvyConfigure (p : Packet)
  | lvyMapPid (p : Packet)
  | lvyReset (p : Packet)
  | lvyFreeze (p : Packet)
  | lvySave (p : Packet)
  | lvyRestore (p : Packet)
  | lvyThaw (p : Packet)
  | lvyQuery (p : Packet)
  | rulQuery (p : Packet)
  | rulConfigure (p : Packet)
  | rulTableLoad (p : Packet)
  | rulPulse (p : Packet)
  | rulConvert (p : Packet)
  | keyLoad (p : Packet)
  | keyClear (p : Packet)
  | keySuccessor (p : Packet)
  | keyQuery (p : Packet)
  | fovConfigure (p : Packet)
  | fovQuery (p : Packet)
  | fovHandover (p : Packet)
  | evtSubscribe (p : Packet)
  | evtUnsubscribe (p : Packet)
  | evtMask (p : Packet)
  | pmcConfigure (p : Packet)
  | pmcSnapshot (p : Packet)
  | pmcQuery (p : Packet)
  | lmonConfigure (p : Packet)
  | lmonQuery (p : Packet)
  | wblQuery (p : Packet)
  | wblClear (p : Packet)
  | regRead (p : Packet)
  | regWrite (p : Packet)
  | regRmw (p : Packet)
  | fwQuery (p : Packet)
  | fwUpdate (p : Packet)
  | fwActivate (p : Packet)
  | modReset (p : Packet)
  | powerState (p : Packet)
  | longopStep (slot : Nat)
  | cookieExpired (slot : Nat)
  | heldLongopStart (slot : Nat)
  | heldCommandDispatch (id : Nat)
  | ordCommandStart (id : Nat)
  | udpSessionIdle (session : Nat)
  | placementFlushRequest (qp number : Nat)
  | placementFlushReply (qp number : Nat)
  | roceSend (h : RoceHdr) (bytes : List Byte)
  | rdmaWrite (h : RoceHdr) (key va length : Nat) (first last : Bool) (data : List Byte)
  | rdmaWriteWithImmediate (h : RoceHdr) (key va length : Nat) (first last : Bool) (data : List Byte) (imm : Word)
  | rdmaRead (h : RoceHdr) (key va length : Nat)
  | unsupportedOp (h : RoceHdr) (kind : UnsupportedKind)
  | duplicatePacket (h : RoceHdr) (isRead : Bool) (key va length : Nat)
  | psnSequenceError (h : RoceHdr)
  | cnpReceived (qp : Nat)
  | ccRateIncrease (qp : Nat)
  | contextFetchDone (qp : Nat)
  | cmReq (m : CmReq)
  | cmRep (qp peerQp startPsn : Nat)
  | cmRtu (qp : Nat)
  | cmRej (qp reason : Nat)
  | cmDreq (qp : Nat)
  | cmDrep (qp : Nat)
  | cmMra (qp timeoutUs : Nat)
  | cmTimeout (qp : Nat)
  | qpLingerExpiry (qp : Nat)
  | rqAckReceived (qp count : Nat)
  | rqNakReceived (qp : Nat) (fatal : Bool)
  | rqAckTimeout (qp : Nat)
  | rnrRetryTimer (qp : Nat)
  | workRequestWaitRelease (qp : Nat)
  | flushTimeout (qp : Nat)
  | revokeCut (index : Nat)
  | nvmeConnect (c : ConnectData)
  | propertyGet (c : Capsule)
  | propertySet (c : Capsule)
  | identify (c : Capsule)
  | getFeatures (c : Capsule)
  | setFeatures (c : Capsule)
  | getLogPage (c : Capsule)
  | keepAlive (c : Capsule)
  | asynchronousEventRequest (c : Capsule)
  | namespaceManagement (c : Capsule)
  | abort (c : Capsule)
  | nvmeFlush (c : Capsule)
  | nvmeWrite (c : Capsule)
  | nvmeRead (c : Capsule)
  | writeZeroes (c : Capsule)
  | datasetManagement (c : Capsule)
  | reservationRegister (c : Capsule)
  | reservationReport (c : Capsule)
  | reservationAcquire (c : Capsule)
  | reservationRelease (c : Capsule)
  | invalidCommandOpcode (c : Capsule)
  | rdmaReadPullDone (qp cid : Nat) (data : List Byte)
  | katoExpired (cntlid : Nat)
  | cmdOverdue (qp cid : Nat)
  | rangeLockGrant (id : Nat)
  | ethFrameReceived (f : EthFrame)
  | pauseTimerExpiry (link prio : Nat)
  | pfcWatchdog (link prio : Nat)
  | xoffRepeat (link prio : Nat)
  | linkTxSelect (link : Nat)
  | fairQueueSelect (port : Nat)
  | shaperRefill
  | storageAttachmentServe
  | gateRunOpen (link prio : Nat)
  | fecWindow (port : Nat) (uncorrected corrected : List Nat)
  | ethLinkChange (link : Nat) (up : Bool)
  | ethApply (m : Master) (port : Nat) (value : Word)
  | tpkTblRead (m : Master) (value : Word)
  | tpkTblWrite (m : Master) (value : Word)
  | tssShpCommit (m : Master)
  | tssPolCommit (m : Master) (value : Word)
  | tandemFrameReceived (f : TandemFrame)
  | helloSend (link : Nat)
  | helloLoss (link : Nat)
  | reseqFlush (source flow : Nat)
  | reseqContextFree (source flow : Nat)
  | houseFrameEdge (at_ : Nat)
  | houseLineEdge (at_ : Nat)
  | sourceLost (source : Nat)
  | acqTimeout
  | holdClkFault
  | rulCtlRelock (m : Master) (value : Word)
  | rulCtlEn (m : Master) (value : Word)
  | rulCtlForceHold (m : Master) (value : Word)
  | rulTblSwap (m : Master)
  | rulTblCopy (m : Master)
  | frameStart
  | classWindowOpen (cls : Nat)
  | rulNowLoRead (m : Master)
  | descriptorClosePoint (d : Nat)
  | descriptorIdleClose (d : Nat)
  | drainSlotGrant (d : Nat)
  | driveBlockFetch (d strip block : Nat)
  | subStripeAdmit (d : Nat)
  | driveCompletion (id : Nat) (status : DriveStatus) (blocks : List Block)
  | driveWriteRetry (id : Nat)
  | batchExpiry
  | mirrorRecordsReceived (records : List BltRecord) (payload : List (Nat × List Byte)) (a ra : Nat)
  | mirrorAckReceived (rsn : Nat)
  | mirrorAckTimeout
  | partnerDiscovered (low high recordVersion mapVersion : Byte)
  | partnerCheckpointLoaded
  | pwrFailAsserted
  | pwrFailReleased
  | pfInternalThreshold
  | blotterReplay (blocks : List HomeBlock)
  | remirrorLate
  | checkpointInterval (segment : Nat)
  | ckptLag (segment : Nat)
  | layLocCmd (m : Master) (value : Word)
  | mapLoad (labels : List (Nat × List Label)) (entries : List (Nat × Nat × Nat))
  | readDelivery (id : Nat)
  | readGranuleGrant (id : Nat)
  | otrCheckStart
  | memberFailDeclare (member : Nat)
  | declarationEffect
  | relayStep
  | driveLinkTrained (slot speed width : Nat)
  | aerError (slot : Nat) (kind : AerKind)
  | aerCorrectable (slot : Nat)
  | driveAsyncEvent (slot : Nat) (critical : Bool)
  | cmdTimeout (id : Nat)
  | ctrlResetResult (slot : Nat) (ready : Bool)
  | slotPowerOffExpiry (slot : Nat)
  | bootTimeout (slot : Nat)
  | reservationAcquired (slot : Nat)
  | dpcCtlEn (m : Master) (value : Word)
  | dpqRetrain (m : Master) (slot : Nat)
  | dpqFormat (m : Master) (slot : Nat)
  | slotPoll (readings : List SlotReading)
  | insertDelayExpiry (slot : Nat)
  | sltCmdAttn (m : Master) (value : Word)
  | sltCmdCycle (m : Master)
  | sltCmdOff (m : Master)
  | sltCmdOn (m : Master)
  | cveTagRequest
  | cveVerifyRequest
  | entropyHealth (repetition : Bool)
  | entropyRestartDone (passed : Bool)
  | cveKeyLoad (m : Master)
  | cveKeyClear (m : Master)
  | entRestart (m : Master)
  | actPeerLow2ms
  | guardExpiry
  | claimLost
  | discoverTimeout
  | heartbeatSend
  | hbLineToggle
  | fovWdogKick (m : Master)
  | wdogExpiry
  | heartbeatReceived (msg : PartnerMsg)
  | hbInChange
  | pathSilent (line : Bool)
  | fenceAckSeen
  | fenceTimeout
  | actPeerFall
  | takeoverBlocked
  | fenceInAsserted
  | fenceInReleased
  | fenceRelease (m : Master)
  | autoReleaseExpiry
  | handoverMessage (msg : PartnerMsg)
  | resumedMessage (msg : PartnerMsg)
  | handoverTimeout
  | partnerLinkChange (lanes : Nat)
  | levelStall (level : Nat)
  | drlPoolHdrmWrite (m : Master) (value : Word)
  | poolSnapshot (m : Master) (value : Word)
  | correctableError (memory address : Nat) (device : Nat) (overwritten : Bool)
  | uncorrectableError (memory address : Nat) (syndrome : Word) (requester : MemRequester)
  | ceRateWindow (memory : Nat)
  | mapSegReload (segment : Nat)
  | scrubRead (memory : Nat)
  | memInjArm (m : Master) (value : Word)
  | memoryFill (failed : Nat)
  | eventPacketSend (session : Nat)
  | evtPendClear (m : Master) (group : Nat) (value : Word)
  | evtAlertMaskWrite (m : Master) (group : Nat) (value : Word)
  | pmcUpdateArrival
  | pmcFreeze (m : Master) (value : Word)
  | pmcSnap (m : Master)
  | pmcValPreset (m : Master) (value : Word)
  | lmonIdxCopy (m : Master) (value : Word)
  | lmonClear (m : Master)
  | lmonClearAll (m : Master)
  | lmonSelWrite (m : Master) (value : Word)
  | wblRecordWrite
  | wblFault
  | wblManual (m : Master)
  | mailboxDoorbell (ring pi : Nat) (pasid : Option Nat) (slots : List (List Byte))
  | mailboxReplyFree (m : Master) (ring ci : Nat)
  | dmaPiWrite (m : Master) (channel : Nat) (value : Word)
  | dmaDescriptorDone (channel : Nat) (descriptor : DmaDescriptor) (ending : DmaEnd) (data : List Byte)
  | dmaResume (m : Master) (channel : Nat)
  | bmeChange (value : Bool)
  | bar2Access (write : Bool) (address : Nat) (enables : List Bool) (data : List Byte)
  | mepWinWrite (m : Master) (value : Word)
  | perst
  | hotReset
  | functionLevelReset
  | epLinkChange (speed width : Nat)
  | smbusAddr (offset : Nat) (pecOk : Bool)
  | smbusRead
  | smbusWrite (value : Word) (pecOk : Bool)
  | smbusStatus
  | smbusTimeout
  | inputThreshold (millivolts : Nat)
  | insertionDelayExpiry
  | inrushTrip
  | energyTrip
  | powerGood
  | breakerTrip
  | fastTrip
  | offtimeExpiry
  | retryCountReset
  | pwrEnInChange (level : Bool)
  | partnerCycle (m : Master)
  | partnerCycleEnd
  | inputLost
  | keptStateExpiry
  | insertMsWrite (m : Master) (value : Word)
  | startStepComplete
  | startStepSlow
  | startStepFailed (cause : Nat)
  | drivesLate
  | modRstPin (asserted : Bool)
  | clkRstCtlModReset (m : Master)
  | clockCheck (khz : List Nat)
  | cpStopped (instance_ : Nat)
  | lvyMapLastWrite (m : Master) (value : Word)
  | lvyCfgWrite (m : Master) (value : Word)
  | rltIdxSnapshot (m : Master) (value : Word)
  | nibDidxSnapshot (m : Master) (value : Word)
  | hqeBindWordWrite (m : Master) (value : Word)
  | inkSpaceWrite (m : Master) (value : Word)
  | loReadLatch (m : Master) (offset : Nat)
  | rcRead (m : Master) (offset : Nat)
  | reservedOffsetAccess (m : Master) (offset : Nat) (write : Bool) (enables : Nat)
  | registerWrite (m : Master) (offset : Nat) (value : Word) (enables : Nat)
  | tempSample (eighths : Nat)
  | configSpaceWrite (register : Nat) (value : Word)
  | delayReqSend (link : Nat)
  | pwrFailDeasserted
  | plugInModuleOverpower (cage : Nat)
  deriving DecidableEq, Repr

end Sys2Proof
end

