-- ==== Sys2Proof/Config.lean ====
section
/-! DEFINITION. What one module fixes and the manual does not state: its identity, and the free values of the model. None
of these constants has a body, so a statement about them holds whatever they are. -/

namespace Sys2Proof

/-- The serial number of DEVID_SERIAL (R533: module identity). -/
opaque Config.serial : BitVec 64

/-- The base MAC address of DEVID_MAC (R533: module identity). -/
opaque Config.mac : BitVec 48

/-- The silicon revision of DEVID_REV and the variant code, 1 or 2. -/
opaque Config.revision : BitVec 8

/-- True for the SDF-4812-L (variant 2), false for the SDF-4812-A (variant 1). -/
opaque Config.variantL : Bool

/-- Free value `n` of the model: one that the manual leaves open and on which nothing in the model depends. The step that
needs one reads the counter `Dev.free` and advances it (DESIGN CHOICE: assumption log, entry 3). -/
opaque Config.free : Nat → Nat

/-- Byte `off` of NVMe data structure `page` (an Identify structure by 0x100 + CNS, a log page by 0x200 + LID) where the manual does not
give it (PRESUMED: assumption log, entry 28). -/
opaque Config.reportByte : Nat → Nat → BitVec 8

/-- The controller properties that the manual does not give: those bits of CAP, and VS (PRESUMED: assumption log, entry 28). -/
opaque Config.property : Nat → BitVec 64

/-- The link that leads to the peer of a QP, which the manual does not give (PRESUMED: assumption log, entry 36). -/
opaque Config.egressLink : Nat → Nat

/-- What the power entry supervisor measures for the register at an offset in a quantum: no command gives it (DESIGN CHOICE: assumption log, entry 3). -/
opaque Config.measured : Nat → Nat → BitVec 16

/-- What PTL_CNT items 0 to 3 (bytes sent and received, CRC errors, replays on the partner link) have counted in a quantum: no command gives
the lengths of the link's messages or its errors (DEDUCED: assumption log, entry 75). -/
opaque Config.linkCount : Nat → Nat → BitVec 64

end Sys2Proof
end

