-- ==== Sys2Proof/Machine/Bits.lean ====
section
/-! DEFINITION. Bit fields, little-endian byte strings (R6), the CRCs, and sparse tables of key and value pairs in one
canonical form: what every unit of the model is written with. -/

namespace Sys2Proof.Machine

/-- The `width` bits of `n` from bit `lsb` up (R6). -/
def bits (n lsb width : Nat) : Nat := (n / 2 ^ lsb) % 2 ^ width

/-- Bit `i` of `n`. -/
def bit (n i : Nat) : Bool := bits n i 1 == 1

/-- `n` with the `width` bits from `lsb` up replaced by `v` (taken modulo `2 ^ width`). -/
def setBits (n lsb width v : Nat) : Nat := n - bits n lsb width * 2 ^ lsb + (v % 2 ^ width) * 2 ^ lsb

/-- `n` with bit `i` set. -/
def setBit (n i : Nat) : Nat := setBits n i 1 1

/-- `n` with bit `i` cleared. -/
def clearBit (n i : Nat) : Nat := setBits n i 1 0

/-- A flag as a number. -/
def b2n (b : Bool) : Nat := if b then 1 else 0

/-- The bytes of `n`, least significant first, `k` of them (R6). -/
def leBytes : Nat → Nat → List Byte
  | 0, _ => []
  | k + 1, n => BitVec.ofNat 8 n :: leBytes k (n / 256)

/-- The number that bytes spell, least significant first (R6). -/
def leNat : List Byte → Nat
  | [] => 0
  | b :: t => b.toNat + 256 * leNat t

/-- The `k`-byte little-endian field at byte `off` of `l`; bytes beyond its end read as 0. -/
def fieldAt (l : List Byte) (off k : Nat) : Nat := leNat ((l.drop off).take k)

/-- `l` padded with zero bytes to a multiple of `k`. -/
def padTo (k : Nat) (l : List Byte) : List Byte := l ++ List.replicate ((k - l.length % k) % k) 0

/-- `l` cut or padded with zero bytes to exactly `k` bytes. -/
def fit (k : Nat) (l : List Byte) : List Byte := (l ++ List.replicate k 0).take k

/-- One bit of a reflected CRC with polynomial `poly`. -/
def crcBit (poly c : Nat) : Nat := if c % 2 = 1 then Nat.xor (c / 2) poly else c / 2

/-- One byte of a reflected CRC. -/
def crcByte (poly c : Nat) (b : Byte) : Nat :=
  let x := Nat.xor c b.toNat
  crcBit poly (crcBit poly (crcBit poly (crcBit poly (crcBit poly (crcBit poly (crcBit poly (crcBit poly x)))))))

/-- CRC-32C over a byte string (R66): reflected Castagnoli polynomial, initial value and final XOR all ones. -/
def crc32c (l : List Byte) : Nat := Nat.xor (l.foldl (crcByte 0x82F63B78) 0xFFFFFFFF) 0xFFFFFFFF

/-- `v` brought into the range from `lo` to `hi` (R85). -/
def clampNat (lo hi v : Nat) : Nat := if v < lo then lo else if hi < v then hi else v

/-- Ceiling of a quotient. -/
def ceilDiv (a b : Nat) : Nat := (a + b - 1) / b

/-- The number of quanta of 1.25 ns in `ms` milliseconds (R31). -/
def quantaMs (ms : Nat) : Nat := ms * 800000

/-- The number of quanta of 1.25 ns in `us` microseconds (R31). -/
def quantaUs (us : Nat) : Nat := us * 800

/-- The value a sparse table holds at `k`; an unlisted key holds `dflt k`. -/
def sget {α : Type} (dflt : Nat → α) : List (Nat × α) → Nat → α
  | [], k => dflt k
  | (a, v) :: t, k => if a = k then v else sget dflt t k

/-- The table with `v` at `k`: keys stay strictly rising, and writing the value an unlisted key holds removes the entry. -/
def sput {α : Type} [DecidableEq α] (dflt : Nat → α) : List (Nat × α) → Nat → α → List (Nat × α)
  | [], k, v => if v = dflt k then [] else [(k, v)]
  | (a, w) :: t, k, v =>
    if k < a then (if v = dflt k then (a, w) :: t else (k, v) :: (a, w) :: t)
    else if k = a then (if v = dflt k then t else (k, v) :: t)
    else (a, w) :: sput dflt t k v

/-- The canonical form of a sparse table: keys strictly rising, no entry equal to what an unlisted key holds. -/
def swf {α : Type} [DecidableEq α] (dflt : Nat → α) : List (Nat × α) → Bool
  | [] => true
  | [(a, v)] => decide (v ≠ dflt a)
  | (a, v) :: (b, w) :: t => decide (v ≠ dflt a) && decide (a < b) && swf dflt ((b, w) :: t)

/-- Every entry whose key is `k`, changed by `f`. -/
def modifyAt {α : Type} (key : α → Nat) (k : Nat) (f : α → α) (l : List α) : List α :=
  l.map fun x => if key x = k then f x else x

/-- The first entry whose key is `k`. -/
def findAt {α : Type} (key : α → Nat) (k : Nat) (l : List α) : Option α := l.find? fun x => key x == k

/-- The entries whose key is not `k`. -/
def dropAt {α : Type} (key : α → Nat) (k : Nat) (l : List α) : List α := l.filter fun x => key x != k

/-- The lowest number below `n` that is not the key of an entry. -/
def freeKey {α : Type} (key : α → Nat) (l : List α) : Nat → Nat → Option Nat
  | 0, _ => none
  | n + 1, i => if l.any (fun x => key x == i) then freeKey key l n (i + 1) else some i

/-- Floor of the binary logarithm, at most `fuel`; 0 for 0. -/
def log2 : Nat → Nat → Nat
  | 0, _ => 0
  | fuel + 1, n => if n < 2 then 0 else 1 + log2 fuel (n / 2)

end Sys2Proof.Machine
end

