-- ==== Sys2Proof/Machine/RegNames.lean ====
section
/-! DEFINITION. The offsets of the registers, as the register tables of the chapters give them (R527). A register that
stands once per port, slot or index is named by its first copy. -/

namespace Sys2Proof.Machine.Reg

abbrev devidId : Nat := 0x000000
abbrev devidRev : Nat := 0x000004
abbrev devidSerialLo : Nat := 0x000008
abbrev devidSerialHi : Nat := 0x00000C
abbrev devidMacLo : Nat := 0x000010
abbrev devidMacHi : Nat := 0x000014
abbrev devidFw : Nat := 0x000018
abbrev devidIfvLo : Nat := 0x000100
abbrev devidIfvHi : Nat := 0x000104
abbrev mcrScratch : Nat := 0x010000
abbrev mcrStatus : Nat := 0x010004
abbrev mcrTemp : Nat := 0x010008
abbrev mcrTherm : Nat := 0x01000C
abbrev mcrInd : Nat := 0x010010
abbrev mcrRsvdAddr : Nat := 0x010014
abbrev mcrRsvdCnt : Nat := 0x010018
abbrev mcrErr : Nat := 0x01001C
abbrev clkStatus : Nat := 0x020000
abbrev clkDomIdx : Nat := 0x020004
abbrev clkDomStat : Nat := 0x020008
abbrev clkStart : Nat := 0x02000C
abbrev clkStartMs : Nat := 0x020010
abbrev clkRstCause : Nat := 0x020014
abbrev clkRstCtl : Nat := 0x020018
abbrev clkBoot : Nat := 0x02001C
abbrev clkErr : Nat := 0x020020
abbrev pesCtl : Nat := 0x030000
abbrev pesCfg : Nat := 0x030004
abbrev pesStatus : Nat := 0x030008
abbrev pesFault : Nat := 0x03000C
abbrev pesVin : Nat := 0x030010
abbrev pesVout : Nat := 0x030014
abbrev pesIin : Nat := 0x030018
abbrev pesPin : Nat := 0x03001C
abbrev pesErr : Nat := 0x030020
abbrev pesCntIdx : Nat := 0x030024
abbrev pesCntLo : Nat := 0x030028
abbrev pesCntHi : Nat := 0x03002C
abbrev rulCtl : Nat := 0x040000
abbrev rulStatus : Nat := 0x040004
abbrev rulSrcPrio : Nat := 0x040008
abbrev rulRateNum : Nat := 0x04000C
abbrev rulRateDen : Nat := 0x040010
abbrev rulLpf : Nat := 0x040014
abbrev rulPtpCfg : Nat := 0x040018
abbrev rulInbandDly : Nat := 0x04001C
abbrev rulPhaseErr : Nat := 0x040020
abbrev rulNowLo : Nat := 0x040024
abbrev rulNowHi : Nat := 0x040028
abbrev rulTblCtl : Nat := 0x04002C
abbrev rulErr : Nat := 0x040030
abbrev rulEpb : Nat := 0x040100
abbrev rulWinLines : Nat := 0x040200
abbrev rulWinMask : Nat := 0x040204
abbrev cmdCtl : Nat := 0x050000
abbrev cmdStatus : Nat := 0x050004
abbrev cmdVer : Nat := 0x050008
abbrev cmdUdpCfg : Nat := 0x05000C
abbrev cmdSessIdle : Nat := 0x050010
abbrev cmdCookieHold : Nat := 0x050014
abbrev cmdSessCnt : Nat := 0x050018
abbrev cmdHeldCnt : Nat := 0x05001C
abbrev cmdRxDiscard : Nat := 0x050020
abbrev cmdDupCnt : Nat := 0x050024
abbrev cmdHeldDrop : Nat := 0x050028
abbrev cmdErr : Nat := 0x05002C
abbrev evtCtl : Nat := 0x060000
abbrev evtStatus : Nat := 0x060004
abbrev evtSeq : Nat := 0x060008
abbrev evtErr : Nat := 0x06000C
abbrev evtPktDrop : Nat := 0x060010
abbrev evtPend : Nat := 0x060040
abbrev evtMsixMask : Nat := 0x060080
abbrev evtAlertMask : Nat := 0x0600C0
abbrev evtPktMask : Nat := 0x060100
abbrev pmcCtl : Nat := 0x070000
abbrev pmcStatus : Nat := 0x070004
abbrev pmcIdx : Nat := 0x070008
abbrev pmcSel : Nat := 0x07000C
abbrev pmcOwn : Nat := 0x070010
abbrev pmcValLo : Nat := 0x070014
abbrev pmcValHi : Nat := 0x070018
abbrev pmcOvf : Nat := 0x070020
abbrev pmcSnapRtsLo : Nat := 0x070040
abbrev pmcSnapRtsHi : Nat := 0x070044
abbrev lmonIdx : Nat := 0x080000
abbrev lmonSel : Nat := 0x080004
abbrev lmonCtl : Nat := 0x080008
abbrev lmonMin : Nat := 0x08000C
abbrev lmonMax : Nat := 0x080010
abbrev lmonCountLo : Nat := 0x080014
abbrev lmonCountHi : Nat := 0x080018
abbrev lmonSumLo : Nat := 0x08001C
abbrev lmonSumHi : Nat := 0x080020
abbrev lmonBinIdx : Nat := 0x080024
abbrev lmonBin : Nat := 0x080028
abbrev wblCtl : Nat := 0x090000
abbrev wblStatus : Nat := 0x090004
abbrev wblSeqLo : Nat := 0x090008
abbrev wblSeqHi : Nat := 0x09000C
abbrev wblOldestLo : Nat := 0x090010
abbrev wblOldestHi : Nat := 0x090014
abbrev wblHours : Nat := 0x090018
abbrev wblCycles : Nat := 0x09001C
abbrev wblDrop : Nat := 0x090020
abbrev wblErr : Nat := 0x090024
abbrev wblTrig : Nat := 0x090040
abbrev wblSnap : Nat := 0x090100
abbrev memStatus : Nat := 0x0A0000
abbrev memCeThr : Nat := 0x0A0004
abbrev memUeAddrLo : Nat := 0x0A0008
abbrev memUeAddrHi : Nat := 0x0A000C
abbrev memUeSyn : Nat := 0x0A0010
abbrev memInj : Nat := 0x0A0014
abbrev memErr : Nat := 0x0A0018
abbrev memCntIdx : Nat := 0x0A001C
abbrev memCntLo : Nat := 0x0A0020
abbrev memCntHi : Nat := 0x0A0024
abbrev scbCtl : Nat := 0x0B0000
abbrev scbRate : Nat := 0x0B0004
abbrev scbIdx : Nat := 0x0B0020
abbrev scbPosLo : Nat := 0x0B0024
abbrev scbPosHi : Nat := 0x0B0028
abbrev scbPasses : Nat := 0x0B002C
abbrev scbErr : Nat := 0x0B0030
abbrev cveCtl : Nat := 0x0C0000
abbrev cveStatus : Nat := 0x0C0004
abbrev cveKeyIdx : Nat := 0x0C0008
abbrev cveKeyCfg : Nat := 0x0C000C
abbrev cveSalt : Nat := 0x0C0010
abbrev cveLimitLo : Nat := 0x0C0014
abbrev cveLimitHi : Nat := 0x0C0018
abbrev cveKeyCmd : Nat := 0x0C001C
abbrev cveKeyData : Nat := 0x0C0020
abbrev cveKeyState : Nat := 0x0C0040
abbrev cveUseLo : Nat := 0x0C0044
abbrev cveUseHi : Nat := 0x0C0048
abbrev cveKcv : Nat := 0x0C004C
abbrev cveLvyIdx : Nat := 0x0C0050
abbrev cveLvyCfg : Nat := 0x0C0054
abbrev cveErr : Nat := 0x0C0058
abbrev cveCntIdx : Nat := 0x0C005C
abbrev cveCntLo : Nat := 0x0C0060
abbrev cveCntHi : Nat := 0x0C0064
abbrev fovCtl : Nat := 0x0D0000
abbrev fovStatus : Nat := 0x0D0004
abbrev fovTiming : Nat := 0x0D0008
abbrev fovTiming2 : Nat := 0x0D000C
abbrev fovWdog : Nat := 0x0D0010
abbrev fovLast : Nat := 0x0D0014
abbrev fovErr : Nat := 0x0D0018
abbrev fovCntIdx : Nat := 0x0D001C
abbrev fovCntLo : Nat := 0x0D0020
abbrev fovCntHi : Nat := 0x0D0024
abbrev ptlCtl : Nat := 0x0E0000
abbrev ptlStatus : Nat := 0x0E0004
abbrev ptlErr : Nat := 0x0E0008
abbrev ptlCntIdx : Nat := 0x0E000C
abbrev ptlCntLo : Nat := 0x0E0010
abbrev ptlCntHi : Nat := 0x0E0014
abbrev mepCtl : Nat := 0x0F0000
abbrev mepStatus : Nat := 0x0F0004
abbrev mepWin : Nat := 0x0F0008
abbrev mepErr : Nat := 0x0F000C
abbrev mepCntIdx : Nat := 0x0F0010
abbrev mepCntLo : Nat := 0x0F0014
abbrev mepCntHi : Nat := 0x0F0018
abbrev mepRingCfg : Nat := 0x0F0100
abbrev mepRingReq : Nat := 0x0F0104
abbrev mepRingRsp : Nat := 0x0F0108
abbrev mepDmaRingLo : Nat := 0x0F0200
abbrev mepDmaRingHi : Nat := 0x0F0204
abbrev mepDmaCtl : Nat := 0x0F0208
abbrev mepDmaPi : Nat := 0x0F020C
abbrev mepDmaStat : Nat := 0x0F0210
abbrev msixTable : Nat := 0x0F8000
abbrev msixPba : Nat := 0x0FA000
abbrev ethCtl : Nat := 0x100000
abbrev ethVlan : Nat := 0x100004
abbrev ethPfc : Nat := 0x100008
abbrev ethPfcWd : Nat := 0x10000C
abbrev ethStatus : Nat := 0x100010
abbrev ethErr : Nat := 0x100014
abbrev ethPtpAdj : Nat := 0x100018
abbrev ethFecThr : Nat := 0x10001C
abbrev ethCntIdx : Nat := 0x100020
abbrev ethCntLo : Nat := 0x100024
abbrev ethCntHi : Nat := 0x100028
abbrev ethDscp : Nat := 0x100040
abbrev tpkCtl : Nat := 0x1C0000
abbrev tpkErr : Nat := 0x1C0004
abbrev tpkMacLo : Nat := 0x1C0008
abbrev tpkMacHi : Nat := 0x1C000C
abbrev tpkTblCmd : Nat := 0x1C0010
abbrev tpkTblData : Nat := 0x1C0020
abbrev tbmBulkHi : Nat := 0x1D0000
abbrev tbmOvfGuar : Nat := 0x1D0004
abbrev tbmOvfCap : Nat := 0x1D0008
abbrev tbmPfcHdrm : Nat := 0x1D000C
abbrev tbmPfcHyst : Nat := 0x1D0010
abbrev tbmShmXoff : Nat := 0x1D0014
abbrev tbmAlpha : Nat := 0x1D0018
abbrev tbmFree : Nat := 0x1D001C
abbrev tbmOvfUse : Nat := 0x1D0020
abbrev tbmRedIdx : Nat := 0x1D0030
abbrev tbmRedMin : Nat := 0x1D0034
abbrev tbmRedMax : Nat := 0x1D0038
abbrev tbmRedCfg : Nat := 0x1D003C
abbrev tbmCntIdx : Nat := 0x1D0040
abbrev tbmCntLo : Nat := 0x1D0044
abbrev tbmCntHi : Nat := 0x1D0048
abbrev tssShpIdx : Nat := 0x1E0000
abbrev tssShpRate : Nat := 0x1E0004
abbrev tssShpHi : Nat := 0x1E0008
abbrev tssShpLo : Nat := 0x1E000C
abbrev tssShpCmd : Nat := 0x1E0010
abbrev tssShpCredit : Nat := 0x1E0014
abbrev tssPolIdx : Nat := 0x1E0020
abbrev tssPolCir : Nat := 0x1E0024
abbrev tssPolPir : Nat := 0x1E0028
abbrev tssPolCbs : Nat := 0x1E002C
abbrev tssPolPbs : Nat := 0x1E0030
abbrev tssPolCtl : Nat := 0x1E0034
abbrev tssPolDrop : Nat := 0x1E0038
abbrev tssLinkIdx : Nat := 0x1E0040
abbrev tssLinkSched : Nat := 0x1E0044
abbrev tssLinkWrr0 : Nat := 0x1E0048
abbrev tssLinkWrr1 : Nat := 0x1E004C
abbrev tssWfqIdx : Nat := 0x1E0050
abbrev tssWfqWt : Nat := 0x1E0054
abbrev tssCtrlRate : Nat := 0x1E0058
abbrev tssGateDrop : Nat := 0x1E005C
abbrev tdmCtl : Nat := 0x1F0000
abbrev tdmId : Nat := 0x1F0004
abbrev tdmUdp : Nat := 0x1F0008
abbrev tdmTiming : Nat := 0x1F000C
abbrev tdmBudget : Nat := 0x1F0010
abbrev tdmStatus : Nat := 0x1F0014
abbrev tdmErr : Nat := 0x1F0018
abbrev tdmLinkIdx : Nat := 0x1F0020
abbrev tdmLinkState : Nat := 0x1F0024
abbrev tdmGrpIdx : Nat := 0x1F0030
abbrev tdmGrpMask : Nat := 0x1F0034
abbrev tdmGrpCtl : Nat := 0x1F0040
abbrev tdmTblCmd : Nat := 0x1F0050
abbrev tdmTblData : Nat := 0x1F0054
abbrev tdmCntIdx : Nat := 0x1F0060
abbrev tdmCntLo : Nat := 0x1F0064
abbrev tdmCntHi : Nat := 0x1F0068
abbrev raeCtl : Nat := 0x200000
abbrev raeStatus : Nat := 0x200004
abbrev raeCm : Nat := 0x200008
abbrev raeMtu : Nat := 0x20000C
abbrev raeCacheCfg : Nat := 0x200010
abbrev raeCacheStat : Nat := 0x200014
abbrev raeParkStat : Nat := 0x200018
abbrev raeCc : Nat := 0x20001C
abbrev raeRetry : Nat := 0x200020
abbrev raePfWait : Nat := 0x200024
abbrev raeErr : Nat := 0x200028
abbrev raeQpIdx : Nat := 0x20002C
abbrev raeQpState : Nat := 0x200030
abbrev raeCntIdx : Nat := 0x200034
abbrev raeCntLo : Nat := 0x200038
abbrev raeCntHi : Nat := 0x20003C
abbrev inkCtl : Nat := 0x210000
abbrev inkStatus : Nat := 0x210004
abbrev inkRevokeWait : Nat := 0x210008
abbrev inkIdx : Nat := 0x21000C
abbrev inkKey : Nat := 0x210010
abbrev inkInfo : Nat := 0x210014
abbrev inkSize : Nat := 0x210018
abbrev inkLastImm : Nat := 0x21001C
abbrev inkErr : Nat := 0x210020
abbrev hqeCtl : Nat := 0x220000
abbrev hqeStatus : Nat := 0x220004
abbrev hqeKato : Nat := 0x220008
abbrev hqeCto : Nat := 0x22000C
abbrev hqeLimits : Nat := 0x220010
abbrev hqePstate : Nat := 0x220014
abbrev hqeErr : Nat := 0x220018
abbrev hqeBindIdx : Nat := 0x22001C
abbrev hqeBindData : Nat := 0x220020
abbrev hqeCntIdx : Nat := 0x220024
abbrev hqeCntLo : Nat := 0x220028
abbrev hqeCntHi : Nat := 0x22002C
abbrev rltStatus : Nat := 0x230000
abbrev rltErr : Nat := 0x230004
abbrev rltIdx : Nat := 0x230008
abbrev rltEnt : Nat := 0x23000C
abbrev rltCntIdx : Nat := 0x230020
abbrev rltCntLo : Nat := 0x230024
abbrev rltCntHi : Nat := 0x230028
abbrev lvyStatus : Nat := 0x240000
abbrev lvyIdx : Nat := 0x240004
abbrev lvyState : Nat := 0x240008
abbrev lvyCfg : Nat := 0x24000C
abbrev lvyMapIdx : Nat := 0x240010
abbrev lvyMapFirst : Nat := 0x240014
abbrev lvyMapLast : Nat := 0x240018
abbrev lvyImg : Nat := 0x24001C
abbrev lvyUnmapped : Nat := 0x240020
abbrev lvyErr : Nat := 0x240024
abbrev lvyCntIdx : Nat := 0x240028
abbrev lvyCntLo : Nat := 0x24002C
abbrev lvyCntHi : Nat := 0x240030
abbrev layStatus : Nat := 0x250000
abbrev laySeedLo : Nat := 0x250004
abbrev laySeedHi : Nat := 0x250008
abbrev layUnitsLo : Nat := 0x25000C
abbrev layUnitsHi : Nat := 0x250010
abbrev layPhysLo : Nat := 0x250014
abbrev layPhysHi : Nat := 0x250018
abbrev layFreeLo : Nat := 0x25001C
abbrev layFreeHi : Nat := 0x250020
abbrev layCkpt : Nat := 0x250024
abbrev layCkptStat : Nat := 0x250028
abbrev layLocPsi : Nat := 0x25002C
abbrev layLocCmd : Nat := 0x250030
abbrev layLocOut : Nat := 0x250034
abbrev layLocBlk : Nat := 0x250038
abbrev layErr : Nat := 0x25003C
abbrev layLocBlkHi : Nat := 0x250040
abbrev nibCtl : Nat := 0x260000
abbrev nibStatus : Nat := 0x260004
abbrev nibCommit : Nat := 0x260008
abbrev nibSub : Nat := 0x26000C
abbrev nibDesc : Nat := 0x260010
abbrev nibSeqLo : Nat := 0x260014
abbrev nibSeqHi : Nat := 0x260018
abbrev nibDidx : Nat := 0x26001C
abbrev nibDinfo : Nat := 0x260020
abbrev nibDlsLo : Nat := 0x260024
abbrev nibDlsHi : Nat := 0x260028
abbrev nibErr : Nat := 0x26002C
abbrev nibCntIdx : Nat := 0x260030
abbrev nibCntLo : Nat := 0x260034
abbrev nibCntHi : Nat := 0x260038
abbrev nibRdCtl : Nat := 0x260100
abbrev nibRdStage : Nat := 0x260104
abbrev nibRdSpill : Nat := 0x260108
abbrev nibRdCntIdx : Nat := 0x260110
abbrev nibRdCntLo : Nat := 0x260114
abbrev nibRdCntHi : Nat := 0x260118
abbrev nibRdCvmask : Nat := 0x260120
abbrev bltCtl : Nat := 0x270000
abbrev bltStatus : Nat := 0x270004
abbrev bltHeadLo : Nat := 0x270008
abbrev bltHeadHi : Nat := 0x27000C
abbrev bltTailLo : Nat := 0x270010
abbrev bltTailHi : Nat := 0x270014
abbrev bltAckLo : Nat := 0x270018
abbrev bltAckHi : Nat := 0x27001C
abbrev bltRsnLo : Nat := 0x270020
abbrev bltRsnHi : Nat := 0x270024
abbrev bltRingUse : Nat := 0x270028
abbrev bltPayUse : Nat := 0x27002C
abbrev bltRemirror : Nat := 0x270030
abbrev bltRplELo : Nat := 0x270034
abbrev bltRplEHi : Nat := 0x270038
abbrev bltErr : Nat := 0x27003C
abbrev bltCntIdx : Nat := 0x270040
abbrev bltCntLo : Nat := 0x270044
abbrev bltCntHi : Nat := 0x270048
abbrev otrCtl : Nat := 0x280000
abbrev otrRate : Nat := 0x280004
abbrev otrStatus : Nat := 0x280008
abbrev otrCursorLo : Nat := 0x28000C
abbrev otrCursorHi : Nat := 0x280010
abbrev otrSuspUse : Nat := 0x280014
abbrev otrFrameUsed : Nat := 0x280018
abbrev otrErr : Nat := 0x28001C
abbrev otrCntIdx : Nat := 0x280020
abbrev otrCntLo : Nat := 0x280024
abbrev otrCntHi : Nat := 0x280028
abbrev rlyCtl : Nat := 0x290000
abbrev rlyBudget : Nat := 0x290004
abbrev rlyStatus : Nat := 0x290008
abbrev rlyCursorLo : Nat := 0x29000C
abbrev rlyCursorHi : Nat := 0x290010
abbrev rlyPeriods : Nat := 0x290014
abbrev rlyMidx : Nat := 0x290018
abbrev rlyMstate : Nat := 0x29001C
abbrev rlyMcb : Nat := 0x290020
abbrev rlyMunbLo : Nat := 0x290024
abbrev rlyMunbHi : Nat := 0x290028
abbrev rlyLost : Nat := 0x29002C
abbrev rlyErr : Nat := 0x290030
abbrev rlyCntIdx : Nat := 0x290034
abbrev rlyCntLo : Nat := 0x290038
abbrev rlyCntHi : Nat := 0x29003C
abbrev dpcCtl : Nat := 0x2A0000
abbrev dpcTimeout : Nat := 0x2A0004
abbrev dpcEsc : Nat := 0x2A0008
abbrev dpcSlotpwr : Nat := 0x2A000C
abbrev dpcResvKeyLo : Nat := 0x2A0010
abbrev dpcResvKeyHi : Nat := 0x2A0014
abbrev dpcStatus : Nat := 0x2A0018
abbrev dpcErr : Nat := 0x2A001C
abbrev dpcCntIdx : Nat := 0x2A0020
abbrev dpcCntLo : Nat := 0x2A0024
abbrev dpcCntHi : Nat := 0x2A0028
abbrev dpqCtl : Nat := 0x2B0000
abbrev dpqStatus : Nat := 0x2B0004
abbrev dpqAer : Nat := 0x2B0008
abbrev dpqQd : Nat := 0x2B000C
abbrev sltCtl : Nat := 0x370000
abbrev sltPresentLo : Nat := 0x370004
abbrev sltPresentHi : Nat := 0x370008
abbrev sltIdx : Nat := 0x37000C
abbrev sltCmd : Nat := 0x370010
abbrev sltStat : Nat := 0x370014
abbrev sltErr : Nat := 0x370018
abbrev sltBusErr : Nat := 0x37001C
abbrev drlCtl : Nat := 0x380000
abbrev drlStatus : Nat := 0x380004
abbrev drlCtrl : Nat := 0x380008
abbrev drlPoolIdx : Nat := 0x38000C
abbrev drlPoolCap : Nat := 0x380010
abbrev drlPoolUse : Nat := 0x380014
abbrev drlPoolHdrm : Nat := 0x380018
abbrev drlPoolHfree : Nat := 0x38001C
abbrev drlPoolPeak : Nat := 0x380020
abbrev drlErr : Nat := 0x380024
abbrev drlCntIdx : Nat := 0x380028
abbrev drlCntLo : Nat := 0x38002C
abbrev drlCntHi : Nat := 0x380030

end Sys2Proof.Machine.Reg
end

