-- ==== Sys2Proof/Machine/RegTable.lean ====
section
/-! DEFINITION. The register tables of the chapters: for each register of a block its offset, how many copies stand at
which stride, the index register that selects the entry it shows (R527 to R533), and each field that software can change
with its access type, reset value and clamp range. Read-only fields are computed from the state (Views.lean). -/

namespace Sys2Proof.Machine

/-- The access types of R528 (RO fields have no row). -/
inductive Acc where
  | rw | w1c | w1s | rc | wo
  deriving DecidableEq, Repr

/-- A field: lowest bit, width, access, reset value, and the range into which a written value is clamped (R85). -/
structure RegField where
  lsb : Nat
  width : Nat
  acc : Acc
  reset : Nat
  lo : Nat
  hi : Nat
  deriving DecidableEq, Repr

/-- A register of a block. `idx` names the register and field that select the entry it shows, `none` for a plain one. -/
structure RegRow where
  off : Nat
  count : Nat
  stride : Nat
  idx : Option (Nat × Nat)
  fields : List RegField
  deriving DecidableEq, Repr

/-- A field with its whole range permitted. -/
def fld (lsb width : Nat) (acc : Acc) (reset : Nat) : RegField := ⟨lsb, width, acc, reset, 0, 2 ^ width - 1⟩

/-- A read-write field with a clamp range. -/
def cfld (lsb width reset lo hi : Nat) : RegField := ⟨lsb, width, .rw, reset, lo, hi⟩

/-- A single register. -/
def reg1 (off : Nat) (fields : List RegField) : RegRow := ⟨off, 1, 4, none, fields⟩

/-- `count` registers, `stride` bytes apart. -/
def regN (off count stride : Nat) (fields : List RegField) : RegRow := ⟨off, count, stride, none, fields⟩

/-- A register that shows the entry an index register selects: `idx` is the index register, `w` its field's width. -/
def regI (off count idx w : Nat) (fields : List RegField) : RegRow := ⟨off, count, 4, some (idx, w), fields⟩

/-- Block 0x00, DEVID. -/
def tableDevid : List RegRow :=
[ reg1 (Reg.devidId % 0x10000) [],
    reg1 (Reg.devidRev % 0x10000) [],
    reg1 (Reg.devidSerialLo % 0x10000) [],
    reg1 (Reg.devidSerialHi % 0x10000) [],
    reg1 (Reg.devidMacLo % 0x10000) [],
    reg1 (Reg.devidMacHi % 0x10000) [],
    reg1 (Reg.devidFw % 0x10000) [],
    regN (Reg.devidIfvLo % 0x10000) 10 8 [],
    regN (Reg.devidIfvHi % 0x10000) 10 8 [] ]

/-- Block 0x01, MCR. -/
def tableMcr : List RegRow :=
[ reg1 (Reg.mcrScratch % 0x10000) [fld 0 32 .rw 0],
    reg1 (Reg.mcrStatus % 0x10000) [],
    reg1 (Reg.mcrTemp % 0x10000) [],
    reg1 (Reg.mcrTherm % 0x10000) [cfld 0 8 95 60 115, cfld 8 8 110 61 125],
    reg1 (Reg.mcrInd % 0x10000) [cfld 0 2 0 0 2],
    reg1 (Reg.mcrRsvdAddr % 0x10000) [],
    reg1 (Reg.mcrRsvdCnt % 0x10000) [fld 0 32 .rc 0],
    reg1 (Reg.mcrErr % 0x10000) [fld 0 3 .w1c 0] ]

/-- Block 0x02, CLK. -/
def tableClk : List RegRow :=
[ reg1 (Reg.clkStatus % 0x10000) [],
    reg1 (Reg.clkDomIdx % 0x10000) [cfld 0 6 0 0 59],
    reg1 (Reg.clkDomStat % 0x10000) [],
    reg1 (Reg.clkStart % 0x10000) [],
    reg1 (Reg.clkStartMs % 0x10000) [],
    reg1 (Reg.clkRstCause % 0x10000) [],
    reg1 (Reg.clkRstCtl % 0x10000) [fld 0 1 .w1s 0],
    reg1 (Reg.clkBoot % 0x10000) [],
    reg1 (Reg.clkErr % 0x10000) [fld 0 7 .w1c 0] ]

/-- Block 0x03, PES. -/
def tablePes : List RegRow :=
[ reg1 (Reg.pesCtl % 0x10000) [fld 0 1 .w1s 0],
    reg1 (Reg.pesCfg % 0x10000) [cfld 0 9 0 25 400, cfld 16 9 440 430 460, fld 25 1 .rw 1],
    reg1 (Reg.pesStatus % 0x10000) [],
    reg1 (Reg.pesFault % 0x10000) [fld 0 1 .w1c 0, fld 1 1 .w1c 0, fld 2 1 .w1c 0, fld 3 1 .w1c 0, fld 4 1 .w1c 0, fld 5 1 .w1c 0, fld 6 1 .w1c 0, fld 7 1 .w1c 0, fld 8 1 .w1c 0],
    reg1 (Reg.pesVin % 0x10000) [],
    reg1 (Reg.pesVout % 0x10000) [],
    reg1 (Reg.pesIin % 0x10000) [],
    reg1 (Reg.pesPin % 0x10000) [],
    reg1 (Reg.pesErr % 0x10000) [fld 0 10 .w1c 0],
    reg1 (Reg.pesCntIdx % 0x10000) [fld 0 3 .rw 0],
    reg1 (Reg.pesCntLo % 0x10000) [],
    reg1 (Reg.pesCntHi % 0x10000) [] ]

/-- Block 0x04, RUL. -/
def tableRul : List RegRow :=
[ reg1 (Reg.rulCtl % 0x10000) [fld 0 1 .rw 1, fld 1 1 .w1s 0, fld 2 1 .rw 0, fld 3 1 .rw 0, cfld 8 8 4 1 255, cfld 16 16 2000 100 60000],
    reg1 (Reg.rulStatus % 0x10000) [],
    reg1 (Reg.rulSrcPrio % 0x10000) [fld 0 6 .rw 33],
    reg1 (Reg.rulRateNum % 0x10000) [fld 0 32 .rw 24],
    reg1 (Reg.rulRateDen % 0x10000) [fld 0 32 .rw 1],
    reg1 (Reg.rulLpf % 0x10000) [cfld 0 14 1125 1 16383],
    reg1 (Reg.rulPtpCfg % 0x10000) [fld 0 8 .rw 127, fld 8 12 .rw 255, cfld 20 4 4 2 15, fld 24 1 .rw 0],
    reg1 (Reg.rulInbandDly % 0x10000) [cfld 0 32 0 0 1000000],
    reg1 (Reg.rulPhaseErr % 0x10000) [],
    reg1 (Reg.rulNowLo % 0x10000) [],
    reg1 (Reg.rulNowHi % 0x10000) [],
    reg1 (Reg.rulTblCtl % 0x10000) [fld 0 1 .w1s 0, fld 1 1 .w1s 0] ]
  ++ [ reg1 (Reg.rulErr % 0x10000) [fld 0 1 .w1c 0, fld 1 1 .w1c 0, fld 2 1 .w1c 0, fld 3 1 .w1c 0],
    regN (Reg.rulEpb % 0x10000) 32 4 [],
    regN (Reg.rulWinLines % 0x10000) 64 8 [fld 0 14 .rw 0, fld 16 14 .rw 0, fld 31 1 .rw 0],
    regN (Reg.rulWinMask % 0x10000) 64 8 [fld 0 16 .rw 0] ]

/-- Block 0x05, CMD. -/
def tableCmd : List RegRow :=
[ reg1 (Reg.cmdCtl % 0x10000) [fld 0 1 .rw 1, fld 1 1 .rw 1, fld 2 1 .rw 1, fld 3 1 .rw 1, fld 4 1 .rw 1],
    reg1 (Reg.cmdStatus % 0x10000) [],
    reg1 (Reg.cmdVer % 0x10000) [],
    reg1 (Reg.cmdUdpCfg % 0x10000) [cfld 0 12 4000 1 4094, fld 12 3 .rw 7, fld 16 16 .rw 18451],
    reg1 (Reg.cmdSessIdle % 0x10000) [cfld 0 20 30000 100 600000],
    reg1 (Reg.cmdCookieHold % 0x10000) [cfld 0 12 10 1 3600],
    reg1 (Reg.cmdSessCnt % 0x10000) [],
    reg1 (Reg.cmdHeldCnt % 0x10000) [],
    reg1 (Reg.cmdRxDiscard % 0x10000) [fld 0 32 .rc 0],
    reg1 (Reg.cmdDupCnt % 0x10000) [fld 0 32 .rc 0],
    reg1 (Reg.cmdHeldDrop % 0x10000) [fld 0 32 .rc 0],
    reg1 (Reg.cmdErr % 0x10000) [fld 0 1 .w1c 0, fld 1 1 .w1c 0, fld 2 1 .w1c 0, fld 3 1 .w1c 0, fld 4 4 .w1c 0] ]

/-- Block 0x06, EVT. -/
def tableEvt : List RegRow :=
[ reg1 (Reg.evtCtl % 0x10000) [fld 0 1 .rw 1, fld 1 1 .rw 1],
    reg1 (Reg.evtStatus % 0x10000) [],
    reg1 (Reg.evtSeq % 0x10000) [],
    reg1 (Reg.evtErr % 0x10000) [fld 0 4 .w1c 0],
    reg1 (Reg.evtPktDrop % 0x10000) [fld 0 32 .rc 0],
    regN (Reg.evtPend % 0x10000) 16 4 [fld 0 32 .w1c 0],
    regN (Reg.evtMsixMask % 0x10000) 16 4 [fld 0 32 .rw 0],
    regN (Reg.evtAlertMask % 0x10000) 16 4 [fld 0 32 .rw 0],
    regN (Reg.evtPktMask % 0x10000) 16 4 [fld 0 32 .rw 0] ]

/-- Block 0x07, PMC. -/
def tablePmc : List RegRow :=
[ reg1 (Reg.pmcCtl % 0x10000) [fld 0 1 .rw 0, fld 1 1 .w1s 0],
    reg1 (Reg.pmcStatus % 0x10000) [],
    reg1 (Reg.pmcIdx % 0x10000) [fld 0 8 .rw 0, fld 8 1 .rw 0],
    regI (Reg.pmcSel % 0x10000) 1 Reg.pmcIdx 8 [fld 0 2 .rw 0, cfld 2 6 0 0 56, fld 8 7 .rw 0, fld 16 8 .rw 0, fld 24 1 .rw 0, fld 25 1 .rw 0, fld 26 1 .rw 0],
    regI (Reg.pmcOwn % 0x10000) 1 Reg.pmcIdx 8 [fld 0 8 .rw 0],
    reg1 (Reg.pmcValLo % 0x10000) [fld 0 32 .rw 0],
    reg1 (Reg.pmcValHi % 0x10000) [fld 0 16 .rw 0],
    regN (Reg.pmcOvf % 0x10000) 8 4 [fld 0 32 .w1c 0],
    reg1 (Reg.pmcSnapRtsLo % 0x10000) [],
    reg1 (Reg.pmcSnapRtsHi % 0x10000) [] ]

/-- Block 0x08, LMON. -/
def tableLmon : List RegRow :=
[ reg1 (Reg.lmonIdx % 0x10000) [fld 0 6 .rw 0],
    regI (Reg.lmonSel % 0x10000) 1 Reg.lmonIdx 6 [fld 0 5 .rw 0, fld 8 8 .rw 0, fld 16 1 .rw 0, fld 17 1 .rw 0, fld 24 8 .rw 0],
    reg1 (Reg.lmonCtl % 0x10000) [fld 0 1 .w1s 0, fld 1 1 .w1s 0],
    reg1 (Reg.lmonMin % 0x10000) [],
    reg1 (Reg.lmonMax % 0x10000) [],
    reg1 (Reg.lmonCountLo % 0x10000) [],
    reg1 (Reg.lmonCountHi % 0x10000) [],
    reg1 (Reg.lmonSumLo % 0x10000) [],
    reg1 (Reg.lmonSumHi % 0x10000) [],
    reg1 (Reg.lmonBinIdx % 0x10000) [fld 0 5 .rw 0],
    reg1 (Reg.lmonBin % 0x10000) [] ]

/-- Block 0x09, WBL. -/
def tableWbl : List RegRow :=
[ reg1 (Reg.wblCtl % 0x10000) [fld 0 1 .rw 1, fld 1 1 .rw 0, fld 2 1 .w1s 0],
    reg1 (Reg.wblStatus % 0x10000) [],
    reg1 (Reg.wblSeqLo % 0x10000) [],
    reg1 (Reg.wblSeqHi % 0x10000) [],
    reg1 (Reg.wblOldestLo % 0x10000) [],
    reg1 (Reg.wblOldestHi % 0x10000) [],
    reg1 (Reg.wblHours % 0x10000) [],
    reg1 (Reg.wblCycles % 0x10000) [],
    reg1 (Reg.wblDrop % 0x10000) [fld 0 32 .rc 0],
    reg1 (Reg.wblErr % 0x10000) [fld 0 4 .w1c 0],
    regN (Reg.wblTrig % 0x10000) 16 4 [fld 0 32 .rw 0],
    regN (Reg.wblSnap % 0x10000) 32 4 [fld 0 24 .rw 0, fld 31 1 .rw 0] ]

/-- Block 0x0A, MEM. -/
def tableMem : List RegRow :=
[ reg1 (Reg.memStatus % 0x10000) [],
    reg1 (Reg.memCeThr % 0x10000) [cfld 0 16 1000 1 65535],
    reg1 (Reg.memUeAddrLo % 0x10000) [],
    reg1 (Reg.memUeAddrHi % 0x10000) [],
    reg1 (Reg.memUeSyn % 0x10000) [],
    reg1 (Reg.memInj % 0x10000) [cfld 0 3 0 0 6, fld 3 1 .rw 0, fld 4 1 .w1s 0],
    reg1 (Reg.memErr % 0x10000) [fld 0 8 .w1c 0, fld 8 1 .w1c 0],
    reg1 (Reg.memCntIdx % 0x10000) [cfld 0 3 0 0 6, fld 3 2 .rw 0],
    reg1 (Reg.memCntLo % 0x10000) [],
    reg1 (Reg.memCntHi % 0x10000) [] ]

/-- Block 0x0B, SCB. -/
def tableScb : List RegRow :=
[ reg1 (Reg.scbCtl % 0x10000) [fld 0 7 .rw 127],
    regN (Reg.scbRate % 0x10000) 7 4 [cfld 0 10 0 1 1000],
    reg1 (Reg.scbIdx % 0x10000) [fld 0 3 .rw 0],
    reg1 (Reg.scbPosLo % 0x10000) [],
    reg1 (Reg.scbPosHi % 0x10000) [],
    reg1 (Reg.scbPasses % 0x10000) [],
    reg1 (Reg.scbErr % 0x10000) [fld 0 2 .w1c 0] ]

/-- Block 0x0C, CVE. -/
def tableCve : List RegRow :=
[ reg1 (Reg.cveCtl % 0x10000) [fld 0 1 .rw 1, fld 1 1 .w1s 0],
    reg1 (Reg.cveStatus % 0x10000) [],
    reg1 (Reg.cveKeyIdx % 0x10000) [fld 0 6 .rw 0],
    regI (Reg.cveKeyCfg % 0x10000) 1 Reg.cveKeyIdx 6 [fld 0 1 .rw 0, fld 8 8 .rw 255],
    reg1 (Reg.cveSalt % 0x10000) [fld 0 32 .rw 0],
    reg1 (Reg.cveLimitLo % 0x10000) [fld 0 32 .rw 0],
    reg1 (Reg.cveLimitHi % 0x10000) [fld 0 17 .rw 0x10000],
    reg1 (Reg.cveKeyCmd % 0x10000) [fld 0 1 .w1s 0, fld 1 1 .w1s 0],
    regN (Reg.cveKeyData % 0x10000) 8 4 [fld 0 32 .wo 0],
    reg1 (Reg.cveKeyState % 0x10000) [],
    reg1 (Reg.cveUseLo % 0x10000) [],
    reg1 (Reg.cveUseHi % 0x10000) [] ]
  ++ [ reg1 (Reg.cveKcv % 0x10000) [],
    reg1 (Reg.cveLvyIdx % 0x10000) [fld 0 8 .rw 0],
    regI (Reg.cveLvyCfg % 0x10000) 1 Reg.cveLvyIdx 8 [fld 0 6 .rw 0, fld 6 1 .rw 0],
    reg1 (Reg.cveErr % 0x10000) [fld 0 8 .w1c 0],
    reg1 (Reg.cveCntIdx % 0x10000) [fld 0 4 .rw 0],
    reg1 (Reg.cveCntLo % 0x10000) [],
    reg1 (Reg.cveCntHi % 0x10000) [] ]

/-- Block 0x0D, FOV. -/
def tableFov : List RegRow :=
[ reg1 (Reg.fovCtl % 0x10000) [fld 0 1 .rw 1, fld 1 1 .rw 1, fld 2 1 .w1s 0, fld 3 1 .rw 1],
    reg1 (Reg.fovStatus % 0x10000) [],
    reg1 (Reg.fovTiming % 0x10000) [cfld 0 16 100 10 1000, cfld 16 16 2000 100 10000],
    reg1 (Reg.fovTiming2 % 0x10000) [cfld 0 10 500 100 1000, cfld 16 4 2 1 15, cfld 20 12 60 1 3600],
    reg1 (Reg.fovWdog % 0x10000) [fld 0 1 .w1s 0],
    reg1 (Reg.fovLast % 0x10000) [],
    reg1 (Reg.fovErr % 0x10000) [fld 0 13 .w1c 0],
    reg1 (Reg.fovCntIdx % 0x10000) [fld 0 4 .rw 0],
    reg1 (Reg.fovCntLo % 0x10000) [],
    reg1 (Reg.fovCntHi % 0x10000) [] ]

/-- Block 0x0E, PTL. -/
def tablePtl : List RegRow :=
[ reg1 (Reg.ptlCtl % 0x10000) [fld 0 1 .rw 1],
    reg1 (Reg.ptlStatus % 0x10000) [],
    reg1 (Reg.ptlErr % 0x10000) [fld 0 4 .w1c 0],
    reg1 (Reg.ptlCntIdx % 0x10000) [fld 0 3 .rw 0],
    reg1 (Reg.ptlCntLo % 0x10000) [],
    reg1 (Reg.ptlCntHi % 0x10000) [] ]

/-- Block 0x0F, MEP. -/
def tableMep : List RegRow :=
[ reg1 (Reg.mepCtl % 0x10000) [fld 0 1 .rw 1, fld 1 1 .rw 1],
    reg1 (Reg.mepStatus % 0x10000) [],
    reg1 (Reg.mepWin % 0x10000) [fld 0 1 .rw 0, fld 8 8 .rw 0],
    reg1 (Reg.mepErr % 0x10000) [fld 0 7 .w1c 0],
    reg1 (Reg.mepCntIdx % 0x10000) [fld 0 4 .rw 0],
    reg1 (Reg.mepCntLo % 0x10000) [],
    reg1 (Reg.mepCntHi % 0x10000) [],
    regN (Reg.mepRingCfg % 0x10000) 8 16 [fld 0 1 .rw 1, fld 1 1 .rw 0],
    regN (Reg.mepRingReq % 0x10000) 8 16 [fld 0 16 .rw 0],
    regN (Reg.mepRingRsp % 0x10000) 8 16 [fld 16 16 .rw 0],
    regN (Reg.mepDmaRingLo % 0x10000) 4 32 [fld 0 32 .rw 0],
    regN (Reg.mepDmaRingHi % 0x10000) 4 32 [fld 0 32 .rw 0] ]
  ++ [ regN (Reg.mepDmaCtl % 0x10000) 4 32 [fld 0 1 .rw 0, fld 1 1 .w1s 0, cfld 8 4 4 4 12],
    regN (Reg.mepDmaPi % 0x10000) 4 32 [fld 0 16 .rw 0],
    regN (Reg.mepDmaStat % 0x10000) 4 32 [],
    regN (Reg.msixTable % 0x10000) 2048 4 [fld 0 32 .rw 0],
    regN (Reg.msixPba % 0x10000) 16 4 [] ]

/-- Block 0x10, ETH. -/
def tableEth : List RegRow :=
[ reg1 (Reg.ethCtl % 0x10000) [fld 0 1 .rw 1, fld 1 1 .rw 0, fld 2 2 .rw 0, fld 4 1 .w1s 0, fld 5 1 .rw 0, fld 6 1 .rw 1, cfld 8 14 9216 1518 9216],
    reg1 (Reg.ethVlan % 0x10000) [cfld 0 12 1 1 4094, fld 12 3 .rw 0, fld 15 1 .rw 1],
    reg1 (Reg.ethPfc % 0x10000) [fld 0 8 .rw 8, fld 8 8 .rw 8, fld 16 8 .rw 8],
    reg1 (Reg.ethPfcWd % 0x10000) [cfld 0 16 100 1 10000],
    reg1 (Reg.ethStatus % 0x10000) [],
    reg1 (Reg.ethErr % 0x10000) [fld 0 8 .w1c 0, fld 8 1 .w1c 0, fld 9 1 .w1c 0, fld 10 1 .w1c 0],
    reg1 (Reg.ethPtpAdj % 0x10000) [fld 0 16 .rw 0, fld 16 16 .rw 0],
    reg1 (Reg.ethFecThr % 0x10000) [cfld 0 16 16 1 65535],
    reg1 (Reg.ethCntIdx % 0x10000) [fld 0 3 .rw 0, fld 8 5 .rw 0],
    reg1 (Reg.ethCntLo % 0x10000) [],
    reg1 (Reg.ethCntHi % 0x10000) [],
    regN (Reg.ethDscp % 0x10000) 8 4 [fld 0 3 .rw 0, fld 4 3 .rw 0, fld 8 3 .rw 0, fld 12 3 .rw 0, fld 16 3 .rw 0, fld 20 3 .rw 0, fld 24 3 .rw 0, fld 28 3 .rw 0] ]

/-- Block 0x1C, TPK. -/
def tableTpk : List RegRow :=
[ reg1 (Reg.tpkCtl % 0x10000) [fld 0 1 .rw 1, fld 1 1 .rw 1],
    reg1 (Reg.tpkErr % 0x10000) [fld 0 16 .w1c 0],
    reg1 (Reg.tpkMacLo % 0x10000) [fld 0 32 .rw 0],
    reg1 (Reg.tpkMacHi % 0x10000) [fld 0 16 .rw 0],
    reg1 (Reg.tpkTblCmd % 0x10000) [fld 0 16 .rw 0, fld 16 2 .rw 0, fld 18 1 .rw 0, fld 19 1 .w1s 0],
    regN (Reg.tpkTblData % 0x10000) 8 4 [fld 0 32 .rw 0] ]

/-- Block 0x1D, TBM. -/
def tableTbm : List RegRow :=
[ reg1 (Reg.tbmBulkHi % 0x10000) [cfld 0 12 1536 256 2048],
    reg1 (Reg.tbmOvfGuar % 0x10000) [cfld 0 10 512 0 682],
    reg1 (Reg.tbmOvfCap % 0x10000) [cfld 0 14 2048 0 8192],
    reg1 (Reg.tbmPfcHdrm % 0x10000) [cfld 0 16 2048 64 16384],
    reg1 (Reg.tbmPfcHyst % 0x10000) [cfld 0 16 1024 64 16384],
    reg1 (Reg.tbmShmXoff % 0x10000) [cfld 0 16 1024 64 16384],
    reg1 (Reg.tbmAlpha % 0x10000) [fld 0 3 .rw 4, fld 4 3 .rw 4, fld 8 3 .rw 4, fld 12 3 .rw 4, fld 16 3 .rw 4, fld 20 3 .rw 4, fld 24 3 .rw 4, fld 28 3 .rw 4],
    reg1 (Reg.tbmFree % 0x10000) [],
    reg1 (Reg.tbmOvfUse % 0x10000) [],
    reg1 (Reg.tbmRedIdx % 0x10000) [cfld 0 5 0 0 23],
    regI (Reg.tbmRedMin % 0x10000) 1 Reg.tbmRedIdx 5 [fld 0 20 .rw 1024],
    regI (Reg.tbmRedMax % 0x10000) 1 Reg.tbmRedIdx 5 [fld 0 20 .rw 4096] ]
  ++ [ regI (Reg.tbmRedCfg % 0x10000) 1 Reg.tbmRedIdx 5 [fld 0 8 .rw 32, fld 8 4 .rw 9, fld 12 1 .rw 1, fld 13 1 .rw 1],
    reg1 (Reg.tbmCntIdx % 0x10000) [fld 0 7 .rw 0, fld 8 4 .rw 0],
    reg1 (Reg.tbmCntLo % 0x10000) [],
    reg1 (Reg.tbmCntHi % 0x10000) [] ]

/-- Block 0x1E, TSS. -/
def tableTss : List RegRow :=
[ reg1 (Reg.tssShpIdx % 0x10000) [fld 0 12 .rw 0],
    reg1 (Reg.tssShpRate % 0x10000) [cfld 0 20 0 0 800000],
    reg1 (Reg.tssShpHi % 0x10000) [cfld 0 24 65536 1024 16777215],
    reg1 (Reg.tssShpLo % 0x10000) [cfld 0 24 65536 1024 16777215],
    reg1 (Reg.tssShpCmd % 0x10000) [fld 0 1 .w1s 0],
    reg1 (Reg.tssShpCredit % 0x10000) [],
    reg1 (Reg.tssPolIdx % 0x10000) [fld 0 12 .rw 0],
    reg1 (Reg.tssPolCir % 0x10000) [cfld 0 20 0 0 800000],
    reg1 (Reg.tssPolPir % 0x10000) [cfld 0 20 0 0 800000],
    reg1 (Reg.tssPolCbs % 0x10000) [cfld 0 24 65536 9216 16777215],
    reg1 (Reg.tssPolPbs % 0x10000) [cfld 0 24 65536 9216 16777215],
    reg1 (Reg.tssPolCtl % 0x10000) [fld 0 1 .rw 0, fld 1 1 .rw 0, fld 2 1 .w1s 0] ]
  ++ [ reg1 (Reg.tssPolDrop % 0x10000) [],
    reg1 (Reg.tssLinkIdx % 0x10000) [cfld 0 7 0 0 95],
    regI (Reg.tssLinkSched % 0x10000) 1 Reg.tssLinkIdx 7 [fld 0 8 .rw 192, fld 8 8 .rw 0],
    regI (Reg.tssLinkWrr0 % 0x10000) 1 Reg.tssLinkIdx 7 [cfld 0 8 1 1 255, cfld 8 8 1 1 255, cfld 16 8 1 1 255, cfld 24 8 1 1 255],
    regI (Reg.tssLinkWrr1 % 0x10000) 1 Reg.tssLinkIdx 7 [cfld 0 8 1 1 255, cfld 8 8 1 1 255, cfld 16 8 1 1 255, cfld 24 8 1 1 255],
    reg1 (Reg.tssWfqIdx % 0x10000) [fld 0 8 .rw 0],
    regI (Reg.tssWfqWt % 0x10000) 1 Reg.tssWfqIdx 8 [cfld 0 10 16 1 1023],
    reg1 (Reg.tssCtrlRate % 0x10000) [cfld 0 16 1000 100 10000],
    reg1 (Reg.tssGateDrop % 0x10000) [fld 0 32 .rc 0] ]

/-- Block 0x1F, TDM. -/
def tableTdm : List RegRow :=
[ reg1 (Reg.tdmCtl % 0x10000) [fld 0 1 .rw 1, cfld 8 8 16 1 255],
    reg1 (Reg.tdmId % 0x10000) [cfld 0 16 0 0 65534],
    reg1 (Reg.tdmUdp % 0x10000) [fld 0 16 .rw 18450],
    reg1 (Reg.tdmTiming % 0x10000) [cfld 0 16 1000 100 60000, cfld 16 4 3 2 15],
    reg1 (Reg.tdmBudget % 0x10000) [cfld 0 24 20000 2700 16000000],
    reg1 (Reg.tdmStatus % 0x10000) [],
    reg1 (Reg.tdmErr % 0x10000) [fld 0 10 .w1c 0],
    reg1 (Reg.tdmLinkIdx % 0x10000) [cfld 0 7 0 0 95],
    reg1 (Reg.tdmLinkState % 0x10000) [],
    reg1 (Reg.tdmGrpIdx % 0x10000) [fld 0 4 .rw 0],
    regI (Reg.tdmGrpMask % 0x10000) 3 Reg.tdmGrpIdx 4 [fld 0 32 .rw 0],
    regI (Reg.tdmGrpCtl % 0x10000) 1 Reg.tdmGrpIdx 4 [fld 0 1 .rw 1] ]
  ++ [ reg1 (Reg.tdmTblCmd % 0x10000) [fld 0 16 .rw 0, fld 16 1 .rw 0, fld 17 1 .rw 0, fld 18 1 .w1s 0],
    regN (Reg.tdmTblData % 0x10000) 3 4 [fld 0 32 .rw 0],
    reg1 (Reg.tdmCntIdx % 0x10000) [fld 0 7 .rw 0, fld 8 4 .rw 0],
    reg1 (Reg.tdmCntLo % 0x10000) [],
    reg1 (Reg.tdmCntHi % 0x10000) [] ]

/-- Block 0x20, RAE. -/
def tableRae : List RegRow :=
[ reg1 (Reg.raeCtl % 0x10000) [fld 0 1 .rw 1, fld 1 1 .rw 1, fld 2 1 .rw 1],
    reg1 (Reg.raeStatus % 0x10000) [],
    reg1 (Reg.raeCm % 0x10000) [fld 0 16 .rw 18452, fld 16 16 .rw 4420],
    reg1 (Reg.raeMtu % 0x10000) [cfld 0 3 5 3 5],
    reg1 (Reg.raeCacheCfg % 0x10000) [cfld 0 12 1024 0 2048],
    reg1 (Reg.raeCacheStat % 0x10000) [],
    reg1 (Reg.raeParkStat % 0x10000) [],
    reg1 (Reg.raeCc % 0x10000) [cfld 0 16 50 1 1000, cfld 16 16 5000 1 65535],
    reg1 (Reg.raeRetry % 0x10000) [cfld 0 5 14 8 20, fld 5 3 .rw 7, fld 8 3 .rw 7, fld 11 5 .rw 12, cfld 16 16 1000 10 60000],
    reg1 (Reg.raePfWait % 0x10000) [cfld 0 16 100 1 10000],
    reg1 (Reg.raeErr % 0x10000) [fld 0 6 .w1c 0, fld 8 4 .w1c 0],
    reg1 (Reg.raeQpIdx % 0x10000) [fld 0 16 .rw 0] ]
  ++ [ reg1 (Reg.raeQpState % 0x10000) [],
    reg1 (Reg.raeCntIdx % 0x10000) [fld 0 5 .rw 0],
    reg1 (Reg.raeCntLo % 0x10000) [],
    reg1 (Reg.raeCntHi % 0x10000) [] ]

/-- Block 0x21, INK. -/
def tableInk : List RegRow :=
[ reg1 (Reg.inkCtl % 0x10000) [cfld 0 6 32 1 32],
    reg1 (Reg.inkStatus % 0x10000) [],
    reg1 (Reg.inkRevokeWait % 0x10000) [cfld 0 16 10 1 10000],
    reg1 (Reg.inkIdx % 0x10000) [fld 0 16 .rw 0],
    reg1 (Reg.inkKey % 0x10000) [],
    reg1 (Reg.inkInfo % 0x10000) [],
    reg1 (Reg.inkSize % 0x10000) [],
    reg1 (Reg.inkLastImm % 0x10000) [],
    reg1 (Reg.inkErr % 0x10000) [fld 0 2 .w1c 0] ]

/-- Block 0x22, HQE. -/
def tableHqe : List RegRow :=
[ reg1 (Reg.hqeCtl % 0x10000) [fld 0 1 .rw 1],
    reg1 (Reg.hqeStatus % 0x10000) [],
    reg1 (Reg.hqeKato % 0x10000) [cfld 0 20 10000 1000 600000],
    reg1 (Reg.hqeCto % 0x10000) [cfld 0 20 5000 10 600000],
    reg1 (Reg.hqeLimits % 0x10000) [cfld 0 8 64 1 128],
    reg1 (Reg.hqePstate % 0x10000) [],
    reg1 (Reg.hqeErr % 0x10000) [fld 0 9 .w1c 0],
    reg1 (Reg.hqeBindIdx % 0x10000) [fld 0 11 .rw 0, cfld 16 6 0 0 56],
    reg1 (Reg.hqeBindData % 0x10000) [fld 0 32 .rw 0],
    reg1 (Reg.hqeCntIdx % 0x10000) [fld 0 4 .rw 0],
    reg1 (Reg.hqeCntLo % 0x10000) [],
    reg1 (Reg.hqeCntHi % 0x10000) [] ]

/-- Block 0x23, RLT. -/
def tableRlt : List RegRow :=
[ reg1 (Reg.rltStatus % 0x10000) [],
    reg1 (Reg.rltErr % 0x10000) [fld 0 1 .w1c 0],
    reg1 (Reg.rltIdx % 0x10000) [fld 0 13 .rw 0],
    regN (Reg.rltEnt % 0x10000) 5 4 [],
    reg1 (Reg.rltCntIdx % 0x10000) [fld 0 2 .rw 0],
    reg1 (Reg.rltCntLo % 0x10000) [],
    reg1 (Reg.rltCntHi % 0x10000) [] ]

/-- Block 0x24, LVY. -/
def tableLvy : List RegRow :=
[ reg1 (Reg.lvyStatus % 0x10000) [],
    reg1 (Reg.lvyIdx % 0x10000) [fld 0 8 .rw 0],
    reg1 (Reg.lvyState % 0x10000) [],
    regI (Reg.lvyCfg % 0x10000) 1 Reg.lvyIdx 8 [fld 0 1 .rw 0, fld 1 1 .rw 0],
    reg1 (Reg.lvyMapIdx % 0x10000) [fld 0 10 .rw 0],
    reg1 (Reg.lvyMapFirst % 0x10000) [fld 0 20 .rw 0],
    regI (Reg.lvyMapLast % 0x10000) 1 Reg.lvyMapIdx 10 [fld 0 20 .rw 0, fld 20 8 .rw 0, fld 31 1 .rw 0],
    reg1 (Reg.lvyImg % 0x10000) [],
    reg1 (Reg.lvyUnmapped % 0x10000) [fld 0 32 .rc 0],
    reg1 (Reg.lvyErr % 0x10000) [fld 0 10 .w1c 0],
    reg1 (Reg.lvyCntIdx % 0x10000) [fld 0 8 .rw 0, fld 8 4 .rw 0],
    reg1 (Reg.lvyCntLo % 0x10000) [] ]
  ++ [ reg1 (Reg.lvyCntHi % 0x10000) [] ]

/-- Block 0x25, LAY. -/
def tableLay : List RegRow :=
[ reg1 (Reg.layStatus % 0x10000) [],
    reg1 (Reg.laySeedLo % 0x10000) [],
    reg1 (Reg.laySeedHi % 0x10000) [],
    reg1 (Reg.layUnitsLo % 0x10000) [],
    reg1 (Reg.layUnitsHi % 0x10000) [],
    reg1 (Reg.layPhysLo % 0x10000) [],
    reg1 (Reg.layPhysHi % 0x10000) [],
    reg1 (Reg.layFreeLo % 0x10000) [],
    reg1 (Reg.layFreeHi % 0x10000) [],
    reg1 (Reg.layCkpt % 0x10000) [cfld 0 16 1000 100 60000, fld 16 1 .rw 1],
    reg1 (Reg.layCkptStat % 0x10000) [],
    reg1 (Reg.layLocPsi % 0x10000) [fld 0 32 .rw 0] ]
  ++ [ reg1 (Reg.layLocCmd % 0x10000) [fld 0 4 .rw 0, fld 8 5 .rw 0],
    reg1 (Reg.layLocOut % 0x10000) [],
    reg1 (Reg.layLocBlk % 0x10000) [],
    reg1 (Reg.layErr % 0x10000) [fld 0 9 .w1c 0],
    reg1 (Reg.layLocBlkHi % 0x10000) [] ]

/-- Block 0x26, NIB. -/
def tableNib : List RegRow :=
[ reg1 (Reg.nibCtl % 0x10000) [fld 0 1 .rw 1],
    reg1 (Reg.nibStatus % 0x10000) [],
    reg1 (Reg.nibCommit % 0x10000) [cfld 0 16 1500 100 60000, cfld 16 16 10 1 60000],
    reg1 (Reg.nibSub % 0x10000) [cfld 0 14 16000 100 16000],
    reg1 (Reg.nibDesc % 0x10000) [],
    reg1 (Reg.nibSeqLo % 0x10000) [],
    reg1 (Reg.nibSeqHi % 0x10000) [],
    reg1 (Reg.nibDidx % 0x10000) [fld 0 14 .rw 0],
    reg1 (Reg.nibDinfo % 0x10000) [],
    reg1 (Reg.nibDlsLo % 0x10000) [],
    reg1 (Reg.nibDlsHi % 0x10000) [],
    reg1 (Reg.nibErr % 0x10000) [fld 0 10 .w1c 0] ]
  ++ [ reg1 (Reg.nibCntIdx % 0x10000) [fld 0 4 .rw 0],
    reg1 (Reg.nibCntLo % 0x10000) [],
    reg1 (Reg.nibCntHi % 0x10000) [],
    reg1 (Reg.nibRdCtl % 0x10000) [fld 0 1 .rw 1],
    reg1 (Reg.nibRdStage % 0x10000) [],
    reg1 (Reg.nibRdSpill % 0x10000) [],
    reg1 (Reg.nibRdCntIdx % 0x10000) [fld 0 4 .rw 0],
    reg1 (Reg.nibRdCntLo % 0x10000) [],
    reg1 (Reg.nibRdCntHi % 0x10000) [],
    regN (Reg.nibRdCvmask % 0x10000) 8 4 [fld 0 32 .rw 0] ]

/-- Block 0x27, BLT. -/
def tableBlt : List RegRow :=
[ reg1 (Reg.bltCtl % 0x10000) [fld 0 1 .rw 1, cfld 8 8 10 1 100],
    reg1 (Reg.bltStatus % 0x10000) [],
    reg1 (Reg.bltHeadLo % 0x10000) [],
    reg1 (Reg.bltHeadHi % 0x10000) [],
    reg1 (Reg.bltTailLo % 0x10000) [],
    reg1 (Reg.bltTailHi % 0x10000) [],
    reg1 (Reg.bltAckLo % 0x10000) [],
    reg1 (Reg.bltAckHi % 0x10000) [],
    reg1 (Reg.bltRsnLo % 0x10000) [],
    reg1 (Reg.bltRsnHi % 0x10000) [],
    reg1 (Reg.bltRingUse % 0x10000) [],
    reg1 (Reg.bltPayUse % 0x10000) [] ]
  ++ [ reg1 (Reg.bltRemirror % 0x10000) [],
    reg1 (Reg.bltRplELo % 0x10000) [],
    reg1 (Reg.bltRplEHi % 0x10000) [],
    reg1 (Reg.bltErr % 0x10000) [fld 0 11 .w1c 0],
    reg1 (Reg.bltCntIdx % 0x10000) [fld 0 4 .rw 0],
    reg1 (Reg.bltCntLo % 0x10000) [],
    reg1 (Reg.bltCntHi % 0x10000) [] ]

/-- Block 0x28, OTR. -/
def tableOtr : List RegRow :=
[ reg1 (Reg.otrCtl % 0x10000) [fld 0 1 .rw 1, fld 1 1 .rw 0, fld 2 1 .rw 1],
    reg1 (Reg.otrRate % 0x10000) [cfld 0 16 64 1 65535],
    reg1 (Reg.otrStatus % 0x10000) [],
    reg1 (Reg.otrCursorLo % 0x10000) [],
    reg1 (Reg.otrCursorHi % 0x10000) [],
    reg1 (Reg.otrSuspUse % 0x10000) [],
    reg1 (Reg.otrFrameUsed % 0x10000) [],
    reg1 (Reg.otrErr % 0x10000) [fld 0 10 .w1c 0],
    reg1 (Reg.otrCntIdx % 0x10000) [fld 0 4 .rw 0],
    reg1 (Reg.otrCntLo % 0x10000) [],
    reg1 (Reg.otrCntHi % 0x10000) [] ]

/-- Block 0x29, RLY. -/
def tableRly : List RegRow :=
[ reg1 (Reg.rlyCtl % 0x10000) [fld 0 1 .rw 1, fld 1 1 .rw 1],
    reg1 (Reg.rlyBudget % 0x10000) [cfld 0 9 60 1 400, cfld 16 9 240 1 400],
    reg1 (Reg.rlyStatus % 0x10000) [],
    reg1 (Reg.rlyCursorLo % 0x10000) [],
    reg1 (Reg.rlyCursorHi % 0x10000) [],
    reg1 (Reg.rlyPeriods % 0x10000) [],
    reg1 (Reg.rlyMidx % 0x10000) [cfld 0 6 0 0 47],
    reg1 (Reg.rlyMstate % 0x10000) [],
    reg1 (Reg.rlyMcb % 0x10000) [],
    reg1 (Reg.rlyMunbLo % 0x10000) [],
    reg1 (Reg.rlyMunbHi % 0x10000) [],
    reg1 (Reg.rlyLost % 0x10000) [] ]
  ++ [ reg1 (Reg.rlyErr % 0x10000) [fld 0 11 .w1c 0],
    reg1 (Reg.rlyCntIdx % 0x10000) [fld 0 4 .rw 0],
    reg1 (Reg.rlyCntLo % 0x10000) [],
    reg1 (Reg.rlyCntHi % 0x10000) [] ]

/-- Block 0x2A, DPC. -/
def tableDpc : List RegRow :=
[ reg1 (Reg.dpcCtl % 0x10000) [fld 0 1 .rw 1, fld 1 1 .rw 1],
    reg1 (Reg.dpcTimeout % 0x10000) [cfld 0 16 100 10 10000, cfld 16 16 1000 100 60000],
    reg1 (Reg.dpcEsc % 0x10000) [cfld 0 16 2000 100 30000, cfld 16 12 60 1 3600],
    reg1 (Reg.dpcSlotpwr % 0x10000) [cfld 0 16 1000 100 10000, cfld 16 16 30000 1000 60000],
    reg1 (Reg.dpcResvKeyLo % 0x10000) [fld 1 31 .rw 0],
    reg1 (Reg.dpcResvKeyHi % 0x10000) [fld 0 32 .rw 0],
    reg1 (Reg.dpcStatus % 0x10000) [],
    reg1 (Reg.dpcErr % 0x10000) [fld 0 12 .w1c 0],
    reg1 (Reg.dpcCntIdx % 0x10000) [cfld 0 6 0 0 47, fld 8 4 .rw 0],
    reg1 (Reg.dpcCntLo % 0x10000) [],
    reg1 (Reg.dpcCntHi % 0x10000) [] ]

/-- Block 0x2B, DPQ. -/
def tableDpq : List RegRow :=
[ regN (Reg.dpqCtl % 0x10000) 4 16 [cfld 0 2 0 0 2, fld 2 1 .w1s 0, fld 3 1 .w1s 0, fld 4 1 .rw 1],
    regN (Reg.dpqStatus % 0x10000) 4 16 [],
    regN (Reg.dpqAer % 0x10000) 4 16 [fld 0 1 .w1c 0, fld 1 1 .w1c 0, fld 2 1 .w1c 0, fld 3 1 .w1c 0, fld 4 1 .w1c 0],
    regN (Reg.dpqQd % 0x10000) 4 16 [] ]

/-- Block 0x37, SLT. -/
def tableSlt : List RegRow :=
[ reg1 (Reg.sltCtl % 0x10000) [fld 0 1 .rw 1, fld 8 8 .rw 50, cfld 16 16 1000 250 10000],
    reg1 (Reg.sltPresentLo % 0x10000) [],
    reg1 (Reg.sltPresentHi % 0x10000) [],
    reg1 (Reg.sltIdx % 0x10000) [cfld 0 6 0 0 47],
    regI (Reg.sltCmd % 0x10000) 1 Reg.sltIdx 6 [fld 0 2 .rw 0, fld 2 1 .w1s 0, fld 3 1 .w1s 0, fld 4 1 .w1s 0],
    reg1 (Reg.sltStat % 0x10000) [],
    reg1 (Reg.sltErr % 0x10000) [fld 0 4 .w1c 0],
    reg1 (Reg.sltBusErr % 0x10000) [fld 0 32 .rc 0] ]

/-- Block 0x38, DRL. -/
def tableDrl : List RegRow :=
[ reg1 (Reg.drlCtl % 0x10000) [cfld 0 16 10 1 10000],
    reg1 (Reg.drlStatus % 0x10000) [],
    reg1 (Reg.drlCtrl % 0x10000) [cfld 0 15 4096 1024 16384],
    reg1 (Reg.drlPoolIdx % 0x10000) [cfld 0 4 0 0 14],
    reg1 (Reg.drlPoolCap % 0x10000) [],
    reg1 (Reg.drlPoolUse % 0x10000) [],
    regI (Reg.drlPoolHdrm % 0x10000) 1 Reg.drlPoolIdx 4 [fld 0 32 .rw 0],
    reg1 (Reg.drlPoolHfree % 0x10000) [],
    reg1 (Reg.drlPoolPeak % 0x10000) [],
    reg1 (Reg.drlErr % 0x10000) [fld 0 5 .w1c 0],
    reg1 (Reg.drlCntIdx % 0x10000) [cfld 0 4 0 0 14, fld 8 3 .rw 0],
    reg1 (Reg.drlCntLo % 0x10000) [] ]
  ++ [ reg1 (Reg.drlCntHi % 0x10000) [] ]

/-- The rows of a block (R527): empty for the reserved blocks 0x39 to 0xFF. -/
def blockTable (b : Nat) : List RegRow :=
  match b with
  | 0x00 => tableDevid
  | 0x01 => tableMcr
  | 0x02 => tableClk
  | 0x03 => tablePes
  | 0x04 => tableRul
  | 0x05 => tableCmd
  | 0x06 => tableEvt
  | 0x07 => tablePmc
  | 0x08 => tableLmon
  | 0x09 => tableWbl
  | 0x0A => tableMem
  | 0x0B => tableScb
  | 0x0C => tableCve
  | 0x0D => tableFov
  | 0x0E => tablePtl
  | 0x0F => tableMep
  | 0x10 => tableEth
  | 0x11 => tableEth
  | 0x12 => tableEth
  | 0x13 => tableEth
  | 0x14 => tableEth
  | 0x15 => tableEth
  | 0x16 => tableEth
  | 0x17 => tableEth
  | 0x18 => tableEth
  | 0x19 => tableEth
  | 0x1A => tableEth
  | 0x1B => tableEth
  | 0x1C => tableTpk
  | 0x1D => tableTbm
  | 0x1E => tableTss
  | 0x1F => tableTdm
  | 0x20 => tableRae
  | 0x21 => tableInk
  | 0x22 => tableHqe
  | 0x23 => tableRlt
  | 0x24 => tableLvy
  | 0x25 => tableLay
  | 0x26 => tableNib
  | 0x27 => tableBlt
  | 0x28 => tableOtr
  | 0x29 => tableRly
  | 0x2A => tableDpc
  | 0x2B => tableDpq
  | 0x2C => tableDpq
  | 0x2D => tableDpq
  | 0x2E => tableDpq
  | 0x2F => tableDpq
  | 0x30 => tableDpq
  | 0x31 => tableDpq
  | 0x32 => tableDpq
  | 0x33 => tableDpq
  | 0x34 => tableDpq
  | 0x35 => tableDpq
  | 0x36 => tableDpq
  | 0x37 => tableSlt
  | 0x38 => tableDrl
  | _ => []

end Sys2Proof.Machine
end

