-- ==== Sys2Proof/Machine/State.lean ====
section
/-! DEFINITION. The state of the SDF-4812: everything the manual gives the module, unit by unit, as plain data, and the
machine right after a power-on reset. Registers that only hold what was last written or latched stand in `regs`; a
register that shows a unit's state is computed from it (Views.lean). Fields marked MODEL are the model's own. -/

namespace Sys2Proof.Machine

/-- A key and value table in canonical form (`swf`). -/
abbrev Table (α : Type) := List (Nat × α)

/-! ## What leaves the module -/

/-- A reply or an event packet (R68, R447): where it goes, its header fields and its payload. -/
structure Reply where
  dst : Endpoint
  session : Option Nat
  version : Byte
  flags : Nat
  opcode : Nat
  tag : Nat
  status : Nat
  detail : Nat
  generation : Nat
  completion : Nat
  cookie : Nat
  payload : List Byte
  deriving DecidableEq, Repr

/-- The answers a responder sends on a QP (R153, R154, R159, R179). -/
inductive RoceAnswer where
  | ack (psn : Nat)
  | nakSequence (psn : Nat)
  | nakInvalidRequest (psn : Nat)
  | nakAccess (psn : Nat)
  | nakOperational (psn : Nat)
  | rnrNak (psn : Nat) (timer : Nat)
  | readResponse (psn : Nat) (data : List Byte)
  deriving DecidableEq, Repr

/-- The CM messages the module sends (R155, R156). -/
inductive CmMessage where
  | rep (startPsn : Nat)
  | rej (reason detail : Nat)
  | rtu
  | req (startPsn : Nat)
  | dreq
  | drep
  deriving DecidableEq, Repr

/-- What a drive is told to do (R361, R363). -/
inductive DriveOp where
  | read | write | compareWrite | flush | deallocate | admin (code : Nat)
  deriving DecidableEq, Repr

/-- What the module sends, newest first in `Dev.out` (MODEL: a log of the effects that leave the module). -/
inductive Output where
  | reply (r : Reply)
  | msix (vector addr : Nat) (data : Word)
  | roce (qp : Nat) (a : RoceAnswer)
  | cnp (qp : Nat)
  | cm (qp : Nat) (m : CmMessage)
  | rdmaWrite (qp addr key : Nat) (data : List Byte)
  | rdmaReadRequest (qp addr key len : Nat)
  | rdmaFlush (qp : Nat)
  | placementReply (qp number : Nat)
  | placementRequest (qp number : Nat)
  | completion (qp cid status : Nat) (result : Nat) (data : List Byte)
  | ethFrame (link length priority : Nat) (stomped : Bool)
  | ethRelayed (link : Nat) (frame : EthFrame)
  | pfcFrame (link enable : Nat) (times : List Nat)
  | delayReq (link seq : Nat)
  | tandem (link : Nat) (frame : TandemFrame)
  | driveCmd (slot id : Nat) (op : DriveOp) (lba blocks : Nat)
  | slotBus (slot code : Nat)
  | partner (m : PartnerMsg)
  | partnerRecords (records : List BltRecord)
  | partnerMirrorAck (rsn : Nat)
  | hostWrite (addr : Nat) (data : List Byte)
  | barData (data : List Byte) (poisoned : Bool)
  | smbus (data : List Byte)
  | nandProgram (sequence : Nat)
  | block (slot : Nat) (b : Block)
  | partnerKey (slot : Nat) (key : List Byte) (salt role limit : Nat)
  | partnerKeyClear (slot : Nat)
  | partnerCount (slot count : Nat)
  | partnerPayload (position : Nat) (data : List Byte)
  | partnerImage (buffer : Nat)
  | partnerLoaded
  | announce (address : Nat) (ipv6 : Bool) (link : Nat)
  deriving DecidableEq, Repr

/-! ## Pins -/

/-- The pins of J1 that the chapters read or drive, as asserted or not, or as levels (R397, R398, R501, R514, R537 to R543). -/
structure Pins where
  pwrFail : Bool
  modRst : Bool
  perst : Bool
  fenceIn : Bool
  fenceOut : Bool
  fenceAck : Bool
  fenceAckIn : Bool
  actOwn : Bool
  actPeer : Bool
  partnerPwrEn : Bool
  pwrEnIn : Bool
  hbOut : Bool
  hbIn : Bool
  slotIdStrap : Bool
  fixmapStrap : Bool
  deriving DecidableEq, Repr

/-! ## Ruling -/

/-- The lock states of R41. -/
inductive LockState where
  | free | acquire | locked | holdover
  deriving DecidableEq, Repr

/-- One reference source as Ruling judges it (R40): qualified, lost, its run of good frames or pulses, the quantum of its
last frame edge, Sync or pulse, the line edges since, the frames in a row with a wrong count, and the position (quantum
and frame number) its last good edge gave. -/
structure RefSource where
  qualified : Bool
  good : Nat
  last : Option Nat
  lines : Nat
  badCounts : Nat
  frame : Nat
  deriving DecidableEq, Repr

/-- The PTP servo (R37): the last Sync's arrival in quanta and its origin time in ns when known, the path delay in ns, the
offset last measured, the interval between Syncs in quanta, and the Delay_Req that is out. -/
structure PtpServo where
  syncAt : Option Nat
  origin : Option Nat
  delayNs : Nat
  offsetNs : Int
  interval : Nat
  reqSeq : Nat
  reqAt : Option Nat
  deriving DecidableEq, Repr

/-- A boundary record (R47) with the geometry on both sides of it, which R48 needs. -/
structure Boundary where
  qb : Nat
  ro : Nat
  rn : Nat
  numOld : Nat
  denOld : Nat
  lpfOld : Nat
  numNew : Nat
  denNew : Nat
  lpfNew : Nat
  deriving DecidableEq, Repr

/-- Frame geometry (R34). -/
structure Geometry where
  num : Nat
  den : Nat
  lpf : Nat
  deriving DecidableEq, Repr

/-- An entry of a ruling table bank (R50, R51). -/
structure WinEntry where
  lines : Word
  mask : Word
  deriving DecidableEq, Repr

/-- Ruling (block 0x04). The timeline is `anchorAcc` in units of 1/(DEN × 8·10^14) subline at quantum `anchorQ`, rising at
the rate of `geo` corrected by `slewPpm`; `prio` is the source order that the last re-lock applied. -/
structure Rul where
  state : LockState
  source : Option Nat
  prio : Nat
  held : Option Nat
  epoch : Nat
  epochChanges : Nat
  holdClkOk : Bool
  timeline : Bool
  started : Bool
  acqAt : Option Nat
  geo : Geometry
  nextGeo : Option Geometry
  anchorQ : Nat
  anchorAcc : Nat
  slewPpm : Int
  house : RefSource
  ptp : RefSource
  inband : RefSource
  servo : PtpServo
  phaseErr : Int
  bank : Bool
  bank0 : Table WinEntry
  bank1 : Table WinEntry
  swapAt : Option Nat
  badWin : Nat
  boundaries : List Boundary
  deriving DecidableEq, Repr

/-! ## Command processor -/

/-- A reply kept for duplicates (R63). -/
structure CachedReply where
  tag : Nat
  crc : Word
  reply : Reply
  deriving DecidableEq, Repr

/-- A raised event as it waits to be sent to a session (R445, R447). -/
structure QueuedEvent where
  source : Nat
  seq : Nat
  rts : Nat
  livery : Option Nat
  generation : Nat
  err : Word
  longop : List Byte
  deriving DecidableEq, Repr

/-- A session (R57 to R63, R444, R445). -/
structure Session where
  id : Nat
  src : Endpoint
  version : Byte
  idleMs : Nat
  idleAt : Option Nat
  subs : Nat
  drops : Nat
  sent : Nat
  queue : List QueuedEvent
  cache : List CachedReply
  deriving DecidableEq, Repr

/-- Where an accepted command stands: waiting for its turn (R82), held until its due quantum (R84), or started and waiting
for the condition its chapter names. -/
inductive CmdPhase where
  | waiting
  | held (due : Nat)
  | running
  deriving DecidableEq, Repr

/-- A command packet that was accepted and has not yet been answered. `detail` is the epoch note of R49, `report` the clamp
report's entries, `due` the converted due quantum, `aux` what the unit keeps, `auth` the key slot that signs its replies (R72). -/
structure Cmd where
  id : Nat
  op : Nat
  pkt : Packet
  session : Option Nat
  livery : Nat
  generation : Nat
  arrived : Nat
  detail : Nat
  due : Option Nat
  phase : CmdPhase
  aux : List Nat
  auth : Option Nat
  deriving DecidableEq, Repr

/-- How a long operation runs (R89, R90, R95). -/
inductive LongMode where
  | stepped | background | heldBack
  deriving DecidableEq, Repr

/-- A long-operation slot in use (R88 to R97): `step` numbers the latest cookie, `prog` is the unit's progress. -/
structure LongOp where
  slot : Nat
  use : Nat
  step : Nat
  op : Nat
  pkt : Packet
  session : Option Nat
  livery : Nat
  generation : Nat
  target : Nat
  mode : LongMode
  holdAt : Option Nat
  cancel : Bool
  clamped : Bool
  prog : List Nat
  deriving DecidableEq, Repr

/-- The command processor (block 0x05). `run` has a bit per running instance, `uses` the use counts of the slots. -/
structure Cp where
  run : Nat
  owner : List Nat
  sessions : List Session
  peak : Nat
  cmds : List Cmd
  nextId : Nat
  longOps : List LongOp
  uses : Table Nat
  deriving DecidableEq, Repr

/-! ## Counters and monitors -/

/-- A latency monitor (R455). -/
structure Monitor where
  min : Nat
  max : Nat
  count : Nat
  sum : Nat
  bins : Table Nat
  deriving DecidableEq, Repr

/-- Performance counters (R448 to R453): values, shadows, the snapshot's RTS, the quantum up to which classes 2 and 3 have counted, and
updates on their way (R449) as counter index and increment. -/
structure Pmc where
  vals : Table Nat
  shadow : Table Nat
  snapRts : Nat
  shadowOvf : Table Bool
  frozenByOvf : Bool
  lastOvf : Nat
  cycleQ : Nat
  inflight : List (Nat × Nat)
  deriving DecidableEq, Repr

/-- The 64 latency monitors and the copy that the read registers show (R456). -/
structure Lmon where
  mons : Table Monitor
  copy : Monitor
  deriving DecidableEq, Repr

/-! ## Waybill -/

/-- A Waybill record (R462). -/
structure WblRecord where
  kind : Nat
  trigger : Nat
  seq : Nat
  hours : Nat
  cycles : Nat
  snaps : List (Nat × Nat)
  deriving DecidableEq, Repr

/-- A record on the NAND: its block and slot. -/
structure WblSlot where
  block : Nat
  slot : Nat
  record : WblRecord
  deriving DecidableEq, Repr

/-- Waybill (block 0x09). `ring`, `bad` and the head position lie on the NAND and outlast every reset. -/
structure Wbl where
  seq : Nat
  queue : List WblRecord
  ring : List WblSlot
  headBlock : Nat
  headSlot : Nat
  bad : List Nat
  hours : Nat
  cycles : Nat
  oldest : Nat
  scanned : Bool
  clearing : Bool
  deriving DecidableEq, Repr

/-! ## Memories -/

/-- The memories and their protection (blocks 0x0A, 0x0B): contents of HBM (48 GiB) and DDR5 (256 GiB) as bytes, the
poisoned words by memory and word address, words holding a correctable pattern, the armed injection, the correctable errors
of the running second by memory and device, and the scrubber's positions and passes. -/
structure Mem where
  hbm : List Host.Cell
  ddr : List Host.Cell
  poison : List (Nat × Nat)
  flipped : List (Nat × Nat)
  inject : Option (Nat × Bool)
  ceWindow : List (Nat × Nat)
  scrubPos : Table Nat
  scrubPasses : Table Nat
  filled : Bool
  deriving DecidableEq, Repr

/-! ## Management endpoint -/

/-- A mailbox ring pair (R482 to R484): its request slots as bytes, and for each slot a doorbell released the PASID plus 1 of that
doorbell's TLP, or 0. -/
structure Ring where
  reqSlots : Table (List Byte)
  pasids : Table Nat
  rspSlots : List (Nat × Reply)
  waiting : List Reply
  deriving DecidableEq, Repr

/-- A DMA channel (R485, R486). -/
structure DmaChannel where
  ci : Nat
  state : Nat
  cause : Nat
  stopping : Bool
  deriving DecidableEq, Repr

/-- The management endpoint and the SMBus sideband (block 0x0F). -/
structure Mep where
  speed : Nat
  width : Nat
  bme : Bool
  memSpace : Bool
  dstate : Nat
  msixEnable : Bool
  functionMask : Bool
  pba : Nat
  config : Table Word
  presetBars : Bool
  aer : Nat
  rings : List Ring
  dma : List DmaChannel
  heldDma : List Output
  smbOffset : Nat
  smbStatus : Nat
  deriving DecidableEq, Repr

/-! ## Power entry -/

/-- PES_STATUS.STATE. -/
inductive PesState where
  | off | delay | ramp | on | cool | latched | ov | held
  deriving DecidableEq, Repr

/-- The power entry supervisor (block 0x03). `insertMs` is its non-volatile cell; `counts` its lifetime counters. -/
structure Pes where
  state : PesState
  inputMv : Nat
  retries : Nat
  kept : Bool
  faultAt : Option Nat
  delayEnd : Option Nat
  onSince : Option Nat
  keptUntil : Option Nat
  inputGone : Bool
  pwrEnLowAt : Option Nat
  pfInternal : Bool
  pfReleasedAt : Option Nat
  partnerPulse : Option Nat
  insertMs : Nat
  insertNext : Nat
  deriving DecidableEq, Repr

/-! ## Start-up, resets and clocks -/

/-- A firmware bank (R517 to R520): 0 empty, 1 valid, 2 invalid, 3 writing. -/
structure Bank where
  state : Nat
  version : Nat
  sequence : Nat
  length : Nat
  deriving DecidableEq, Repr

/-- Start-up, resets and clocks (block 0x02). `next` is the step that the sequence begins at once it is released,
`causes` the triggers of module reset that are active. -/
structure Clk where
  step : Nat
  done : Bool
  failed : Bool
  cause : Nat
  next : Nat
  stepStart : Nat
  origin : Nat
  startMs : Nat
  inReset : Bool
  active : List Nat
  rstCause : Nat
  runningBank : Nat
  preferred : Nat
  previous : Nat
  trial : Bool
  trialRunning : Bool
  fellBack : Bool
  fwVersion : Nat
  banks : List Bank
  khz : Table Nat
  faulty : List Nat
  sysOk : Bool
  resetPending : Bool
  drivesLate : Bool
  deriving DecidableEq, Repr

/-! ## Layout and stripe map -/

/-- The array's geometry (R232, R233) with its seed, identity, format versions and layout table (R238): the periods of the table
that the array has, each its rows of members. -/
structure ArrayGeo where
  d : Nat
  sc : Nat
  s : Nat
  n : Nat
  u : Nat
  seed : Nat
  identity : Nat
  layoutVersion : Nat
  mapVersion : Nat
  pfVersion : Nat
  table : List (List (Array Nat))
  deriving DecidableEq, Repr

/-- The spare places of one ordinal (R240): for each unit of the data region of the member that holds it, the member and the unit
of its strip's spare place, and by member the units placed there, one bit each. -/
structure SparePlan where
  places : Array (Option (Nat × Nat))
  on : List Nat
  deriving DecidableEq, Repr

/-- STATE of a map entry (R244). -/
inductive EntryState where
  | unmapped | full | short | lost | suspect
  deriving DecidableEq, Repr

/-- A map entry (R244). -/
structure MapEntry where
  psi : Nat
  fill : Nat
  state : EntryState
  mgen : Nat
  deriving DecidableEq, Repr

/-- The kinds of object (R252, R254). -/
inductive ObjKind where
  | ns | openTake | closedTake | exported
  deriving DecidableEq, Repr

/-- An object (R250 to R252): `reserved` counts its data stripes, `frames` its frame index (RTS and byte offset), oldest
first, `ordinal` the last take ordinal used, `chunks` its runs of map chunks (first chunk and count, R246). -/
structure Obj where
  num : Nat
  kind : ObjKind
  livery : Nat
  blocks : Nat
  length : Nat
  accepted : Nat
  reserved : Nat
  frames : List (Nat × Nat)
  ordinal : Nat
  chunks : List (Nat × Nat)
  deriving DecidableEq, Repr

/-- A map or metadata segment that differs from its newest checkpoint copy, or is being written (R248). `copies` lists
the copy numbers not yet acknowledged. -/
structure Segment where
  num : Nat
  dirtyAt : Option Nat
  writing : Bool
  copies : List Nat
  newSeq : Nat
  snapRsn : Nat
  deriving DecidableEq, Repr

/-- A change to array metadata that waits for its META record (R298, R556). -/
inductive MetaChange where
  | objCreate (o : Obj)
  | objDelete (num : Nat)
  | objKind (num : Nat) (kind : ObjKind) (blocks : Nat)
  | liveryCreate (num generation : Nat)
  | liveryDelete (num : Nat)
  | liveryConfig (num polFirst polCount keyMask weight : Nat)
  | liverySwitches (num : Nat) (cntRead authReq : Bool)
  | liveryNqn (num : Nat) (nqn : List Byte)
  | liveryGen (num generation : Nat)
  | liveryMap (index first last livery : Nat) (valid : Bool)
  | objReserve (num blocks reserved : Nat) (chunks : List (Nat × Nat))
  | objFormat (num : Nat)
  | otrCursor (psi : Nat)
  | mapClear (ordinal : Nat)
  | keyCount (slot salt kcv count : Nat)
  | psRetire (psi : Nat)
  | built (ordinal unit : Nat) (on : Bool)
  | lostStripe (psi object : Nat) (on : Bool)
  deriving DecidableEq, Repr

/-- A pending metadata change: the RSN of its META record, the change, and the command that it completes. -/
structure PendingMeta where
  rsn : Nat
  change : MetaChange
  cmd : Option Nat
  deriving DecidableEq, Repr

/-- A suspect list entry (R330). -/
structure Suspect where
  psi : Nat
  object : Nat
  lstripe : Nat
  reason : Nat
  rts : Nat
  deriving DecidableEq, Repr

/-- Livery states (R219). -/
inductive LiveryState where
  | service | freezing | frozen | saving | restoring | deleting
  deriving DecidableEq, Repr

/-- A livery (R208, R209, R230): its record. -/
structure Livery where
  num : Nat
  state : LiveryState
  generation : Nat
  nqn : List Byte
  keyMask : Nat
  polFirst : Nat
  polCount : Nat
  config : List Nat
  deriving DecidableEq, Repr

/-- A livery table entry (R211). -/
structure LvyMap where
  first : Nat
  last : Nat
  livery : Nat
  valid : Bool
  deriving DecidableEq, Repr

/-- The array metadata that lies on the drives, kept over a module reset (DESIGN CHOICE: assumption log, entry 31): the identity of the array, its objects, its
retired stripes, its lost list, the built strips, the suspect list, the patrol cursor, the liveries and the livery table, and the key
records. -/
structure Saved where
  identity : Nat
  objects : List Obj
  retired : List Nat
  lost : List (Nat × Nat)
  built : Table Nat
  suspects : List Suspect
  cursor : Nat
  liveries : List Livery
  table : Table LvyMap
  records : Table (Nat × Nat × Nat)
  deriving DecidableEq, Repr

/-- Layout and stripe map (block 0x25): STATE, the array, the member table (drive slot or 0xFF) and failure ordinals of the
label, the spare places by ordinal, the label sequence, the map keyed by object × 2^46 + logical stripe, the physical stripe table, the objects, the
segments, the newest slot and checkpoint sequence of each segment, metadata changes in flight, lookups held for a segment
that is reloaded (R435), and the label writes outstanding. -/
structure Lay where
  state : Nat
  geo : Option ArrayGeo
  slots : List Nat
  ordinals : List Nat
  plans : List SparePlan
  labelSeq : Nat
  map : Table MapEntry
  phys : Table Nat
  objects : List Obj
  segments : List Segment
  newest : Table (Nat × Nat)
  ckptSeq : Nat
  metas : List PendingMeta
  reloading : List Nat
  spareUsed : List Nat
  lost : List (Nat × Nat)
  saved : Option Saved
  deriving DecidableEq, Repr

/-! ## Nib: the write path -/

/-- Descriptor states (R262). -/
inductive DescState where
  | idle | opened | closing | reading | draining | parity | durable | mapped | released | failed | swRead | swLog | swWrite
  deriving DecidableEq, Repr

/-- Paths (R260). -/
inductive WritePath where
  | none | full | fresh | merge | small | recon
  deriving DecidableEq, Repr

/-- A named block: its place in the logical stripe, where its bytes lie in HBM, how many of them are data (the rest, past a take's length,
reads as zero, R251), its stamp, and for a STREAM COMMIT whether its placed mark is still awaited (R257, R264). -/
structure Named where
  block : Nat
  addr : Nat
  live : Nat
  stamp : Option Nat
  awaited : Bool
  job : Nat
  deriving DecidableEq, Repr

/-- A strip of a descriptor in flight: submitted under a drive command and acknowledged or not. -/
structure StripWrite where
  strip : Nat
  cmd : Nat
  acked : Bool
  deriving DecidableEq, Repr

/-- A stripe descriptor (R261 to R281). `old` holds blocks read from the members by place in the logical stripe (places
from D × B up are P, then Q), `accP` and `accQ` the accumulators by block, `done` the accumulated blocks. -/
structure Desc where
  idx : Nat
  object : Nat
  lstripe : Nat
  livery : Nat
  state : DescState
  path : WritePath
  named : List Named
  stream : Bool
  lastNamed : Nat
  closeQ : Nat
  fill : Nat
  psi : Option Nat
  oldPsi : Option Nat
  seq : Nat
  hasSlot : Bool
  lock : Option Nat
  jobs : List Nat
  done : List (Nat × Nat)
  accP : Table (List Byte)
  accQ : Table (List Byte)
  old : Table (List Byte)
  reads : List Nat
  writes : List StripWrite
  intentRsn : Nat
  commitRsn : Option Nat
  closeRsn : Option Nat
  waitingSince : Nat
  charged : Bool
  deriving DecidableEq, Repr

/-- What a write job answers when it ends: a command packet or an NVMe command. -/
inductive JobOwner where
  | packet (cmd : Nat)
  | nvme (qp cid : Nat)
  deriving DecidableEq, Repr

/-- A COMMIT, FLUSH or handed Write in flight (R282 to R285). `waits` lists its descriptors not yet durable, `pending`
those not yet at their reply point; `counts` is full, short, small and zeroed blocks. -/
structure WriteJob where
  id : Nat
  owner : JobOwner
  object : Nat
  livery : Nat
  accepted : Nat
  due : Option Nat
  dueFlag : Bool
  takeOrdinal : Nat
  first : Nat
  lengthAfter : Nat
  frame : Option Nat
  waits : List Nat
  pending : List Nat
  counts : List Nat
  durable : Option Nat
  failed : Option (Nat × Nat)
  isFlush : Bool
  after : List Nat
  deriving DecidableEq, Repr

/-- Nib (block 0x26), the write path. `subBytes` and `subFrom` count the user bytes admitted in the running millisecond. -/
structure Nib where
  descs : List Desc
  jobs : List WriteJob
  nextJob : Nat
  seq : Nat
  peak : Nat
  subBytes : Nat
  subFrom : Nat
  snap : Option (Desc × Bool)
  halted : Bool
  deriving DecidableEq, Repr

/-! ## Blotter -/

/-- A record in DDR5 (R289, R296) that has not retired: its position once its block is issued, its first payload position
and count, whether its change was applied, the checkpoint segments that it still waits for (R297), and those of them that a
snapshot taken after the change covers. -/
structure LogRecord where
  rsn : Nat
  body : RecordBody
  position : Option Nat
  applied : Bool
  segs : List Nat
  snapped : List Nat
  deriving DecidableEq, Repr

/-- A home position (R291 to R295): what it holds and its copies by member, with the acknowledged ones, and the
quantum of its issue. -/
structure HomePos where
  h : Nat
  isPayload : Bool
  copies : List Nat
  acked : List Nat
  at_ : Nat
  deriving DecidableEq, Repr

/-- The mirror states (R300). -/
inductive MirrorState where
  | none | resync | live | lost
  deriving DecidableEq, Repr

/-- An in-place write that replay finishes (R305 step 2, R306): the RSN and fields of its intent, its payload blocks, its write sequence,
its stage (0 not begun, 1 reading, 2 settling tags, 3 writing), the blocks read by strip × 2^16 + row (`none` for one that failed), the drive
commands outstanding and the blocks to write. -/
structure Redo where
  rsn : Nat
  psi : Nat
  object : Nat
  lstripe : Nat
  first : Nat
  n : Nat
  shadow : Nat
  payload : List (List Byte)
  oldSeq : Nat
  seq : Nat
  stage : Nat
  got : Table (Option Block)
  reads : List Nat
  writes : List Nat
  fixes : List (Nat × Nat × Block)
  deriving DecidableEq, Repr

/-- The Blotter (block 0x27). `openFrom` is the quantum of the open record block's first record, `payloads` the unretired
payload blocks by position, `homeNext` and `homeAt` the
ring of R293 on each member (next block, and position + 1 by member × 2^20 + block), `mirrored` the highest RSN the partner acknowledged, `warm` and `warmRa` what a standby
received (R299), each record with the ack point of the batch that brought it, `window` what phase 1 kept for phase 2, each record with its position,
`redo` the in-place writes that replay still has to finish, `waitWarm` that a takeover waits for the records it appended, `replayEnd` the RSN
of replay's last record, once written, `fullSince` since when the span or the ring is full. -/
structure Blt where
  nextRsn : Nat
  records : List LogRecord
  open_ : List Nat
  openFrom : Nat
  head : Nat
  tail : Nat
  ack : Nat
  anyAck : Bool
  positions : List HomePos
  payloads : Table (List Byte)
  spanFull : Bool
  ringFull : Bool
  mirror : MirrorState
  mirrorSent : Nat
  mirrored : Nat
  mirrorAt : Option Nat
  partnerLoaded : Bool
  warm : List (Nat × BltRecord)
  warmPayloads : Table (List Byte)
  warmRa : Nat
  warmA : Nat
  remirror : List Nat
  remirrorFrom : Nat
  remirrorOpen : Nat
  remirrorLate : Bool
  replay : Nat
  window : List (Nat × BltRecord)
  windowPayloads : Table (List Byte)
  windowH : Nat
  windowSeq : Nat
  windowT : Nat
  redo : List Redo
  waitWarm : Option Nat
  replayEnd : Option Nat
  rplE : Nat
  stopped : Bool
  homeNext : Table Nat
  homeAt : Table Nat
  fullSince : Option Nat
  deriving DecidableEq, Repr

/-! ## Reads -/

/-- Who a read answers (R320, R191). -/
inductive ReadOwner where
  | packet (cmd : Nat)
  | nvme (qp cid : Nat)
  deriving DecidableEq, Repr

/-- A row being rebuilt for a read (R314): its logical stripe and block row, the missing strips, whether the member is the
only cause, and the survivors read so far. -/
structure RowWork where
  psi : Nat
  fill : Nat
  row : Nat
  missing : List Nat
  memberOnly : Bool
  wanted : List Nat
  have_ : Table (List Byte)
  deriving DecidableEq, Repr

/-- A read in flight (R309 to R320). `data` holds ready blocks by index within the read, `unrec` the unrecovered ones, `ends`
the first index after each delivering write that is not completed, oldest first, `acked` the blocks whose delivery is
completed and `freed` the granules that are free again (R317). -/
structure ReadReq where
  id : Nat
  owner : ReadOwner
  livery : Nat
  object : Nat
  mode : Nat
  first : Nat
  blocks : Nat
  startByte : Nat
  bytes : Nat
  qp : Nat
  addr : Nat
  key : Nat
  place : Bool
  lock : Option Nat
  granted : Bool
  sram : Nat
  spill : Nat
  submitted : Bool
  data : Table (List Byte)
  rows : List RowWork
  recon : Nat
  suspect : Nat
  unrec : List Nat
  delivered : Nat
  ends : List Nat
  acked : Nat
  freed : Nat
  flushOut : Bool
  poisoned : Option Nat
  startedAt : Nat
  deriving DecidableEq, Repr

/-- A block Outrider or Relay has read: its strip, its row, the block as the drive returned it, whether it passed checks 1
to 4 (R312), and whether it failed check 5. -/
structure GotBlock where
  strip : Nat
  row : Nat
  block : Option Block
  ok : Bool
  cvBad : Bool
  deriving DecidableEq, Repr

/-- A stripe check of Outrider (R325 to R327). `stage` is 1 finding the reference, 2 waiting for the shared lock, 3 reading,
4 waiting for the exclusive lock, 5 re-reading, 6 settling the tags of the corrections, 7 waiting for the intents, 8 writing
the corrections, 9 closing. `recorded` holds each block's write sequence (strip, row, sequence), `fixes` the corrected blocks,
`reason` the SUSPECT reason found (0 for none), `clean` that a SUSPECT stripe was found clean. -/
structure OtrCheck where
  psi : Nat
  object : Nat
  lstripe : Nat
  stage : Nat
  tryStrip : Nat
  lock : Option Nat
  got : List GotBlock
  recorded : List (Nat × Nat × Nat)
  reads : List Nat
  writes : List Nat
  fixes : List (Nat × Nat × Block)
  reason : Nat
  lost : Bool
  clean : Bool
  intents : List Nat
  rsn : Option Nat
  forPass : Option Nat
  deriving DecidableEq, Repr

/-- Outrider and the repair queue (block 0x28). `pass` is the running OTR_PASS: slot, next PSI, end, and its five counts. -/
structure Otr where
  cursor : Nat
  recordedCursor : Nat
  frameUsed : Nat
  repair : List Nat
  suspects : List Suspect
  check : Option OtrCheck
  pass : Option (Nat × Nat × Nat)
  passCounts : List Nat
  deriving DecidableEq, Repr

/-- The read side of Nib (block 0x26 from 0x0100). -/
structure Rd where
  reads : List ReadReq
  nextId : Nat
  sramUsed : Nat
  spillUsed : Nat
  deriving DecidableEq, Repr

/-! ## Relay -/

/-- What a run of label writes is for: a declaration (R335), a replacement drive (R351), a release of ordinals (R354). -/
inductive LabelJob where
  | declare | replace | release
  deriving DecidableEq, Repr

/-- A run of label writes: what for, the member, the ordinal it takes or the slot of its new drive, its step (0 not begun, 1
clearing the new drive, 2 its own labels, 3 copy 0 on the label members, 4 copy 1 on them), the drive commands outstanding,
and the command that asked for it. -/
structure Declaration where
  kind : LabelJob
  member : Nat
  value : Nat
  step : Nat
  writes : List Nat
  cmd : Option Nat
  deriving DecidableEq, Repr

/-- The stripe Relay works on (R343): `stage` 1 finding the reference, 2 waiting for the lock, 3 reading, 4 waiting for tags, 5
writing, 6 waiting for the META records and the MAP_COMMIT. `strips` are the strips it fills, `fixes` the rebuilt blocks,
`suspect` and `lost` what was found, `sector` whether a survivor failed a check, `copyback` the member being copied back and
`pass` whether RLY_PASS works on it. -/
structure RelayStripe where
  psi : Nat
  object : Nat
  lstripe : Nat
  stage : Nat
  tryStrip : Nat
  lock : Option Nat
  strips : List Nat
  got : List GotBlock
  reads : List Nat
  writes : List Nat
  fixes : List (Nat × Nat × Block)
  suspect : Bool
  lost : Bool
  sector : Bool
  rsn : Option Nat
  copyback : Option Nat
  pass : Bool
  deriving DecidableEq, Repr

/-- Relay (block 0x29). `jobs` holds the runs of label writes, the first in progress, `triggers` the members whose trigger was
taken and whose declaration has not reached step 3, `built` the built strips by ordinal, one bit for each unit of the data region
(R338), `copyback` the copy-back cursors by member, one above their values, `returned` the members in state RETURNED,
`stripeIn` the next stripe within the period, `readCredit` and `writeCredit` quarter bytes as of quantum `creditAt`, `waitFrom`
since when Relay waits for credit, `pass` and `copy` the running RLY_PASS (slot, next period, end) and RLY_COPYBACK (slot,
member) with their counts, `passIn` and `copyRow` their places within the period, `copyLocks` and `copyRsn` the locks a
period of copy-back holds and its RELAY_CURSOR, `headAtCursor` the Blotter head at the last record of R342 and `lastRsn` the
RSN of the last RELAY_CURSOR by ordinal. -/
structure Rly where
  phase : Nat
  cursor : Nat
  ordinal : Nat
  declaredAt : Nat
  jobs : List Declaration
  triggers : List Nat
  built : Table Nat
  copyback : Table Nat
  returned : List Nat
  work : Option RelayStripe
  stripeIn : Nat
  readCredit : Int
  writeCredit : Int
  creditAt : Nat
  waitFrom : Option Nat
  raised : Bool
  pass : Option (Nat × Nat × Nat)
  passIn : Nat
  passCounts : List Nat
  copy : Option (Nat × Nat)
  copyRow : Nat
  copyLocks : List Nat
  copyRsn : Option Nat
  copyCounts : List Nat
  headAtCursor : Nat
  lastRsn : Table Nat
  deriving DecidableEq, Repr

/-! ## Drive ports and slot control -/

/-- What a drive command is for: who gets its completion. -/
inductive Purpose where
  | strip (desc strip : Nat)
  | oldRead (desc strip row n : Nat)
  | inPlace (desc : Nat)
  | home (h member : Nat)
  | ckpt (segment copy : Nat)
  | label (member copy : Nat) (decl : Bool)
  | clear (member : Nat)
  | read (id strip : Nat) (first : Nat)
  | reconRead (id psi strip row : Nat)
  | patrol (strip row : Nat)
  | patrolWrite
  | relay (strip row : Nat)
  | relayWrite
  | remirrorRead (h : Nat)
  | remirrorWrite (h member : Nat)
  | trim (psi : Nat)
  | redo (rsn strip row : Nat)
  | redoWrite (rsn : Nat)
  | reserve (preempt : Bool)
  | register
  | admin (code : Nat)
  deriving DecidableEq, Repr

/-- A command on a drive (R361 to R367): `at_` is its submission, none while it is held; `cls` its ruling class; `shutFrom`
since when it waits, if its class was shut as it came. -/
structure DriveCmd where
  id : Nat
  slot : Nat
  op : DriveOp
  lba : Nat
  blocks : Nat
  cls : Nat
  purpose : Purpose
  at_ : Option Nat
  tries : Nat
  retryAt : Option Nat
  shutFrom : Option Nat
  deriving DecidableEq, Repr

/-- DPQn_Ps_STATUS.DRIVE. -/
inductive DriveState where
  | absent | initialising | ready | unqualified | escalating | failed
  deriving DecidableEq, Repr

/-- A drive slot and its port (R358 to R374). -/
structure Slot where
  num : Nat
  present : Bool
  change : Bool
  pgood : Bool
  fault : Bool
  powerEn : Bool
  attn : Nat
  speed : Nat
  narrow : Bool
  contained : Bool
  drive : DriveState
  capacity : Nat
  formatted : Bool
  escStep : Nat
  escAt : Option Nat
  recovered : Option (Nat × Nat)
  bootAt : Option Nat
  offUntil : Option Nat
  insertAt : Option Nat
  holder : Bool
  registered : Bool
  otherHolder : Bool
  respHold : Bool
  aerCount : Nat
  aerFrom : Nat
  busFault : Bool
  deriving DecidableEq, Repr

/-- Drive ports and slot control (blocks 0x2A to 0x37). -/
structure Drv where
  slots : List Slot
  cmds : List DriveCmd
  nextId : Nat
  deriving DecidableEq, Repr

/-! ## Remote access and Inkwells -/

/-- QP states (R156). -/
inductive QpState where
  | closed | connecting | ready | error
  deriving DecidableEq, Repr

/-- A message admitted and partly placed (R165, R168): its Inkwell, how far it is placed, its end, and whether it was
admitted by a revocation point that has passed. -/
structure Admitted where
  ink : Nat
  next : Nat
  stop : Nat
  cutAt : Option Nat
  cut : Bool
  deriving DecidableEq, Repr

/-- A packet parked for want of its context (R181): the command that its arrival was. -/
structure Parked where
  psn : Nat
  cmd : Instr
  deriving DecidableEq, Repr

/-- What a work request of a requester queue does (R174). -/
inductive WorkOp where
  | write (addr key : Nat) (data : List Byte)
  | read (addr key len : Nat)
  | flush (number : Nat)
  deriving DecidableEq, Repr

/-- A work request (R174 to R177): its operation, its wait queue and count, whether it was started, and which read, command
or image it serves. -/
structure WorkReq where
  op : WorkOp
  waitQp : Option Nat
  waitCount : Nat
  started : Bool
  sentAt : Nat
  read : Option Nat
  cmd : Option Nat
  deriving DecidableEq, Repr

/-- A requester queue (R173 to R179). -/
structure ReqQueue where
  flushKind : Nat
  depth : Nat
  prio : Nat
  active : Bool
  done : Nat
  posted : Nat
  flushes : Nat
  reqs : List WorkReq
  retries : Nat
  rnrRetries : Nat
  rnrAt : Option Nat
  rateMbps : Nat
  ending : Option Nat
  destroyCmd : Option Nat
  deriving DecidableEq, Repr

/-- A queue pair (R152 to R161, R180 to R183). `rateAt` is when its requester queue's send rate last changed or met a CNP, `rateStep` one
more than the quantum in which it was last halved. -/
structure Qp where
  num : Nat
  state : QpState
  livery : Option Nat
  nvme : Bool
  pid : Nat
  peerQp : Nat
  expected : Nat
  sendPsn : Nat
  passive : Bool
  cmAt : Option Nat
  lingerAt : Option Nat
  closeAfter : Bool
  ackExp : Nat
  pinned : Bool
  resident : Bool
  usedAt : Nat
  parked : List Parked
  fetching : Bool
  nakSent : Bool
  admitted : Option Admitted
  cnpAt : Option Nat
  rateAt : Option Nat
  rateStep : Nat
  rq : Option ReqQueue
  createCmd : Option Nat
  freezeDrop : Bool
  deriving DecidableEq, Repr

/-- An Inkwell (R162 to R172): its pages in order, its target, and what a pending revocation counts. -/
structure Inkwell where
  index : Nat
  livery : Nat
  pages : List Nat
  rights : Nat
  isNs : Bool
  target : Nat
  firstBlock : Nat
  lastImm : Word
  immCount : Nat
  revoking : Option (Nat × Nat)
  revokeCmd : Option Nat
  placedAfter : Nat
  cutCount : Nat
  reissue : Bool
  deriving DecidableEq, Repr

/-- A placed mark and stamp of a 4 KiB block of Inkwell space (R257), by HBM block number. -/
structure Placed where
  block : Nat
  mark : Bool
  stamp : Nat
  deriving DecidableEq, Repr

/-- The remote access engine and the INK unit (blocks 0x20, 0x21). -/
structure Rae where
  qps : List Qp
  freeQps : List Nat
  freshQp : Nat
  inks : List Inkwell
  tags : Table Nat
  freeInks : List Nat
  freshInk : Nat
  releasing : List (Nat × List Nat)
  landing : List Nat
  placed : List Placed
  parkPeak : Nat
  deriving DecidableEq, Repr

/-! ## Host queues -/

/-- A host binding entry (R193): NQN bytes up to the NUL, process identifier, VALID. -/
structure Binding where
  nqn : List Byte
  pid : Nat
  valid : Bool
  deriving DecidableEq, Repr

/-- An NVMe-oF command in progress (R191, R195, R201). `op` is its opcode, 256 above it for an admin command; `sqSeq` orders
the commands of its queue; `buffer` says whether it holds a capsule buffer, `landing` the landing pages its data took. `stage`:
0 not begun, 1 waiting for a pull, 2 for landing pages, 3 pulling, 4 for its range lock, 5 for descriptors, 6 running in Nib,
7 waiting for records of its deallocations, 8 for changes of metadata, 9 for records of deallocations that end it. `dropped` says
that its queue was reset; `aux` keeps the RSNs or the object it waits for. -/
structure NvmeCmd where
  qp : Nat
  cid : Nat
  sqSeq : Nat
  op : Nat
  capsule : Capsule
  generation : Nat
  at_ : Nat
  overdueAt : Option Nat
  fuse : Nat
  buffer : Bool
  pull : Bool
  landing : List Nat
  stage : Nat
  waitsFor : List Nat
  dropped : Bool
  lock : Option Nat
  aux : List Nat
  deriving DecidableEq, Repr

/-- An NVMe-oF queue: the QP that carries it and the controller and queue number it belongs to. -/
structure NvmeQueue where
  qp : Nat
  cntlid : Nat
  qid : Nat
  size : Nat
  nextSeq : Nat
  lastFuse : Option Nat
  deriving DecidableEq, Repr

/-- A controller (R189 to R200): `pendingNotice` holds the notices that no Asynchronous Event Request has taken yet, `resvLog`
its reservation notifications (type and namespace), `errors` its Error Information entries. -/
structure Controller where
  cntlid : Nat
  livery : Nat
  generation : Nat
  hostNqn : List Byte
  hostId : Nat
  discovery : Bool
  cc : Word
  csts : Word
  katoMs : Nat
  kaAt : Nat
  ioQueues : Nat
  aerConfig : Word
  resvMask : Word
  pendingNotice : List Nat
  changedNs : List Nat
  resvLog : List (Nat × Nat)
  errors : Nat
  deriving DecidableEq, Repr

/-- Reservation state of a namespace (R192): registrants by host identifier and key, the holder and the type. -/
structure Reservation where
  nsid : Nat
  generation : Nat
  ptpl : Bool
  registrants : List (Nat × Nat)
  holder : Option Nat
  rtype : Nat
  deriving DecidableEq, Repr

/-- Who asked for a range lock (R197): Nib, Outrider, Relay, the HQE or the command processor, and its number there. -/
inductive LockHolder where
  | nib (desc : Nat)
  | outrider
  | relay
  | hqe (qp cid : Nat)
  | read (id : Nat)
  deriving DecidableEq, Repr

/-- A range lock entry or a request waiting for one (R196, R197): blocks `first` to `last` of an object. -/
structure RangeLock where
  id : Nat
  object : Nat
  first : Nat
  last : Nat
  exclusive : Bool
  holder : LockHolder
  granted : Option Nat
  since : Nat
  deriving DecidableEq, Repr

/-- The host queue engine and the range lock table (blocks 0x22, 0x23). `ent` is the snapshot that RLT_IDX took; `nsSeen` and
`anaSeen` are the namespaces (number and livery) and the ANA state that hosts were last told of; `pstate` is the power state in force,
`ptarget` the entry's target, `pstep` the entry step reached, `pbegan` when the entry or exit began, `pslot` the long operation
whose entry was ended, `pwaking` whether an exit runs. -/
structure Hqe where
  bindings : Table Binding
  bindStage : Table (List Byte)
  controllers : List Controller
  queues : List NvmeQueue
  cmds : List NvmeCmd
  resvs : List Reservation
  anaCount : Nat
  locks : List RangeLock
  nextLock : Nat
  ent : Option (Nat × RangeLock)
  nsSeen : List (Nat × Nat)
  anaSeen : Nat
  pstate : Nat
  ptarget : Nat
  pstep : Nat
  pbegan : Nat
  pslot : Option Nat
  pwaking : Bool
  deriving DecidableEq, Repr

/-! ## Liveries -/

/-- A livery image in a buffer (R225 to R227): its header fields and the service state it carries. -/
structure Image where
  valid : Bool
  version : Nat
  livery : Nat
  generation : Nat
  module : Nat
  rts : Nat
  crcOk : Bool
  objects : List Nat
  keyMask : Nat
  config : List Nat
  qps : List Qp
  inks : List Inkwell
  controllers : List Controller
  queues : List NvmeQueue
  counters : List (Nat × Nat)
  deriving DecidableEq, Repr

/-- The livery unit (block 0x24). `mapStage` is the staging copy of LVY_MAP_FIRST; `buffers` the four image buffers. -/
structure Lvy where
  liveries : List Livery
  table : Table LvyMap
  buffers : Table Image
  busyBuffers : List Nat
  deriving DecidableEq, Repr

/-! ## Failover and the partner link -/

/-- The roles of R402. -/
inductive Role where
  | init | standby | claiming | takeover | active | handover
  deriving DecidableEq, Repr

/-- The failover unit and the partner link (blocks 0x0D, 0x0E). Deadlines are quanta. -/
structure Fov where
  role : Role
  roleRts : Nat
  tstep : Nat
  declaredAt : Nat
  guardAt : Option Nat
  discoverAt : Option Nat
  peerLowAt : Option Nat
  fenceAt : Option Nat
  cutAt : Option Nat
  releaseAt : Option Nat
  handoverAt : Option Nat
  blocked : Bool
  ptlAlive : Bool
  hblAlive : Bool
  ptlHeard : Nat
  hblHeard : Nat
  degraded : Bool
  kickAt : Nat
  running : Bool
  partnerRole : Nat
  partnerEligible : Bool
  partnerHbIn : Bool
  partnerSlot : Bool
  sentSeq : Nat
  pwrCut : Bool
  fenced : Bool
  lanes : Nat
  partnerVersion : Nat
  lastUs : Nat
  releasedAt : Nat
  carried : List Nat
  handoverSlot : Option Nat
  resumeFull : Bool
  deriving DecidableEq, Repr

/-! ## Turnpike -/

/-- A frame in shared memory (R112): its length with FCS, priority, colour (0 green, 1 yellow, 2 red), ECN capability and
mark, the link it came in on, the livery of storage-originated traffic, the link it goes to, and the frame itself when it
is being relayed. -/
structure QFrame where
  length : Nat
  prio : Nat
  colour : Nat
  ect : Bool
  ce : Bool
  inLink : Option Nat
  livery : Nat
  outLink : Nat
  frame : Option EthFrame
  tandem : Option TandemFrame
  deriving DecidableEq, Repr

/-- A packet in a bulk FIFO (R109). -/
structure BulkPkt where
  length : Nat
  inHbm : Bool
  ce : Bool
  deriving DecidableEq, Repr

/-- A port as it is in force (R102, R105): its bulk FIFO, oldest first; `cageOff` says that its cage has no power (R544). -/
structure EthPort where
  num : Nat
  enabled : Bool
  role : Nat
  mode : Nat
  up : Nat
  fifo : List BulkPkt
  cageOff : Bool
  deriving DecidableEq, Repr

/-- A pause in force (R115): link, priority, since when, until when, and whether the watchdog has fired. -/
structure Pause where
  link : Nat
  prio : Nat
  since : Nat
  until_ : Nat
  barked : Bool
  deriving DecidableEq, Repr

/-- An XOFF raised (R117): link, priority, whether for the bulk FIFO, and when it is repeated. -/
structure Xoff where
  link : Nat
  prio : Nat
  bulk : Bool
  repeatAt : Nat
  deriving DecidableEq, Repr

/-- A shaper (R126, R127): its credit in units of a ten-thousandth of a byte. -/
structure Shaper where
  rate : Nat
  hi : Nat
  lo : Nat
  credit : Int
  deriving DecidableEq, Repr

/-- A policer (R120): its buckets in units of a ten-thousandth of a byte. -/
structure Policer where
  cir : Nat
  pir : Nat
  cbs : Nat
  pbs : Nat
  aware : Bool
  enable : Bool
  tc : Nat
  tp : Nat
  deriving DecidableEq, Repr

/-- Fair queuing of a port (R129): the virtual time and the tags of its livery lists by livery. -/
structure Wfq where
  v : Nat
  tags : Table (Nat × Nat)
  deriving DecidableEq, Repr

/-- Turnpike (blocks 0x10 to 0x1E). `lists` are the cell lists of R112 by list number (`listLink`, `listCtl`, `listLivery`,
`listIn` of Turnpike.lean), `tables` the entries of R133 by table × 65,536 + index, `shpPending` and `polPending` the commits
that wait for the next refill, `rr` the weighted round robin of a link (priority and weight left), `busy` the quantum until
which a link sends, `ctl` the control-list allowance of a link. -/
structure Tpk where
  ports : List EthPort
  lists : Table (List QFrame)
  tables : Table (List Nat)
  pauses : List Pause
  xoffs : List Xoff
  redAvg : Table Nat
  shapers : Table Shaper
  policers : Table Policer
  shpPending : Table (Nat × Nat × Nat)
  polPending : Table Policer
  wfq : Table Wfq
  rr : Table (Nat × Nat)
  ctPtr : Table Nat
  busy : Table Nat
  ctl : Table Int
  drr : Nat
  drrCredit : Nat
  deriving DecidableEq, Repr

/-! ## Tandem -/

/-- A tandem link (R147, R148): state 0 down, 1 hello, 2 up, 3 REFUSED. -/
structure TdmLink where
  link : Nat
  state : Nat
  version : Nat
  peer : Nat
  heard : Nat
  sentAt : Nat
  deriving DecidableEq, Repr

/-- A held frame of a resequencing context. -/
structure HeldFrame where
  seq : Nat
  at_ : Nat
  frame : TandemFrame
  deriving DecidableEq, Repr

/-- A resequencing context (R142 to R144). -/
structure Reseq where
  source : Nat
  flow : Nat
  expected : Nat
  held : List HeldFrame
  lastAt : Nat
  deriving DecidableEq, Repr

/-- Tandem (block 0x1F): links, contexts, the sequence number of each own flow, and the tables of R150 by
table × 65,536 + index. -/
structure Tdm where
  links : List TdmLink
  ctxs : List Reseq
  seqs : Table Nat
  tables : Table (List Nat)
  deriving DecidableEq, Repr

/-! ## Check-value engine -/

/-- A key slot (R380): state 0 EMPTY, 1 LOADED, 2 EXHAUSTED. -/
structure KeySlot where
  state : Nat
  key : List Byte
  salt : Nat
  role : Nat
  usage : Nat
  limit : Nat
  succ : Nat
  kcv : Nat
  deriving DecidableEq, Repr

/-- Who asked for a tag or a verification (R386). -/
inductive CveAsker where
  | nib (livery : Nat) | read (id : Nat) | outrider | relay
  deriving DecidableEq, Repr

/-- A request that waits for a lane (R386): the block, the slot it names, who asked, and the drive, strip and row it is for. -/
structure CveReq where
  tag : Bool
  slot : Nat
  asker : CveAsker
  drive : Nat
  strip : Nat
  row : Nat
  block : Block
  at_ : Nat
  deriving DecidableEq, Repr

/-- The check-value engine (block 0x0C). `records` are the metadata records of R383 (salt, KCV, count), `partnerCounts` the
counts last received from the partner, `clears` the slots a KEY_CLEAR waits for and the command it answers, `failures` the
quanta of recent entropy failures. -/
structure Cve where
  slots : Table KeySlot
  records : Table (Nat × Nat × Nat)
  partnerCounts : Table Nat
  stage : Table (List Byte)
  keyFail : Bool
  queue : List CveReq
  clears : List (Nat × Option Nat)
  ent : Nat
  failures : List Nat
  restarting : Bool
  deriving DecidableEq, Repr

/-! ## Drain ladder -/

/-- A request that waits for room (R422, R423): pool, whether it is descending, since when, and the unit's number for it. -/
structure LadderWait where
  pool : Nat
  descending : Bool
  since : Nat
  who : Nat
  deriving DecidableEq, Repr

/-- The drain ladder (block 0x38): units in use and highest use by pool, the headroom requested, the waiting requests,
the quantum at which each level's stall is due, and the snapshot of the pool registers. -/
structure Drl where
  use : Table Nat
  peak : Table Nat
  hdrm : Table Nat
  waits : List LadderWait
  stallAt : Table (Option Nat)
  snapPool : Nat
  snap : List Nat
  noBhome : Bool
  ctrlLow : Bool
  rxBuffers : Nat
  deriving DecidableEq, Repr

/-! ## The machine -/

/-- Everything the module holds except the queue of commands that wait. `q` is the model's clock in Ruling quanta of
1.25 ns (R31), `free` counts the free values taken so far, `out` lists what left the module, newest first, and `regs`
holds the registers and latches by full offset (banked copies at 2^24 × entry above it) that differ from their reset
values (`resetWord` of Ops.lean); `counters` holds the unit counters by block × 2^32 + instance × 2^8 + item. -/
structure Dev where
  q : Nat
  free : Nat
  out : List Output
  regs : Table Word
  counters : Table Nat
  evtSeq : Nat
  held : List Nat
  pins : Pins
  clk : Clk
  pes : Pes
  rul : Rul
  cp : Cp
  pmc : Pmc
  lmon : Lmon
  wbl : Wbl
  mem : Mem
  mep : Mep
  fov : Fov
  tpk : Tpk
  tdm : Tdm
  rae : Rae
  hqe : Hqe
  lvy : Lvy
  lay : Lay
  nib : Nib
  blt : Blt
  otr : Otr
  rd : Rd
  rly : Rly
  drv : Drv
  cve : Cve
  drl : Drl
  deriving DecidableEq, Repr

/-- The state of the model: the module and the commands that wait, first in, first out. -/
structure State extends Dev where
  pending : List Instr
  deriving DecidableEq, Repr

/-- How a command stops. -/
inductive Fault where
  /-- Raised by `State.run` (Ops.lean) for a command whose operands name something that the module does not have or that no
  field of the command can carry (`Instr.wf`): no such command exists. Safe: the machine stops where no hardware step is. -/
  | noSuchCommand
  deriving DecidableEq, Repr

/-- Why the model declines a command. -/
inductive Refusal where
  /-- Raised by an arm of `exec` for a command that has no meaning yet. Safe: the machine stops. -/
  | notModelled (mnemonic : String)
  deriving DecidableEq, Repr

/-! ## Power-on reset -/

/-- A source not yet seen (R40). -/
def RefSource.none : RefSource := ⟨false, 0, .none, 0, 0, 0⟩

/-- Ruling after reset: ACQUIRE from the end of step 5 (R507), no source, the default geometry of RUL_RATE, RUL_DEN, RUL_LPF. -/
def Rul.reset : Rul where
  state := .acquire
  source := none
  prio := 0x21
  held := none
  epoch := 0
  epochChanges := 0
  holdClkOk := false
  timeline := false
  started := false
  acqAt := none
  geo := ⟨24, 1, 1125⟩
  nextGeo := none
  anchorQ := 0
  anchorAcc := 0
  slewPpm := 0
  house := .none
  ptp := .none
  inband := .none
  servo := ⟨none, none, 0, 0, 0, 0, none⟩
  phaseErr := 0
  bank := false
  bank0 := []
  bank1 := []
  swapAt := none
  badWin := 0
  boundaries := []

/-- A cleared latency monitor (R456). -/
def Monitor.cleared : Monitor := ⟨0xFFFFFFFF, 0, 0, 0, []⟩

/-- An empty mailbox ring pair. -/
def Ring.empty : Ring := ⟨[], [], [], []⟩

/-- A DMA channel after reset. -/
def DmaChannel.idle : DmaChannel := ⟨0, 0, 0, false⟩

/-- A drive slot that nothing has read yet. -/
def Slot.empty (n : Nat) : Slot :=
  ⟨n, false, false, false, false, false, 0, 3, false, false, .absent, 0, false, 0, none, none, none, none, none,
   false, false, false, false, 0, 0, false⟩

/-- A port after reset (R102 to R105): ports 8 to 11 have the tandem role. -/
def EthPort.initial (n : Nat) : EthPort := ⟨n, true, if n < 8 then 0 else 1, 0, 0, [], false⟩

/-- A lane of the module right after a power-on reset: power entry in state ON (PES_STATUS), the sequence before its first
step, the pins at the levels of R540 with nothing driving them. -/
def Dev.reset : Dev where
  q := 0
  free := 0
  out := []
  regs := []
  counters := []
  evtSeq := 0
  held := []
  pins := ⟨false, false, false, false, false, false, false, false, false, true, true, false, false, true, false⟩
  clk := ⟨0, false, false, 0, 1, 0, 0, 0, false, [], 1, 0, 0, 1, false, false, false, 0x10,
    [⟨1, 0x10, 1, 32⟩, ⟨0, 0, 0, 0⟩], [], [], false, false, false⟩
  pes := ⟨.on, 54000, 0, false, none, none, some 0, none, false, none, false, none, none, 100, 100⟩
  rul := Rul.reset
  cp := ⟨15, [0, 1, 2, 3], [], 0, [], 0, [], []⟩
  pmc := ⟨[], [], 0, [], false, 0, 0, []⟩
  lmon := ⟨[], Monitor.cleared⟩
  wbl := ⟨0, [], [], 0, 0, [], 0, 0, 0, false, false⟩
  mem := ⟨[], [], [], [], none, [], [], [], false⟩
  mep := ⟨0, 0, false, false, 0, false, false, 0, [], false, 0, List.replicate 8 Ring.empty,
    List.replicate 4 DmaChannel.idle, [], 0, 0⟩
  fov := ⟨.init, 0, 0, 0, none, none, none, none, none, none, none, false, false, false, 0, 0, false, 0, false, 0xFF, false,
    false, false, 0, false, false, 0, 0, 0, 0, [], none, false⟩
  tpk := ⟨(List.range 12).map EthPort.initial, [], [], [], [], [], [], [], [], [], [], [], [], [], [], 0, 0⟩
  tdm := ⟨[], [], [], []⟩
  rae := ⟨[], [], 0, [], [], [], 0, [], [], [], 0⟩
  hqe := ⟨[], [], [], [], [], [], 0, [], 0, none, [], 3, 0, 0, 0, 0, none, false⟩
  lvy := ⟨[⟨0, .service, 1, [], 0, 0, 0, []⟩], [], [], []⟩
  lay := ⟨0, none, [], [], [], 0, [], [], [], [], [], 0, [], [], [], [], none⟩
  nib := ⟨[], [], 0, 0, 0, 0, 0, none, false⟩
  blt := ⟨1, [], [], 0, 0, 0, 0, false, [], [], false, false, .none, 0, 0, none, false, [], [], 0, 0, [], 0, 0, false, 0, [],
    [], 0, 0, 0, [], none, none, 0, false, [], [], none⟩
  otr := ⟨0, 0, 0, [], [], none, none, []⟩
  rd := ⟨[], 0, 0, 0⟩
  rly := ⟨0, 0, 0, 0, [], [], [], [], [], none, 0, 0, 0, 0, none, false, none, 0, [], none, 0, [], none, [], 0, []⟩
  drv := ⟨(List.range 48).map Slot.empty, [], 0⟩
  cve := ⟨[], [], [], [], false, [], [], 1, [], false⟩
  drl := ⟨[], [], [], [], [], 0, [], false, false, 0⟩

/-- The machine right after reset: the queue is empty. -/
def State.reset : State := { Dev.reset with pending := [] }

end Sys2Proof.Machine
end

