-- ==== Sys2Proof/WellFormed.lean ====
section
/-! DEFINITION. Well-formed commands: every operand fits the field or the set of instances that the rule of its row gives
it. An ill-formed term stands for no command that can reach the module. -/

namespace Sys2Proof

/-- An endpoint names a ring, QP or session its transport has (R57). -/
def Endpoint.wf (e : Endpoint) : Bool :=
  match e.transport with
  | .rdma => decide (e.key < 0x1000000)
  | .udp => decide (e.key < 2 ^ 144)
  | .mailbox => decide (e.key < 8)
  | .tandem => decide (e.key < 2 ^ 32)

/-- A packet's fields fit the header of R64, and no transport delivers more than 64 KiB at once. -/
def Packet.wf (p : Packet) : Bool :=
  p.src.wf && decide (p.delivered ≤ 65536) && decide (p.tag < 2 ^ 32) && decide (p.pid < 2 ^ 24) && decide (p.livery < 256)
    && decide (p.generation < 65536) && decide (p.plen < 65536) && decide (p.due < 2 ^ 64) && decide (p.reserved < 2 ^ 32)
    && decide (p.params.length ≤ 8192)

/-- QP number and PSN are 24-bit (R152). -/
def RoceHdr.wf (h : RoceHdr) : Bool := decide (h.qp < 0x1000000) && decide (h.psn < 0x1000000)

/-- The fields of a CM REQ fit their widths (R155). -/
def CmReq.wf (m : CmReq) : Bool :=
  decide (m.port < 65536) && decide (m.pid < 2 ^ 20) && decide (m.livery < 256) && decide (m.peerQp < 0x1000000)
    && decide (m.startPsn < 0x1000000) && decide (m.ackExponent < 32) && decide (m.nvmeQid < 65536)
    && decide (m.hsqsize < 65536) && decide (m.hrqsize < 65536)

/-- The fields of a capsule fit the 64-byte submission entry (R191). -/
def Capsule.wf (c : Capsule) : Bool :=
  decide (c.qp < 0x1000000) && decide (c.cid < 65536) && decide (c.fuse < 4) && decide (c.nsid < 2 ^ 32)
    && decide (c.sglAddr < 2 ^ 64) && decide (c.sglKey < 2 ^ 32) && decide (c.sglLen < 2 ^ 24)

/-- The fields of Connect data fit their widths (R189). -/
def ConnectData.wf (c : ConnectData) : Bool :=
  decide (c.qp < 0x1000000) && decide (c.cid < 65536) && decide (c.qid < 65536) && decide (c.cntlid < 65536)
    && decide (c.sqsize < 65536) && decide (c.katoMs < 2 ^ 32) && decide (c.hostId < 2 ^ 128)
    && decide (c.subNqn.length ≤ 255) && decide (c.hostNqn.length ≤ 255)

/-- A frame's fields fit their widths; links are numbered 0 to 95 (R103). -/
def EthFrame.wf (f : EthFrame) : Bool :=
  decide (f.link < 96) && decide (f.length < 65536) && decide (f.vlan < 4096) && decide (f.pcp < 8) && decide (f.dstMac < 2 ^ 48)
    && decide (f.srcMac < 2 ^ 48) && decide (f.dscp < 64) && decide (f.ecn < 4) && decide (f.srcIp < 2 ^ 128)
    && decide (f.dstIp < 2 ^ 128) && decide (f.srcPort < 65536) && decide (f.dstPort < 65536)

/-- A Tandem frame's fields fit the header of R135. -/
def TandemFrame.wf (f : TandemFrame) : Bool :=
  decide (f.link < 96) && decide (f.type < 256) && decide (f.hops < 256) && decide (f.priority < 8) && decide (f.dest < 65536)
    && decide (f.source < 65536) && decide (f.flow < 4096) && decide (f.sequence < 65536)
    && (match f.inner with | none => true | some g => g.wf)

/-- A slot controller's registers are 16 and 8 bits wide (R371). -/
def SlotReading.wf (r : SlotReading) : Bool := decide (r.status < 65536) && decide (r.change < 256)

/-- A partner message's fields fit R405. -/
def PartnerMsg.wf (m : PartnerMsg) : Bool := decide (m.role < 8) && decide (m.sequence < 2 ^ 32)

/-- Links are numbered 0 to 95 (R103). -/
def wfLink (n : Nat) : Bool := decide (n < 96)

/-- Priorities and mailbox rings are numbered 0 to 7. -/
def wfPrio (n : Nat) : Bool := decide (n < 8)

/-- Ethernet ports and OSFP cages are numbered 0 to 11. -/
def wfPort (n : Nat) : Bool := decide (n < 12)

/-- Drive slots are numbered 0 to 47. -/
def wfDrive (n : Nat) : Bool := decide (n < 48)

/-- Long-operation slots are numbered 0 to 255 (R91). -/
def wfLong (n : Nat) : Bool := decide (n < 256)

/-- QP numbers are 24 bits wide (R152). -/
def wfQp (n : Nat) : Bool := decide (n < 0x1000000)

/-- Command identifiers, controller identifiers and module identifiers are 16 bits wide. -/
def wfCid (n : Nat) : Bool := decide (n < 65536)

/-- Inkwell keys are 32 bits wide (R162). -/
def wfKey (n : Nat) : Bool := decide (n < 0x100000000)

/-- RDMA virtual addresses are 64 bits wide. -/
def wfVa (n : Nat) : Bool := decide (n < 0x10000000000000000)

/-- An RDMA message has at most 2^31 bytes. -/
def wfMsgLen (n : Nat) : Bool := decide (n ≤ 0x80000000)

/-- Register offsets lie in the 16 MiB space of R527. -/
def wfOffset (n : Nat) : Bool := decide (n < 0x1000000)

/-- Byte enables and register groups are 4 bits wide. -/
def wfNibble (n : Nat) : Bool := decide (n < 16)

/-- Flow numbers are 12 bits wide (R136). -/
def wfFlow (n : Nat) : Bool := decide (n < 4096)

/-- The bytes of a memory (R429). -/
def memoryBytes (m : Nat) : Nat := if m < 2 then 24 * 2 ^ 30 else if m < 6 then 64 * 2 ^ 30 else 136 * 2 ^ 20

/-- A memory index and a byte address within that memory (R429). -/
def wfAddress (m a : Nat) : Bool := decide (m < 7) && decide (a < memoryBytes m)

/-- DMA channels are numbered 0 to 3 (R485). -/
def wfChannel (n : Nat) : Bool := decide (n < 4)

/-- Memories are numbered 0 to 6 (R429). -/
def wfMemory (n : Nat) : Bool := decide (n < 7)

/-- Every operand of a command is one that the module can meet. -/
def Instr.wf : Instr → Bool
  | .nop p => p.wf
  | .sessionOpen p => p.wf
  | .sessionClose p => p.wf
  | .versionQuery p => p.wf
  | .stepContinue p => p.wf
  | .stepRelease p => p.wf
  | .stepCancel p => p.wf
  | .longopQuery p => p.wf
  | .nsCreate p => p.wf
  | .nsDelete p => p.wf
  | .nsQuery p => p.wf
  | .nsFormat p => p.wf
  | .takeOpen p => p.wf
  | .takeClose p => p.wf
  | .takeExport p => p.wf
  | .takeDelete p => p.wf
  | .takeQuery p => p.wf
  | .commit p => p.wf
  | .flush p => p.wf
  | .readTo p => p.wf
  | .frameIndexQuery p => p.wf
  | .inkRegister p => p.wf
  | .inkRevoke p => p.wf
  | .inkQuery p => p.wf
  | .rqCreate p => p.wf
  | .rqDestroy p => p.wf
  | .rqFlush p => p.wf
  | .arrayCreate p => p.wf
  | .arrayQuery p => p.wf
  | .memberQuery p => p.wf
  | .mapCheckpoint p => p.wf
  | .memberFail p => p.wf
  | .memberReplace p => p.wf
  | .lostStripeQuery p => p.wf
  | .otrConfigure p => p.wf
  | .otrPass p => p.wf
  | .otrSuspectQuery p => p.wf
  | .rlyConfigure p => p.wf
  | .rlyQuery p => p.wf
  | .rlyPass p => p.wf
  | .rlyCopyback p => p.wf
  | .lvyCreate p => p.wf
  | .lvyDelete p => p.wf
  | .lvyConfigure p => p.wf
  | .lvyMapPid p => p.wf
  | .lvyReset p => p.wf
  | .lvyFreeze p => p.wf
  | .lvySave p => p.wf
  | .lvyRestore p => p.wf
  | .lvyThaw p => p.wf
  | .lvyQuery p => p.wf
  | .rulQuery p => p.wf
  | .rulConfigure p => p.wf
  | .rulTableLoad p => p.wf
  | .rulPulse p => p.wf
  | .rulConvert p => p.wf
  | .keyLoad p => p.wf
  | .keyClear p => p.wf
  | .keySuccessor p => p.wf
  | .keyQuery p => p.wf
  | .fovConfigure p => p.wf
  | .fovQuery p => p.wf
  | .fovHandover p => p.wf
  | .evtSubscribe p => p.wf
  | .evtUnsubscribe p => p.wf
  | .evtMask p => p.wf
  | .pmcConfigure p => p.wf
  | .pmcSnapshot p => p.wf
  | .pmcQuery p => p.wf
  | .lmonConfigure p => p.wf
  | .lmonQuery p => p.wf
  | .wblQuery p => p.wf
  | .wblClear p => p.wf
  | .regRead p => p.wf
  | .regWrite p => p.wf
  | .regRmw p => p.wf
  | .fwQuery p => p.wf
  | .fwUpdate p => p.wf
  | .fwActivate p => p.wf
  | .modReset p => p.wf
  | .powerState p => p.wf
  | .longopStep slot => wfLong slot
  | .cookieExpired slot => wfLong slot
  | .heldLongopStart slot => wfLong slot
  | .heldCommandDispatch _ => true
  | .ordCommandStart _ => true
  | .udpSessionIdle _ => true
  | .placementFlushRequest qp _ => wfQp qp
  | .placementFlushReply qp _ => wfQp qp
  | .roceSend h _ => h.wf
  | .rdmaWrite h key va length _ _ _ => h.wf && wfKey key && wfVa va && wfMsgLen length
  | .rdmaWriteWithImmediate h key va length _ _ _ _ => h.wf && wfKey key && wfVa va && wfMsgLen length
  | .rdmaRead h key va length => h.wf && wfKey key && wfVa va && wfMsgLen length
  | .unsupportedOp h _ => h.wf
  | .duplicatePacket h _ key va length => h.wf && wfKey key && wfVa va && wfMsgLen length
  | .psnSequenceError h => h.wf
  | .cnpReceived qp => wfQp qp
  | .ccRateIncrease qp => wfQp qp
  | .contextFetchDone qp => wfQp qp
  | .cmReq m => m.wf
  | .cmRep qp peerQp startPsn => decide (qp < 0x1000000) && decide (peerQp < 0x1000000) && decide (startPsn < 0x1000000)
  | .cmRtu qp => wfQp qp
  | .cmRej qp _ => wfQp qp
  | .cmDreq qp => wfQp qp
  | .cmDrep qp => wfQp qp
  | .cmMra qp _ => wfQp qp
  | .cmTimeout qp => wfQp qp
  | .qpLingerExpiry qp => wfQp qp
  | .rqAckReceived qp _ => decide (qp < 0x1000000)
  | .rqNakReceived qp _ => wfQp qp
  | .rqAckTimeout qp => wfQp qp
  | .rnrRetryTimer qp => wfQp qp
  | .workRequestWaitRelease qp => wfQp qp
  | .flushTimeout qp => wfQp qp
  | .revokeCut index => decide (index < 0x1000000)
  | .nvmeConnect c => c.wf
  | .propertyGet c => c.wf
  | .propertySet c => c.wf
  | .identify c => c.wf
  | .getFeatures c => c.wf
  | .setFeatures c => c.wf
  | .getLogPage c => c.wf
  | .keepAlive c => c.wf
  | .asynchronousEventRequest c => c.wf
  | .namespaceManagement c => c.wf
  | .abort c => c.wf
  | .nvmeFlush c => c.wf
  | .nvmeWrite c => c.wf
  | .nvmeRead c => c.wf
  | .writeZeroes c => c.wf
  | .datasetManagement c => c.wf
  | .reservationRegister c => c.wf
  | .reservationReport c => c.wf
  | .reservationAcquire c => c.wf
  | .reservationRelease c => c.wf
  | .invalidCommandOpcode c => c.wf
  | .rdmaReadPullDone qp cid _ => wfQp qp && wfCid cid
  | .katoExpired cntlid => wfCid cntlid
  | .cmdOverdue qp cid => wfQp qp && wfCid cid
  | .rangeLockGrant _ => true
  | .ethFrameReceived f => f.wf
  | .pauseTimerExpiry link prio => wfLink link && wfPrio prio
  | .pfcWatchdog link prio => wfLink link && wfPrio prio
  | .xoffRepeat link prio => wfLink link && wfPrio prio
  | .linkTxSelect link => wfLink link
  | .fairQueueSelect port => wfPort port
  | .shaperRefill => true
  | .storageAttachmentServe => true
  | .gateRunOpen link prio => wfLink link && wfPrio prio
  | .fecWindow port uncorrected corrected => decide (port < 12) && decide (uncorrected.length ≤ 8) && decide (corrected.length ≤ 8)
  | .ethLinkChange link _ => wfLink link
  | .ethApply _ port _ => wfPort port
  | .tpkTblRead _ _ => true
  | .tpkTblWrite _ _ => true
  | .tssShpCommit _ => true
  | .tssPolCommit _ _ => true
  | .tandemFrameReceived f => f.wf
  | .helloSend link => wfLink link
  | .helloLoss link => wfLink link
  | .reseqFlush source flow => wfCid source && wfFlow flow
  | .reseqContextFree source flow => wfCid source && wfFlow flow
  | .houseFrameEdge _ => true
  | .houseLineEdge _ => true
  | .sourceLost source => decide (source < 3)
  | .acqTimeout => true
  | .holdClkFault => true
  | .rulCtlRelock _ _ => true
  | .rulCtlEn _ _ => true
  | .rulCtlForceHold _ _ => true
  | .rulTblSwap _ => true
  | .rulTblCopy _ => true
  | .frameStart => true
  | .classWindowOpen cls => decide (cls < 16)
  | .rulNowLoRead _ => true
  | .descriptorClosePoint _ => true
  | .descriptorIdleClose _ => true
  | .drainSlotGrant _ => true
  | .driveBlockFetch _ strip block => decide (strip < 32) && decide (block < 256)
  | .subStripeAdmit _ => true
  | .driveCompletion _ _ _ => true
  | .driveWriteRetry _ => true
  | .batchExpiry => true
  | .mirrorRecordsReceived _ _ _ _ => true
  | .mirrorAckReceived _ => true
  | .mirrorAckTimeout => true
  | .partnerDiscovered _ _ _ _ => true
  | .partnerCheckpointLoaded => true
  | .pwrFailAsserted => true
  | .pwrFailReleased => true
  | .pfInternalThreshold => true
  | .blotterReplay _ => true
  | .remirrorLate => true
  | .checkpointInterval _ => true
  | .ckptLag _ => true
  | .layLocCmd _ _ => true
  | .mapLoad _ _ => true
  | .readDelivery _ => true
  | .readGranuleGrant _ => true
  | .otrCheckStart => true
  | .memberFailDeclare member => decide (member < 64)
  | .declarationEffect => true
  | .relayStep => true
  | .driveLinkTrained slot speed width => decide (slot < 48) && decide (speed < 8) && decide (width ≤ 4)
  | .aerError slot _ => wfDrive slot
  | .aerCorrectable slot => wfDrive slot
  | .driveAsyncEvent slot _ => wfDrive slot
  | .cmdTimeout _ => true
  | .ctrlResetResult slot _ => wfDrive slot
  | .slotPowerOffExpiry slot => wfDrive slot
  | .bootTimeout slot => wfDrive slot
  | .reservationAcquired slot => wfDrive slot
  | .dpcCtlEn _ _ => true
  | .dpqRetrain _ slot => wfDrive slot
  | .dpqFormat _ slot => wfDrive slot
  | .slotPoll readings => decide (readings.length = 12) && readings.all SlotReading.wf
  | .insertDelayExpiry slot => wfDrive slot
  | .sltCmdAttn _ _ => true
  | .sltCmdCycle _ => true
  | .sltCmdOff _ => true
  | .sltCmdOn _ => true
  | .cveTagRequest => true
  | .cveVerifyRequest => true
  | .entropyHealth _ => true
  | .entropyRestartDone _ => true
  | .cveKeyLoad _ => true
  | .cveKeyClear _ => true
  | .entRestart _ => true
  | .actPeerLow2ms => true
  | .guardExpiry => true
  | .claimLost => true
  | .discoverTimeout => true
  | .heartbeatSend => true
  | .hbLineToggle => true
  | .fovWdogKick _ => true
  | .wdogExpiry => true
  | .heartbeatReceived msg => msg.wf
  | .hbInChange => true
  | .pathSilent _ => true
  | .fenceAckSeen => true
  | .fenceTimeout => true
  | .actPeerFall => true
  | .takeoverBlocked => true
  | .fenceInAsserted => true
  | .fenceInReleased => true
  | .fenceRelease _ => true
  | .autoReleaseExpiry => true
  | .handoverMessage msg => msg.wf
  | .resumedMessage msg => msg.wf
  | .handoverTimeout => true
  | .partnerLinkChange lanes => decide (lanes < 256)
  | .levelStall level => decide (1 ≤ level) && decide (level < 6)
  | .drlPoolHdrmWrite _ _ => true
  | .poolSnapshot _ _ => true
  | .correctableError memory address device _ => wfAddress memory address && decide (device < 32)
  | .uncorrectableError memory address _ _ => wfAddress memory address
  | .ceRateWindow memory => decide (memory < 7)
  | .mapSegReload _ => true
  | .scrubRead memory => decide (memory < 7)
  | .memInjArm _ _ => true
  | .memoryFill failed => decide (failed < 128)
  | .eventPacketSend _ => true
  | .evtPendClear _ group _ => wfNibble group
  | .evtAlertMaskWrite _ group _ => wfNibble group
  | .pmcUpdateArrival => true
  | .pmcFreeze _ _ => true
  | .pmcSnap _ => true
  | .pmcValPreset _ _ => true
  | .lmonIdxCopy _ _ => true
  | .lmonClear _ => true
  | .lmonClearAll _ => true
  | .lmonSelWrite _ _ => true
  | .wblRecordWrite => true
  | .wblFault => true
  | .wblManual _ => true
  | .mailboxDoorbell ring pi _ slots => decide (ring < 8) && decide (pi < 65536) && decide (slots.length ≤ 8)
  | .mailboxReplyFree _ ring ci => decide (ring < 8) && decide (ci < 65536)
  | .dmaPiWrite _ channel _ => wfChannel channel
  | .dmaDescriptorDone channel _ _ _ => wfChannel channel
  | .dmaResume _ channel => wfChannel channel
  | .bmeChange _ => true
  | .bar2Access _ address enables data => decide (data.length = enables.length) && decide (address + data.length ≤ 0x100000000)
  | .mepWinWrite _ _ => true
  | .perst => true
  | .hotReset => true
  | .functionLevelReset => true
  | .epLinkChange speed width => decide (speed < 8) && decide (width < 64)
  | .smbusAddr offset _ => decide (offset < 0x100000000)
  | .smbusRead => true
  | .smbusWrite _ _ => true
  | .smbusStatus => true
  | .smbusTimeout => true
  | .inputThreshold millivolts => decide (millivolts < 65536)
  | .insertionDelayExpiry => true
  | .inrushTrip => true
  | .energyTrip => true
  | .powerGood => true
  | .breakerTrip => true
  | .fastTrip => true
  | .offtimeExpiry => true
  | .retryCountReset => true
  | .pwrEnInChange _ => true
  | .partnerCycle _ => true
  | .partnerCycleEnd => true
  | .inputLost => true
  | .keptStateExpiry => true
  | .insertMsWrite _ _ => true
  | .startStepComplete => true
  | .startStepSlow => true
  | .startStepFailed cause => decide (1 ≤ cause) && decide (cause ≤ 4)
  | .drivesLate => true
  | .modRstPin _ => true
  | .clkRstCtlModReset _ => true
  | .clockCheck khz => decide (khz.length = 61)
  | .cpStopped instance_ => decide (instance_ < 4)
  | .lvyMapLastWrite _ _ => true
  | .lvyCfgWrite _ _ => true
  | .rltIdxSnapshot _ _ => true
  | .nibDidxSnapshot _ _ => true
  | .hqeBindWordWrite _ _ => true
  | .inkSpaceWrite _ _ => true
  | .loReadLatch _ offset => wfOffset offset
  | .rcRead _ offset => wfOffset offset
  | .reservedOffsetAccess _ offset _ enables => wfOffset offset && wfNibble enables
  | .registerWrite _ offset _ enables => wfOffset offset && wfNibble enables
  | .tempSample eighths => decide (eighths < 4096)
  | .configSpaceWrite register _ => decide (register < 4096)
  | .delayReqSend link => wfLink link
  | .pwrFailDeasserted => true
  | .plugInModuleOverpower cage => decide (cage < 12)

end Sys2Proof
end

