-- ==== Sys2Proof/Machine/Ops.lean ====
section
/-! DEFINITION. The named operations over the state that every unit uses: registers by offset with their reset values,
unit counters, free values, the clock, and what leaves the module. -/

namespace Sys2Proof.Machine

/-! ## Running a command -/

/-- What every meaning answers: a next state that `f` makes of the module, for a command that `Instr.wf` admits, and the
fault `noSuchCommand` for any other. -/
def State.run (ok : Bool) (f : Dev → Dev) (s : State) : Host.Outcome State Fault Refusal :=
  if ok then .next { s with toDev := f s.toDev } else .fault .noSuchCommand

/-! ## Registers -/

/-- The index of the copy of `r` that stands at `off` within its block. -/
def RegRow.copyAt (r : RegRow) (off : Nat) : Option Nat :=
  if r.off ≤ off ∧ (off - r.off) % r.stride = 0 ∧ (off - r.off) / r.stride < r.count then some ((off - r.off) / r.stride)
  else none

/-- The row of the register at a full offset (R527). -/
def rowAt (off : Nat) : Option RegRow := (blockTable (off / 0x10000)).find? fun r => (r.copyAt (off % 0x10000)).isSome

/-- Whether a populated block has a register at `off`: every other offset is reserved (R530). -/
def isRegister (off : Nat) : Bool := (rowAt off).isSome

/-- The reset values of a row's fields. -/
def RegRow.resetValue (r : RegRow) : Nat := r.fields.foldl (fun a f => setBits a f.lsb f.width f.reset) 0

/-- The trigger masks of Waybill after reset (WBL_TRIGg). -/
def wblTrigReset (g : Nat) : Nat :=
  match g with
  | 0 => 0x7F0703FF
  | 1 => 0x7F
  | 3 => 0x000300FF
  | 5 => 0x000F1FFF
  | _ => 0

/-- The scrub rates after reset (SCB_RATEm), in MB/s by memory: HBM 16, DDR5 4, SRAM arrays 256. -/
def scbRateReset (m : Nat) : Nat := if m < 2 then 16 else if m < 6 then 4 else 256

/-- Reset values that the tables give by number of the copy, by another register, or as the module's identity (R533). -/
def specialReset (off : Nat) : Option Nat :=
  if off / 0x10000 ∈ List.range' 0x10 12 ∧ off % 0x10000 = 0 then
    some (if off / 0x10000 < 0x18 then 0x00240041 else 0x00240043)
  else if off / 0x10000 ∈ List.range' 0x10 12 ∧ 0x40 ≤ off % 0x10000 ∧ off % 0x10000 < 0x60 then
    some (((off % 0x10000 - 0x40) / 4) * 0x11111111)
  else if off = Reg.tpkMacLo then some (Config.mac.toNat % 2 ^ 32)
  else if off = Reg.tpkMacHi then some (Config.mac.toNat / 2 ^ 32)
  else if off = Reg.dpcResvKeyLo then some (clearBit (Config.serial.toNat % 2 ^ 32) 0)
  else if off = Reg.dpcResvKeyHi then some (Config.serial.toNat / 2 ^ 32)
  else if Reg.wblTrig ≤ off ∧ off < Reg.wblTrig + 64 then some (wblTrigReset ((off - Reg.wblTrig) / 4))
  else if Reg.scbRate ≤ off ∧ off < Reg.scbRate + 28 then some (scbRateReset ((off - Reg.scbRate) / 4))
  else if Reg.msixTable ≤ off ∧ off < Reg.msixTable + 8192 then some (if (off / 4) % 4 = 3 then 1 else 0)
  else none

/-- The reset value of the register that a key of `Dev.regs` names. -/
def resetWord (k : Nat) : Word :=
  let off := k % 2 ^ 24
  match specialReset off with
  | some n => BitVec.ofNat 32 n
  | none => match rowAt off with
    | some r => BitVec.ofNat 32 r.resetValue
    | none => 0

/-- What a key of `Dev.regs` holds. -/
def Dev.raw (d : Dev) (k : Nat) : Nat := (sget resetWord d.regs k).toNat

/-- `d` with `v` in key `k` of `Dev.regs`. -/
def Dev.setRaw (d : Dev) (k v : Nat) : Dev := { d with regs := sput resetWord d.regs k (BitVec.ofNat 32 v) }

/-- The key of a banked register's entry `i`. -/
def bank (off i : Nat) : Nat := off + 2 ^ 24 * i

/-- The field of `width` bits from `lsb` of the register at key `k`. -/
def Dev.fld (d : Dev) (k lsb width : Nat) : Nat := bits (d.raw k) lsb width

/-- A one-bit field as a flag. -/
def Dev.flag (d : Dev) (k i : Nat) : Bool := bit (d.raw k) i

/-- `d` with a field of the register at key `k` replaced. -/
def Dev.setFld (d : Dev) (k lsb width v : Nat) : Dev := d.setRaw k (setBits (d.raw k) lsb width v)

/-- The key that a register access at `off` reaches: the entry its index register selects, for a register that has one. -/
def Dev.keyAt (d : Dev) (off : Nat) : Nat :=
  match rowAt off with
  | some r => match r.idx with
    | some (i, w) => bank off (d.fld i 0 w)
    | none => off
  | none => off

/-- Saturating increment of a 32-bit count held in a register. -/
def Dev.countReg (d : Dev) (k n : Nat) : Dev := d.setRaw k (min (d.raw k + n) 0xFFFFFFFF)

/-! ## Unit counters -/

/-- The key of a counter: block, instance (link, port, slot, pool, livery) and item. -/
def ctrKey (blk inst item : Nat) : Nat := blk * 2 ^ 32 + inst * 2 ^ 8 + item

/-- The value of a counter; counters that never counted read 0. -/
def Dev.ctr (d : Dev) (blk inst item : Nat) : Nat := sget (fun _ => 0) d.counters (ctrKey blk inst item)

/-- The blocks whose counter index register selects a link, port, slot, pool, livery or memory besides the counter (R448). -/
def instanced (blk : Nat) : Bool :=
  blk == 0x0A || (decide (0x10 ≤ blk) && decide (blk ≤ 0x1B)) || blk == 0x1D || blk == 0x1F || blk == 0x24 || blk == 0x2A || blk == 0x38

/-- The performance counters that select item `item` of instance `inst` of block `blk` with class 1 (R448). -/
def Dev.pmcSelecting (d : Dev) (blk inst item : Nat) : List Nat :=
  d.regs.filterMap fun p =>
    if p.1 % 2 ^ 24 = Reg.pmcSel ∧ bits p.2.toNat 0 2 = 1 ∧ bits p.2.toNat 2 6 = blk ∧ bits p.2.toNat 8 7 = item
      ∧ (instanced blk = false ∨ bits p.2.toNat 16 8 = inst) then some (p.1 / 2 ^ 24) else none

/-- A unit counter counts `n`: 64 bits, wrapping; its update leaves for the performance counters that select it (R449). -/
def Dev.bump (d : Dev) (blk inst item n : Nat) : Dev :=
  { d with
    counters := sput (fun _ => 0) d.counters (ctrKey blk inst item) ((d.ctr blk inst item + n) % 2 ^ 64)
    pmc := { d.pmc with inflight := d.pmc.inflight ++ (d.pmcSelecting blk inst item).map fun i => (i, n) } }

/-- A counter set to the larger of its value and `n`. -/
def Dev.bumpMax (d : Dev) (blk inst item n : Nat) : Dev :=
  { d with counters := sput (fun _ => 0) d.counters (ctrKey blk inst item) (max (d.ctr blk inst item) n) }

/-- Every counter of a block back to 0. -/
def Dev.clearCounters (d : Dev) (p : Nat → Bool) : Dev := { d with counters := d.counters.filter fun c => !(p (c.1 / 2 ^ 32)) }

/-! ## Free values, time, output -/

/-- The next free value, and the module with the counter advanced (DESIGN CHOICE: assumption log, entry 3). -/
def Dev.takeFree (d : Dev) : Nat × Dev := (Config.free d.free, { d with free := d.free + 1 })

/-- The clock moved up to `t` when it stands before it. -/
def Dev.upTo (d : Dev) (t : Nat) : Dev := { d with q := max d.q t }

/-- One more thing that leaves the module. -/
def Dev.emit (d : Dev) (o : Output) : Dev := { d with out := o :: d.out }

/-- Things that leave the module in order. -/
def Dev.emitAll (d : Dev) (os : List Output) : Dev := { d with out := os.reverse ++ d.out }

/-- `f` applied to the module for each element in order. -/
def Dev.forEach {α : Type} (d : Dev) (l : List α) (f : Dev → α → Dev) : Dev := l.foldl f d

/-- `f` when `c` holds. -/
def Dev.when (d : Dev) (c : Bool) (f : Dev → Dev) : Dev := if c then f d else d

/-! ## The timeline (R30 to R33) -/

/-- Sublines per frame of a geometry. -/
def Geometry.frameSub (g : Geometry) : Nat := g.lpf * 16384

/-- The numerator of the timeline's rate per quantum, in units of 1/(DEN × 8·10^14) subline. -/
def Rul.rate (r : Rul) : Nat := 16384 * r.geo.num * r.geo.lpf * (1000000 + r.slewPpm).toNat

/-- One subline in the units of `anchorAcc`. -/
def Geometry.unit (g : Geometry) : Nat := max g.den 1 * 800000000000000

/-- The timeline position at the start of quantum `q`, in sublines, rounded down (R32). -/
def Rul.posAt (r : Rul) (q : Nat) : Nat := (r.anchorAcc + (q - r.anchorQ) * r.rate) / r.geo.unit

/-- The RTS with the fields given by a position in sublines and an epoch (R30). -/
def Geometry.rts (g : Geometry) (epoch pos : Nat) : Nat :=
  (epoch % 16) * 2 ^ 60 + ((pos / (max g.lpf 1 * 16384)) % 2 ^ 32) * 2 ^ 28 + ((pos / 16384) % max g.lpf 1) * 2 ^ 14 + pos % 16384

/-- The position that an RTS gives, in sublines: frame × LPF + line, as R48 writes it. -/
def Geometry.pos (g : Geometry) (rts : Nat) : Nat := (bits rts 28 32 * g.lpf + bits rts 14 14) * 16384 + bits rts 0 14

/-- The RTS of quantum `q` (R32). -/
def Rul.rtsAt (r : Rul) (q : Nat) : Nat := r.geo.rts r.epoch (r.posAt q)

/-- The RTS of the present quantum. -/
def Dev.now (d : Dev) : Nat := d.rul.rtsAt d.q

/-- The present quantum's line in its frame. -/
def Dev.line (d : Dev) : Nat := (d.rul.posAt d.q / 16384) % max d.rul.geo.lpf 1

/-- The first quantum, not before `r.anchorQ`, whose start is at or after position `p` (R32). -/
def Rul.quantumOf (r : Rul) (p : Nat) : Nat :=
  if p * r.geo.unit ≤ r.anchorAcc then r.anchorQ
  else r.anchorQ + ceilDiv (p * r.geo.unit - r.anchorAcc) (max r.rate 1)

/-- The signed distance in sublines from position `a` to position `b` on a timeline whose frames count modulo 2^32: a frame
number of 1 to 2^31 − 1 frames on is later, 2^31 frames or more on counts as past (R33, R48). -/
def Geometry.distance (g : Geometry) (a b : Nat) : Int :=
  let fs : Nat := max g.lpf 1 * 16384
  let fd : Nat := (b / fs + (2 ^ 32 - (a / fs) % 2 ^ 32)) % 2 ^ 32
  let df : Int := if fd < 2 ^ 31 then Int.ofNat fd else Int.ofNat fd - 4294967296
  df * Int.ofNat fs + Int.ofNat (b % fs) - Int.ofNat (a % fs)

/-- The quantum that an RTS of the present epoch names, seen from the present quantum; a time already passed names the
present one (R33, R84). -/
def Dev.quantumOfRts (d : Dev) (rts : Nat) : Nat :=
  let g := d.rul.geo
  let p := d.rul.posAt d.q
  let δ := g.distance p (g.pos rts)
  if δ ≤ 0 then d.q else max d.q (d.rul.quantumOf (p + δ.toNat))

/-- The line period in quanta, rounded down, at least 1. -/
def Rul.lineQuanta (r : Rul) : Nat := max 1 (16384 * r.geo.unit / max r.rate 1)

/-- A duration in quanta as sixteenths of a line at the period in force, rounded down (R454). -/
def Rul.sixteenths (r : Rul) (q : Nat) : Nat := q * r.rate * 16 / (r.geo.unit * 16384)

end Sys2Proof.Machine
end

