-- ==== Sys2Proof/Machine/Cipher.lean ====
section
/-! DEFINITION. The arithmetic behind parity (R241), the block guard (R253) and the check values (R376): GF(2^8), CRC-64,
and AES-256-GMAC as FIPS 197 and NIST SP 800-38D define it. -/

namespace Sys2Proof.Machine

/-! ## GF(2^8) -/

/-- Multiplication by 2 in GF(2^8) with polynomial `poly`. -/
def gfDouble (poly a : Nat) : Nat := if a < 128 then 2 * a else Nat.xor (2 * a) poly

/-- Multiplication in GF(2^8) with polynomial `poly`, over the bits of `b` from bit `k − 1` down. -/
def gfMulAux (poly a b : Nat) : Nat → Nat
  | 0 => 0
  | k + 1 => Nat.xor (if bit b (7 - k) then (List.range (7 - k)).foldl (fun x _ => gfDouble poly x) a else 0) (gfMulAux poly a b k)

/-- The product in GF(2^8) with polynomial `poly`. -/
def gfMul (poly a b : Nat) : Nat := gfMulAux poly a b 8

/-- The `n`-th power in GF(2^8). -/
def gfPow (poly a n : Nat) : Nat := (List.range n).foldl (fun x _ => gfMul poly x a) 1

/-- The inverse in GF(2^8), and 0 for 0. -/
def gfInv (poly a : Nat) : Nat := if a = 0 then 0 else gfPow poly a 254

/-- The product in the parity field, polynomial 0x11D (R241). -/
def pMul (a b : Nat) : Nat := gfMul 0x11D a b

/-- The quotient in the parity field; 0 for a numerator of 0 (R241). -/
def pDiv (a b : Nat) : Nat := pMul a (gfInv 0x11D b)

/-- The weight of data strip `i` in Q: the `i`-th power of g = 2 (R241). -/
def pWeight (i : Nat) : Nat := gfPow 0x11D 2 i

/-- The bytewise sum of two blocks; a missing byte is zero. -/
def xorBytes (a b : List Byte) : List Byte :=
  List.zipWith (fun x y => x ^^^ y) (fit (max a.length b.length) a) (fit (max a.length b.length) b)

/-- Every byte of a block multiplied by `w` in the parity field. -/
def scaleBytes (w : Nat) (a : List Byte) : List Byte := a.map fun x => BitVec.ofNat 8 (pMul w x.toNat)

/-- Every byte of a block divided by `w` in the parity field. -/
def unscaleBytes (w : Nat) (a : List Byte) : List Byte := scaleBytes (gfInv 0x11D w) a

/-- A block of zeros. -/
def zeroBlock : List Byte := List.replicate 4096 0

/-- The discrete logarithm of a nonzero byte to base 2 in the parity field. -/
def pLog (a : Nat) : Nat := ((List.range 255).find? fun k => pWeight k == a).getD 0

/-! ## The guard (R253) -/

/-- CRC-64 over a byte string: polynomial 0xAD93D23594C93659 reflected, initial value and final XOR all ones. -/
def crc64 (l : List Byte) : Nat := Nat.xor (l.foldl (crcByte 0x9A6C9329AC4BC9B5) 0xFFFFFFFFFFFFFFFF) 0xFFFFFFFFFFFFFFFF

/-! ## AES-256 -/

/-- `b` rotated left by `n` bits within a byte. -/
def rotByte (b n : Nat) : Nat := (b * 2 ^ n) % 256 + b / 2 ^ (8 - n)

/-- The AES substitution of a byte. -/
def aesSub (b : Nat) : Nat :=
  let i := gfInv 0x11B b
  Nat.xor (Nat.xor (Nat.xor i (rotByte i 1)) (Nat.xor (rotByte i 2) (rotByte i 3))) (Nat.xor (rotByte i 4) 0x63)

/-- Bytewise XOR of two lists of bytes as numbers. -/
def xorNats (a b : List Nat) : List Nat := List.zipWith Nat.xor a b

/-- The next word of the key schedule, where `w` holds the words so far (AES-256: eight words of key). -/
def aesWord (w : List (List Nat)) (i : Nat) : List Nat :=
  let t := w.getD (i - 1) []
  let t :=
    if i % 8 = 0 then
      xorNats ((t.rotateLeft 1).map aesSub) [gfPow 0x11B 2 (i / 8 - 1), 0, 0, 0]
    else if i % 8 = 4 then t.map aesSub else t
  xorNats (w.getD (i - 8) []) t

/-- The sixty words of the key schedule of a 32-byte key. -/
def aesSchedule (key : List Byte) : List (List Nat) :=
  let k := (fit 32 key).map BitVec.toNat
  let w0 := (List.range 8).map fun i => (k.drop (4 * i)).take 4
  (List.range' 8 52).foldl (fun w i => w ++ [aesWord w i]) w0

/-- Round key `r` as 16 bytes. -/
def aesRoundKey (w : List (List Nat)) (r : Nat) : List Nat := ((w.drop (4 * r)).take 4).flatten

/-- ShiftRows on 16 bytes, byte `r + 4c` in row `r` and column `c`. -/
def aesShift (s : List Nat) : List Nat := (List.range 16).map fun i => s.getD ((i % 4) + 4 * ((i / 4 + i % 4) % 4)) 0

/-- MixColumns on 16 bytes. -/
def aesMix (s : List Nat) : List Nat :=
  (List.range 16).map fun i =>
    let c := 4 * (i / 4)
    let e (k : Nat) : Nat := s.getD (c + (i + k) % 4) 0
    Nat.xor (Nat.xor (gfDouble 0x11B (e 0)) (Nat.xor (gfDouble 0x11B (e 1)) (e 1))) (Nat.xor (e 2) (e 3))

/-- The AES-256 encryption of a 16-byte block under a key schedule. -/
def aesEncrypt (w : List (List Nat)) (x : List Nat) : List Nat :=
  let s := xorNats x (aesRoundKey w 0)
  let s := (List.range' 1 13).foldl (fun s r => xorNats (aesMix (aesShift (s.map aesSub))) (aesRoundKey w r)) s
  xorNats (aesShift (s.map aesSub)) (aesRoundKey w 14)

/-! ## GMAC -/

/-- Bytes as one big-endian number. -/
def beNat (l : List Nat) : Nat := l.foldl (fun a b => 256 * a + b) 0

/-- The bytes of a number, most significant first, `k` of them. -/
def beNats (k n : Nat) : List Nat := (List.range k).map fun i => (n / 256 ^ (k - 1 - i)) % 256

/-- The product of two blocks in the field of GHASH, over the bits of `x` from the first. -/
def ghashMul (x y : Nat) : Nat :=
  ((List.range 128).foldl (fun (p : Nat × Nat) i =>
    (if bit x (127 - i) then Nat.xor p.1 p.2 else p.1,
     if p.2 % 2 = 1 then Nat.xor (p.2 / 2) (0xE1 * 2 ^ 120) else p.2 / 2)) (0, y)).1

/-- GHASH of a byte string whose length is a multiple of 16. -/
def ghash (h : Nat) (l : List Nat) : Nat :=
  (List.range (l.length / 16)).foldl (fun a i => ghashMul (Nat.xor a (beNat ((l.drop (16 * i)).take 16))) h) 0

/-- The 128-bit GMAC tag under a 256-bit key and a 96-bit IV, as 16 bytes. -/
def gmac (key : List Byte) (iv : Nat) (aad : List Byte) : List Byte :=
  let w := aesSchedule key
  let a := aad.map BitVec.toNat
  let padded := a ++ List.replicate ((16 - a.length % 16) % 16) 0 ++ beNats 8 (8 * a.length) ++ beNats 8 0
  let s := ghash (beNat (aesEncrypt w (List.replicate 16 0))) padded
  let t := beNat (aesEncrypt w (beNats 12 iv ++ beNats 4 1))
  (beNats 16 (Nat.xor s t)).map (BitVec.ofNat 8)

/-- The key check value of R381: bytes 0 to 3 of the encryption of an all-zero block, little-endian in its register. -/
def keyCheck (key : List Byte) : Nat :=
  leNat (((aesEncrypt (aesSchedule key) (List.replicate 16 0)).take 4).map (BitVec.ofNat 8))

end Sys2Proof.Machine
end

