-- ==== Sys2Proof/Machine/Pools.lean ====
section
/-! DEFINITION. What each pool of the drain ladder holds and what may be taken from it (R418 to R422, R425, R427). -/

namespace Sys2Proof.Machine

/-- The level of a pool (R418). -/
def poolLevel (p : Nat) : Nat :=
  if p = 0 then 0 else if p ≤ 3 then 1 else if p = 4 then 2 else if p ≤ 9 then 3 else if p ≤ 12 then 4 else 5

/-- The pools of a level (R418). -/
def levelPools (k : Nat) : List Nat := (List.range 15).filter fun p => poolLevel p == k

/-- Pages of Inkwell space: INK_CTL.SPACE_GIB in pages of 64 KiB (R166). -/
def Dev.inkPages (d : Dev) : Nat := d.fld Reg.inkCtl 0 6 * 16384

/-- Cells of shared memory (R112). -/
abbrev shmCells : Nat := 262144

/-- Cells that a frame occupies (R112). -/
def cellsOf (len : Nat) : Nat := ceilDiv len 256

/-- Cells in use on the lists with numbers in `[lo, hi)`. -/
def Dev.cellsIn (d : Dev) (lo hi : Nat) : Nat :=
  d.tpk.lists.foldl (fun a l => if lo ≤ l.1 ∧ l.1 < hi then a + (l.2.map fun f => cellsOf f.length).sum else a) 0

/-- Cells held by resequencing contexts (R144). -/
def Dev.cellsHeld (d : Dev) : Nat :=
  (d.tdm.ctxs.map fun c => (c.held.map fun h => cellsOf (h.frame.payload.length + 16)).sum).sum

/-- Free shared-memory cells (TBM_FREE). -/
def Dev.cellsFree (d : Dev) : Nat := shmCells - (d.cellsIn 0 0x10000 + d.cellsHeld)

/-- The capacity of a pool in its units (R418; pool 13 counts KiB, overflow included). -/
def Dev.poolCap (d : Dev) (p : Nat) : Nat :=
  match p with
  | 0 => 75264
  | 1 => 16777216
  | 2 => 1048576
  | 3 => 12288
  | 4 => 61440
  | 5 => 16384
  | 6 => d.inkPages - (d.rae.inks.map fun k => k.pages.length).sum
  | 7 => 66048
  | 8 => 65536
  | 9 => 1024
  | 10 => 4096
  | 11 => 32768
  | 12 => 4096
  | 13 => 12 * 2048 + 8192 * 1024
  | 14 => shmCells - d.fld Reg.drlCtrl 0 15
  | _ => 0

/-- The default headroom of a pool (R418), total for the pool. -/
def poolHdrmDflt (p : Nat) : Nat :=
  match p with
  | 0 => 75264
  | 1 => 65536
  | 2 => 4096
  | 3 => 768
  | 4 => 7680
  | 5 => 512
  | 6 => 1024
  | 7 => 64
  | 8 => 1024
  | 9 => 64
  | 10 => 256
  | 11 => 1024
  | 12 => 256
  | _ => 0

/-- The range of a pool's headroom (R418), total for the pool; `none` for the pools whose writes are ignored. -/
def poolHdrmRange (p : Nat) : Option (Nat × Nat) :=
  match p with
  | 1 => some (4096, 1048576)
  | 2 => some (256, 65536)
  | 3 => some (8 * 48, 64 * 48)
  | 4 => some (8 * 240, 128 * 240)
  | 5 => some (64, 4096)
  | 6 => some (256, 32768)
  | 7 => some (16, 4096)
  | 8 => some (64, 8192)
  | 9 => some (16, 256)
  | 10 => some (32, 1024)
  | 11 => some (128, 8192)
  | 12 => some (32, 1024)
  | _ => none

/-- The headroom requested for a pool: that of pools 13 and 14 is TBM_PFC_HDRM, in KiB per port and in cells (R418). -/
def Dev.poolHdrm (d : Dev) (p : Nat) : Nat :=
  if p = 13 then 12 * d.fld Reg.tbmPfcHdrm 0 16
  else if p = 14 then 4 * d.fld Reg.tbmPfcHdrm 0 16
  else sget poolHdrmDflt d.drl.hdrm p

/-- Outstanding drive commands that `f` counts. -/
def Dev.driveCount (d : Dev) (f : DriveCmd → Bool) : Nat := (d.drv.cmds.filter f).length

/-- Units of a pool in use (DRL_POOL_USE). -/
def Dev.poolUse (d : Dev) (p : Nat) : Nat :=
  if p = 0 then d.driveCount fun c => c.at_.isSome
  else if p = 3 then d.driveCount fun c => c.cls == 2
  else if p = 4 then d.driveCount fun c => c.cls != 2 && decide (c.cls < 6)
  else if p = 13 then ceilDiv ((d.tpk.ports.map fun t => (t.fifo.map BulkPkt.length).sum).sum) 1024
  else if p = 14 then d.cellsIn 0 768 + d.cellsIn 1024 0x10000
  else sget (fun _ => 0) d.drl.use p

/-- The headroom of a pool that is free (R421: general space is taken first and refilled last). For pools 3 and 4 each
drive, and each queue, has its share. -/
def Dev.poolHfree (d : Dev) (p : Nat) : Nat :=
  if p = 3 then
    let h := d.poolHdrm 3 / 48
    ((List.range 48).map fun s => min h (256 - d.driveCount fun c => c.slot == s && c.cls == 2)).sum
  else if p = 4 then
    let h := d.poolHdrm 4 / 240
    ((List.range 48).map fun s => ([0, 1, 3, 4, 5].map fun k => min h (256 - d.driveCount fun c => c.slot == s && c.cls == k)).sum).sum
  else min (d.poolHdrm p) (d.poolCap p - d.poolUse p)

/-- General units of a pool that are free. -/
def Dev.poolGeneral (d : Dev) (p : Nat) : Nat := d.poolCap p - d.poolUse p - d.poolHfree p

/-- Whether a pool holds its full headroom free (R422); pools 3 and 4 share theirs evenly. -/
def Dev.hdrmWhole (d : Dev) (p : Nat) : Bool :=
  if p = 3 then decide ((d.poolHdrm 3 / 48) * 48 ≤ d.poolHfree 3)
  else if p = 4 then decide ((d.poolHdrm 4 / 240) * 240 ≤ d.poolHfree 4)
  else decide (d.poolHdrm p ≤ d.poolHfree p)

/-- The test of R422 for fresh work at a level: every pool of the level below holds its full headroom free; level 1 always
passes. -/
def Dev.freshAllowed (d : Dev) (level : Nat) : Bool :=
  if level ≤ 1 then true else (levelPools (level - 1)).all d.hdrmWhole

/-- Whether a request for `n` units of pool `p` is granted now (R421, R422): a descending request may take headroom, a
fresh one only general space, and only while R422 lets its level in. -/
def Dev.mayTake (d : Dev) (p n : Nat) (descending : Bool) : Bool :=
  if descending then decide (d.poolUse p + n ≤ d.poolCap p)
  else decide (n ≤ d.poolGeneral p) && d.freshAllowed (poolLevel p)

/-- DRL_STATUS.FULL[k]: the general part of every pool of level k is exhausted (R427). -/
def Dev.levelFull (d : Dev) (k : Nat) : Bool :=
  if k = 0 then decide (d.poolCap 0 ≤ d.poolUse 0) else (levelPools k).all fun p => d.poolGeneral p == 0

/-- DRL_STATUS.BLOCKED[k] (R427). -/
def Dev.blocked (d : Dev) (k : Nat) : Bool := d.drl.waits.any fun w => !w.descending && poolLevel w.pool == k

/-- CTRL_LOW (R425): fewer than an eighth of the control cells or of the 1,024 receive buffers are free. Commands in
progress hold the receive buffers. -/
def Dev.controlLow (d : Dev) : Bool :=
  let cells := d.fld Reg.drlCtrl 0 15
  decide (8 * (cells - d.cellsIn 768 1024) < cells) || decide (8 * (1024 - d.cp.cmds.length) < 1024)

end Sys2Proof.Machine
end

