-- ==== Sys2Proof/Machine/Arrays.lean ====
section
/-! DEFINITION. The array as it is loaded: its members and their states (R236, R337), its geometry (R232 to R235, R246,
R247), and its physical stripes (R245). -/

namespace Sys2Proof.Machine

/-! ## Members -/

/-- The number of members; 0 while no array is loaded. -/
def Dev.members (d : Dev) : Nat := match d.lay.geo with | some g => g.n | none => 0

/-- The drive slot of a member, 0xFF for one without a drive (R236). -/
def Dev.memberSlot (d : Dev) (m : Nat) : Nat := d.lay.slots.getD m 0xFF

/-- The failure ordinal of a member (R236). -/
def Dev.ordinal (d : Dev) (m : Nat) : Nat := d.lay.ordinals.getD m 0

/-- The member whose drive is in `slot`. -/
def Dev.memberAt (d : Dev) (slot : Nat) : Option Nat := (List.range d.members).find? fun m => d.memberSlot m == slot

/-- A copy-back cursor, one above its value; 0 for a member that is not RETURNING. -/
def Dev.cursorOf (d : Dev) (m : Nat) : Nat := sget (fun _ => 0) d.rly.copyback m

/-- RLY_MSTATE.STATE (R337): 0 LIVE, 1 FAILED, 2 RETURNING, 3 RETURNED. -/
def Dev.memberState (d : Dev) (m : Nat) : Nat :=
  if d.ordinal m = 0 then 0 else if m ∈ d.rly.returned then 3 else if d.cursorOf m ≠ 0 then 2 else 1

/-- Whether member `m` counts as live for home copies and checkpoint copies (R292, R353): LIVE or RETURNED. -/
def Dev.isLive (d : Dev) (m : Nat) : Bool := decide (m < d.members) && (d.memberState m == 0 || d.memberState m == 3)

/-- The live members in ascending member number (R292). -/
def Dev.liveMembers (d : Dev) : List Nat := (List.range d.members).filter d.isLive

/-- A slot by number. -/
def Dev.slotAt (d : Dev) (k : Nat) : Slot := (d.drv.slots.find? fun s => s.num == k).getD (Slot.empty k)

/-! ## Geometry (R232, R235, R246, R247) -/

/-- Stripe width W. -/
def ArrayGeo.w (g : ArrayGeo) : Nat := g.d + 2

/-- Blocks per strip B. -/
def stripBlocks (sc : Nat) : Nat := 16 * 2 ^ sc

/-- Blocks per strip of an array. -/
def ArrayGeo.b (g : ArrayGeo) : Nat := stripBlocks g.sc

/-- Blocks of a logical stripe, D × B. -/
def ArrayGeo.lb (g : ArrayGeo) : Nat := g.d * g.b

/-- The bound of R234 on physical stripes, ceil(N × U ÷ W). -/
def ArrayGeo.bound (g : ArrayGeo) : Nat := ceilDiv (g.n * g.u) g.w

/-- Map segments Gm (R247). -/
def ArrayGeo.gm (g : ArrayGeo) : Nat := ceilDiv g.bound 65536

/-- All segments G (R247). -/
def ArrayGeo.segs (g : ArrayGeo) : Nat := g.gm + 16384

/-- Blocks of the checkpoint region, rounded up to whole strips (R235). -/
def ArrayGeo.ckptBlocks (g : ArrayGeo) : Nat := ceilDiv (128 * ceilDiv (6 * g.segs) (max g.n 1)) g.b * g.b

/-- The first unit of the data region Mu. -/
def ArrayGeo.mu (g : ArrayGeo) : Nat := (1048832 + g.ckptBlocks) / g.b

/-- V = U − Mu. -/
def ArrayGeo.v (g : ArrayGeo) : Nat := g.u - g.mu

/-- Units of the data region A. -/
def ArrayGeo.a (g : ArrayGeo) : Nat := g.w * ((g.v - ceilDiv (g.s * g.v) (max g.n 1)) / g.w)

/-- Physical stripes P (R239). -/
def ArrayGeo.p (g : ArrayGeo) : Nat := g.n * g.a / g.w

/-- The stripes held free for redirect-on-write (R246). -/
def ArrayGeo.reserve (g : ArrayGeo) : Nat := max 65536 (ceilDiv g.p 256)

/-- The allocatable total L; negative values read 0 (R234 step 5 refuses them). -/
def ArrayGeo.l (g : ArrayGeo) : Nat := g.p - g.reserve

/-- Units of a spare section SEC (R240). -/
def ArrayGeo.sec (g : ArrayGeo) : Nat := (g.v - g.a) / max g.s 1

/-- The geometry in force; an empty one while no array is loaded. -/
def Dev.geo (d : Dev) : ArrayGeo := d.lay.geo.getD ⟨0, 0, 0, 0, 0, 0, 0, 0, 0, 0, []⟩

/-- The state of a physical stripe in its table (R245): 0 FREE, 1 ALLOCATED, 2 MAPPED, 3 RETIRED. -/
def Dev.phys (d : Dev) (psi : Nat) : Nat := sget (fun _ => 0) d.lay.phys psi

/-- Free physical stripes (LAY_FREE). -/
def Dev.physFree (d : Dev) : Nat := d.geo.p - d.lay.phys.length

/-- Whether a drive is there for reads: ready, and not in drive failure or escalation (R313, R369). -/
def Dev.driveReads (d : Dev) (slot : Nat) : Bool := (d.slotAt slot).drive == .ready

/-- Whether a read of member `m`'s drive can be served; its blocks are missing otherwise (R313). -/
def Dev.memberReads (d : Dev) (m : Nat) : Bool := decide (d.memberSlot m < 48) && d.driveReads (d.memberSlot m)

end Sys2Proof.Machine
end

