-- ==== Sys2Proof/Machine/Placement.lean ====
section
/-! DEFINITION. Where strips lie: the geometry of an array (R232 to R235), the layout table (R238, R239), the distributed
spare (R240), and the place of a strip as the states of the members make it (R337 to R339). -/

namespace Sys2Proof.Machine

/-! ## Layout generation (R238) -/

/-- SplitMix64: the next value and the state after it. -/
def splitMix (s : Nat) : Nat × Nat :=
  let s := (s + 0x9E3779B97F4A7C15) % 2 ^ 64
  let z := (Nat.xor s (s / 2 ^ 30) * 0xBF58476D1CE4E5B9) % 2 ^ 64
  let z := (Nat.xor z (z / 2 ^ 27) * 0x94D049BB133111EB) % 2 ^ 64
  (Nat.xor z (z / 2 ^ 31), s)

/-- below(n): the generator is drawn until the value lies under the limit. The fuel bounds the redraws, of which each has
a chance below n ÷ 2^64. -/
def below (n : Nat) : Nat → Nat → Nat × Nat
  | 0, s => (0, s)
  | fuel + 1, s =>
    let r := splitMix s
    if r.1 < 2 ^ 64 - 2 ^ 64 % n then (r.1 % n, r.2) else below n fuel r.2

/-- Two entries of an array exchanged. -/
def swapAt (a : Array Nat) (i k : Nat) : Array Nat := (a.setIfInBounds i (a.getD k 0)).setIfInBounds k (a.getD i 0)

/-- A random permutation of the members (Fisher-Yates). -/
def drawPerm (n s : Nat) : Array Nat × Nat :=
  (List.range (n - 1)).foldl (fun (p : Array Nat × Nat) h =>
    let i := n - 1 - h
    let r := below (i + 1) 256 p.2
    (swapAt p.1 i r.1, r.2)) (Array.range n, s)

/-- The straddle repair: members of the stripe that straddles the rows leave the first `p` places of the new row. -/
def repairRow (prev : List Nat) (p n : Nat) (perm : Array Nat) : Array Nat :=
  (List.range p).foldl (fun a x =>
    if prev.contains (a.getD x 0) then
      match (List.range' p (n - p)).find? fun y => !(prev.contains (a.getD y 0)) with
      | some y => swapAt a x y
      | none => a
    else a) perm

/-- make_period: W rows, and the generator's state after them. -/
def makePeriod (n w s : Nat) : List (Array Nat) × Nat :=
  (List.range w).foldl (fun (acc : List (Array Nat) × Nat) r =>
    let d := drawPerm n acc.2
    let q := (r * n) % w
    let prev := ((acc.1.getLast?.map Array.toList).getD []).drop (n - q)
    let row := if 0 < r ∧ 0 < q then repairRow prev (w - q) n d.1 else d.1
    (acc.1 ++ [row], d.2)) ([], s)

/-- The pair counts with one added for each unordered pair of members that share a stripe of the rows. -/
def addPairs (n w : Nat) (pair : Array Nat) (rows : List (Array Nat)) : Array Nat :=
  let e := (rows.map Array.toList).flatten.toArray
  (List.range n).foldl (fun pair j =>
    (List.range w).foldl (fun pair x =>
      (List.range' (x + 1) (w - x - 1)).foldl (fun pair y =>
        let a := e.getD (j * w + x) 0
        let b := e.getD (j * w + y) 0
        pair.modify (min a b * n + max a b) (· + 1)) pair) pair) pair

/-- The key by which the candidates of a period are compared: the highest count, then the sum of squares. -/
def pairKey (pair : Array Nat) : Nat × Nat := pair.foldl (fun k x => (max k.1 x, k.2 + x * x)) (0, 0)

/-- Whether the first key is below the second, first field first. -/
def keyLess (a b : Nat × Nat) : Bool := decide (a.1 < b.1) || (a.1 == b.1 && decide (a.2 < b.2))

/-- What the table generation carries from period to period. -/
structure TableDraw where
  table : List (List (Array Nat))
  pair : Array Nat
  state : Nat

/-- One period: the best of eight candidates, all drawn in turn. -/
def drawPeriod (n w : Nat) (t : TableDraw) : TableDraw :=
  let step (acc : Option (List (Array Nat) × (Nat × Nat) × Array Nat) × Nat) (_ : Nat) :=
    let m := makePeriod n w acc.2
    let trial := addPairs n w t.pair m.1
    let key := pairKey trial
    match acc.1 with
    | none => (some (m.1, key, trial), m.2)
    | some b => (if keyLess key b.2.1 then some (m.1, key, trial) else some b, m.2)
  let r := (List.range 8).foldl step (none, t.state)
  match r.1 with
  | some b => { table := t.table ++ [b.1], pair := b.2.2, state := r.2 }
  | none => { t with state := r.2 }

/-- The first `k` periods of the layout table of an array. -/
def layoutPeriods (seed n w k : Nat) : List (List (Array Nat)) :=
  ((List.range k).foldl (fun t _ => drawPeriod n w t) ⟨[], Array.replicate (n * n) 0, seed⟩).table

/-- The periods of data that an array has (R341). -/
def ArrayGeo.periods (g : ArrayGeo) : Nat := g.a / max g.w 1

/-- A geometry with its layout table: 64 periods, or those that the array has (R238, R239). -/
def ArrayGeo.withTable (g : ArrayGeo) : ArrayGeo := { g with table := layoutPeriods g.seed g.n g.w (min 64 g.periods) }

/-- The member in row `r`, column `c` of table period `t`. -/
def ArrayGeo.member (g : ArrayGeo) (t r c : Nat) : Nat := ((g.table.getD t []).getD r #[]).getD c 0

/-! ## Location (R239) -/

/-- The home of strip `i` of physical stripe `p`: the member and the unit. -/
def ArrayGeo.home (g : ArrayGeo) (p i : Nat) : Nat × Nat :=
  let k := p / max g.n 1
  let s := (p % max g.n 1) * g.w + i
  let r := s / max g.n 1
  (g.member (k % 64) r (s % max g.n 1), g.mu + k * g.w + r)

/-- The physical stripe and strip whose home is unit Mu + `u` of member `m`. -/
def ArrayGeo.stripAt (g : ArrayGeo) (m u : Nat) : Nat × Nat :=
  let k := u / g.w
  let r := u % g.w
  let c := ((List.range g.n).find? fun c => g.member (k % 64) r c == m).getD 0
  let s := r * g.n + c
  (k * g.n + s / g.w, s % g.w)

/-- The members that hold the strips of a physical stripe at home. -/
def ArrayGeo.stripeMembers (g : ArrayGeo) (p : Nat) : List Nat := (List.range g.w).map fun i => (g.home p i).1

/-! ## Distributed spare (R240) -/

/-- The spare place that a plan gives unit `u` of the data region. -/
def SparePlan.at (p : SparePlan) (u : Nat) : Option (Nat × Nat) := p.places.getD u none

/-- The members whose spare section holds a strip of a stripe by a plan of an ordinal below `x`. -/
def spareHolders (g : ArrayGeo) (ordinals : List Nat) (plans : List SparePlan) (x p : Nat) : List Nat :=
  (List.range g.w).filterMap fun i =>
    let h := g.home p i
    let y := ordinals.getD h.1 0
    if 0 < y ∧ y < x then ((plans[y - 1]?).bind fun q => q.at (h.2 - g.mu)).map (·.1) else none

/-- The member that a strip on unit `u` of member `f` goes to, where `plans` are the plans of lower ordinals and `used` the units
placed on each member. -/
def spareChoice (g : ArrayGeo) (ordinals : List Nat) (plans : List SparePlan) (x f u : Nat) (used : List Nat) : Option Nat :=
  let p := (g.stripAt f u).1
  let taken := g.stripeMembers p ++ spareHolders g ordinals plans x p
  ((List.range' 1 (g.n - 1)).map fun h => (f + h) % g.n).find? fun m =>
    !(decide (1 ≤ ordinals.getD m 0 ∧ ordinals.getD m 0 ≤ x)) && !(taken.contains m) && decide (used.getD m 0 < g.sec)

/-- One more unit of a plan: the next unit of the spare section of the member chosen for it. -/
def spareUnit (g : ArrayGeo) (ordinals : List Nat) (plans : List SparePlan) (x f : Nat) (acc : Array (Option (Nat × Nat)) × List Nat) (u : Nat) :
    Array (Option (Nat × Nat)) × List Nat :=
  match spareChoice g ordinals plans x f u acc.2 with
  | some m => (acc.1.push (some (m, g.mu + g.a + (x - 1) * g.sec + acc.2.getD m 0)), acc.2.set m (acc.2.getD m 0 + 1))
  | none => (acc.1.push none, acc.2)

/-- The number whose bits are the elements of a list. -/
def maskOfBits (l : List Bool) : Nat := l.foldr (fun b n => 2 * n + b2n b) 0

/-- The units that the places of a plan put on member `m`, one bit each. -/
def unitsOn (places : Array (Option (Nat × Nat))) (m : Nat) : Nat :=
  maskOfBits (places.toList.map fun q => match q with | some y => y.1 == m | none => false)

/-- The plan of ordinal `x`, held by member `f`: the strips of `f` in ascending unit order. -/
def sparePlan (g : ArrayGeo) (ordinals : List Nat) (plans : List SparePlan) (x f : Nat) : SparePlan :=
  let places := ((List.range g.a).foldl (spareUnit g ordinals plans x f) (#[], List.replicate g.n 0)).1
  ⟨places, (List.range g.n).map (unitsOn places)⟩

/-- The plans of ordinals 1 to `x`. -/
def sparePlans (g : ArrayGeo) (ordinals : List Nat) : Nat → List SparePlan
  | 0 => []
  | x + 1 =>
    let plans := sparePlans g ordinals x
    match (List.range g.n).find? fun m => ordinals.getD m 0 == x + 1 with
    | some f => plans ++ [sparePlan g ordinals plans (x + 1) f]
    | none => plans ++ [⟨#[], []⟩]

/-- The spare places of the ordinals now in force: those up to the highest that a member holds and a spare section serves. -/
def Dev.replan (d : Dev) : Dev :=
  let x := min d.geo.s (d.lay.ordinals.foldl max 0)
  { d with lay := { d.lay with plans := sparePlans d.geo d.lay.ordinals x } }

/-- The spare place of unit `u` of the data region of the member that holds ordinal `x`. -/
def Dev.spare (d : Dev) (x u : Nat) : Option (Nat × Nat) := if x = 0 then none else (d.lay.plans[x - 1]?).bind fun p => p.at u

/-- The units of ordinal `x` whose spare place lies on member `m`, one bit each. -/
def Dev.spareUnits (d : Dev) (x m : Nat) : Nat :=
  if x = 0 then 0 else match d.lay.plans[x - 1]? with | some p => p.on.getD m 0 | none => 0

/-- The built strips of an ordinal (R338). -/
def Dev.builtOf (d : Dev) (x : Nat) : Nat := sget (fun _ => 0) d.rly.built x

/-- The built bits of ordinal `x` set to `mask`. -/
def Dev.setBuiltMask (d : Dev) (x mask : Nat) : Dev := { d with rly := { d.rly with built := sput (fun _ => 0) d.rly.built x mask } }

/-- Units of ordinal `x` whose spare place lies on a member that has not failed, one bit each. -/
def Dev.placedUnits (d : Dev) (x : Nat) : Nat :=
  (List.range d.members).foldl (fun n m => if d.ordinal m = 0 then Nat.lor n (d.spareUnits x m) else n) 0

/-! ## Where a strip is now (R337) -/

/-- The place of a strip: its member and unit, whether that is its spare place, and whether its content lies there. -/
structure Place where
  member : Nat
  unit : Nat
  spare : Bool
  built : Bool
  deriving DecidableEq, Repr

/-- The place of strip `i` of physical stripe `p`; none for a strip without a location (R337, R339): a spare location on a
member that failed later is none (R336). -/
def Dev.place (d : Dev) (p i : Nat) : Option Place :=
  let g := d.geo
  let h := g.home p i
  let st := d.memberState h.1
  if st = 0 ∨ st = 3 ∨ (st = 2 ∧ p / max g.n 1 < d.cursorOf h.1 - 1) then some ⟨h.1, h.2, false, true⟩
  else
    let x := d.ordinal h.1
    ((d.spare x (h.2 - g.mu)).filter fun q => d.ordinal q.1 == 0).map fun q => ⟨q.1, q.2, true, (d.builtOf x).testBit (h.2 - g.mu)⟩

/-- The member and first block from which a strip can be read now; none for a missing strip (R313, R337). -/
def Dev.readPlace (d : Dev) (p i : Nat) : Option (Nat × Nat) :=
  match d.place p i with
  | some q => if q.built && d.memberReads q.member then some (q.member, q.unit * d.geo.b) else none
  | none => none

/-- The member and first block to which a strip is written now; none for a strip that is not written (R272, R337). -/
def Dev.writePlace (d : Dev) (p i : Nat) : Option (Nat × Nat) := (d.place p i).map fun q => (q.member, q.unit * d.geo.b)

/-- Whether a strip's member has failed and the strip is not rebuilt (R279). -/
def Dev.unbuilt (d : Dev) (p i : Nat) : Bool := match d.place p i with | some q => !q.built | none => true

end Sys2Proof.Machine
end

