-- ==== Sys2Proof/Machine/Views.lean ====
section
/-! DEFINITION. What a register shows: the registers that are computed from the state of their unit, and the small views of units that
they rest on. Reading one through `Dev.peek` has no side effect. -/

namespace Sys2Proof.Machine

/-! ## Views of units -/

/-- The number of periods K (R341). -/
def Dev.periods (d : Dev) : Nat := d.geo.periods

/-- Whether a strip is unbuilt and has a spare location: rebuild work. -/
def Dev.rebuildable (d : Dev) (psi i : Nat) : Bool := match d.place psi i with | some q => q.spare && !q.built | none => false

/-- The first unit of the data region of a member whose content does not lie at its home (R337): behind a copy-back's cursor
the home holds. -/
def Dev.awayFrom (d : Dev) (m : Nat) : Nat :=
  match d.memberState m with
  | 1 => 0
  | 2 => (d.cursorOf m - 1) * d.geo.w
  | _ => d.geo.a

/-- The strips of a member that lie built at a spare place (R338). -/
def Dev.builtUnits (d : Dev) (m : Nat) : Nat := Nat.land (d.placedUnits (d.ordinal m)) (d.builtOf (d.ordinal m))

/-- Unbuilt strips of a member. -/
def Dev.unbuiltOf (d : Dev) (m : Nat) : Nat :=
  let from_ := d.awayFrom m
  let b := d.builtUnits m
  ((List.range' from_ (d.geo.a - from_)).filter fun u => !(b.testBit u)).length

/-- The ordinal that a member takes when it is declared failed (R334). -/
def Dev.nextOrdinal (d : Dev) (m : Nat) : Nat :=
  if d.memberState m = 3 then d.ordinal m
  else 1 + ((List.range d.members).map d.ordinal).foldl max 0

/-- Whether a member has rebuild work: an unbuilt strip with a spare location, or a trigger whose ordinal has a section. -/
def Dev.hasWork (d : Dev) (m : Nat) : Bool :=
  (d.rly.triggers.contains m && decide (d.nextOrdinal m ≤ d.geo.s))
    || ((d.memberState m == 1 || d.memberState m == 2) && decide (d.ordinal m ≤ d.geo.s)
      && decide (0 < (Nat.xor (d.placedUnits (d.ordinal m)) (d.builtUnits m)) / 2 ^ d.awayFrom m))

/-- Members with rebuild work (RLY_STATUS.WORK_MEMBERS). -/
def Dev.workMembers (d : Dev) : Nat := ((List.range d.members).filter d.hasWork).length

/-- The lowest home position that is not re-mirrored; the head when every one is. -/
def Dev.remirrorLow (d : Dev) : Nat := d.blt.remirror.foldl min d.blt.head

/-- The reset contents of a bank (RUL_WINn). -/
def bankDflt (i : Nat) : WinEntry := if i = 0 then ⟨0x80000000, 0xFF3F⟩ else ⟨0, 0⟩

/-- The entries of the active bank. -/
def Rul.active (r : Rul) : Table WinEntry := if r.bank then r.bank1 else r.bank0

/-- The entries of the shadow bank, to which writes go (R52). -/
def Rul.shadow (r : Rul) : Table WinEntry := if r.bank then r.bank0 else r.bank1

/-- A tandem link; one that never sent or heard a Hello is down. -/
def Dev.tdmLink (d : Dev) (k : Nat) : TdmLink := (findAt TdmLink.link k d.tdm.links).getD ⟨k, 0, 0, 0, 0, 0⟩

/-- The effective hop limit (R146). -/
def Dev.hopLimit (d : Dev) : Nat := max 1 (min (d.fld Reg.tdmCtl 8 8) (d.fld Reg.tdmBudget 0 24 / (2600 + d.fld Reg.tdmTiming 0 16)))

/-- TDM_STATUS.BUDGET_SHORT (R146). -/
def Dev.budgetShort (d : Dev) : Bool := d.fld Reg.tdmBudget 0 24 / (2600 + d.fld Reg.tdmTiming 0 16) == 0

/-- WBL_STATUS.STATE. -/
def Dev.wblState (d : Dev) : Nat :=
  if !d.wbl.scanned then 1 else if d.wbl.clearing then 3 else if d.wbl.queue.isEmpty then 0 else 2

/-- The running POWER_STATE entry, if one is in progress. -/
def Dev.powerEntry (d : Dev) : Option LongOp := d.cp.longOps.find? fun l => l.op == 0x0C04 && l.mode != .heldBack && !l.prog.isEmpty

/-- HQE_PSTATE.ENTERING: an entry or an exit is in progress. -/
def Dev.entering (d : Dev) : Bool := d.powerEntry.isSome || d.hqe.pwaking

/-- EVT_ALERT#: asserted while ALERT_EN is 1 and a pending source has its ALERT mask clear (R443). -/
def Dev.alert (d : Dev) : Bool :=
  d.flag Reg.evtCtl 0 && (List.range 16).any fun g =>
    decide (Nat.land (d.raw (Reg.evtPend + 4 * g)) (0xFFFFFFFF - d.raw (Reg.evtAlertMask + 4 * g)) ≠ 0)

/-- A livery by number. -/
def Dev.livery? (d : Dev) (n : Nat) : Option Livery := d.lvy.liveries.find? fun l => l.num == n

/-- A livery's current generation; 0 for one that does not exist. -/
def Dev.generation (d : Dev) (n : Nat) : Nat := match d.livery? n with | some l => l.generation | none => 0

/-- Role codes of R402. -/
def Role.code : Role → Nat
  | .init => 0
  | .standby => 1
  | .claiming => 2
  | .takeover => 3
  | .active => 4
  | .handover => 5

/-- Member drives that are ready on this module's ports. -/
def Dev.readyMembers (d : Dev) : Nat := ((List.range d.members).filter d.memberReads).length

/-- FOV_STATUS.ELIGIBLE (R408). -/
def Dev.eligible (d : Dev) : Bool := d.cp.run == 15 && d.mem.filled && decide (d.members ≤ d.readyMembers + 2)

/-- The code of a livery's state (R219). -/
def LiveryState.code : LiveryState → Nat
  | .service => 1
  | .freezing => 2
  | .frozen => 3
  | .saving => 4
  | .restoring => 5
  | .deleting => 6

/-- An image buffer's state (LVY_IMG): 0 empty, 1 in use, 2 valid, 3 invalid. -/
def Dev.bufferState (d : Dev) (b : Nat) : Nat :=
  if b ∈ d.lvy.busyBuffers then 1
  else match d.lvy.buffers.find? fun x => x.1 == b with
    | some x => if x.2.valid then 2 else 3
    | none => 0

/-- An EMPTY key slot (R380), with no successor. -/
def keySlotDflt : Nat → KeySlot := fun _ => ⟨0, [], 0, 0, 0, 0, 0xFF, 0⟩

/-- Key slot `k`. -/
def Dev.keySlot (d : Dev) (k : Nat) : KeySlot := sget keySlotDflt d.cve.slots k

/-- PES_STATUS.PWR_FAIL: asserted by the pin or by the input (R502). -/
def Dev.pwrFail (d : Dev) : Bool := d.pins.pwrFail || d.pes.pfInternal

/-- A shaper that was never configured is off. -/
def shaperDflt : Nat → Shaper := fun _ => ⟨0, 65536, 65536, 0⟩

/-- A shaper by index (R126). -/
def Dev.shaper (d : Dev) (i : Nat) : Shaper := sget shaperDflt d.tpk.shapers i

/-- What every counter, shadow and unit count not listed holds. -/
def zeroDflt : Nat → Nat := fun _ => 0

/-- A counter's value. -/
def Dev.pmcVal (d : Dev) (i : Nat) : Nat := sget zeroDflt d.pmc.vals i

/-- A counter's overflow bit (PMC_OVFm). -/
def Dev.pmcOvf (d : Dev) (i : Nat) : Bool := d.flag (Reg.pmcOvf + 4 * (i / 32)) (i % 32)

/-- What PMC_VAL shows of counter `i`: the value and the overflow bit, or their shadows. -/
def Dev.pmcShows (d : Dev) (i : Nat) (shadow : Bool) : Nat × Bool :=
  if shadow then (sget zeroDflt d.pmc.shadow i, d.pmc.shadowOvf.any fun x => x.1 == i && x.2) else (d.pmcVal i, d.pmcOvf i)

/-- A port as it is in force. -/
def Dev.port (d : Dev) (n : Nat) : EthPort := d.tpk.ports.getD n (EthPort.initial n)

/-- Drain slots at the loaded strip size (R267). -/
def Dev.drainSlots (d : Dev) : Nat := if d.geo.sc ≤ 2 then 16 else if d.geo.sc = 3 then 8 else 4

/-- The tag of an index (R162). -/
def Dev.tagOf (d : Dev) (index : Nat) : Nat := sget (fun _ => 0) d.rae.tags index

/-- What an entry of the livery table holds after module reset (R211). -/
def lvyMapDflt (i : Nat) : LvyMap := if i = 0 then ⟨0, 0xFFFFF, 0, true⟩ else ⟨0, 0, 0, false⟩

/-- Entry `i` of the livery table. -/
def Dev.lvyEntry (d : Dev) (i : Nat) : LvyMap := sget lvyMapDflt d.lvy.table i

/-- The attention indicator of a slot: R374, unless SLT_CMD overrides it (0 off, 1 on, 2 blink). -/
def Dev.attnOf (d : Dev) (slot : Nat) : Nat :=
  match d.fld (bank Reg.sltCmd slot) 0 2 with
  | 0 => (d.slotAt slot).attn
  | 1 => 1
  | 2 => 2
  | _ => 0

/-- The overflow bytes in use by a port.
-/
def Dev.ovfUse (d : Dev) (n : Nat) : Nat := (((d.port n).fifo.filter BulkPkt.inHbm).map BulkPkt.length).sum

/-- Between the start of step 10 and the end of step 16 (R464). -/
def Dev.startingUp (d : Dev) : Bool := decide (10 ≤ d.clk.step) && !d.clk.done

/-- The kind of a record (R464). -/
def Dev.recordKind (d : Dev) (trigger : Nat) : Nat :=
  if trigger = 0x201 then 3
  else if trigger = 0x204 then 2
  else if d.startingUp then 1
  else if d.blt.replay = 1 ∨ d.blt.replay = 2 ∨ d.fov.role = .takeover then 3
  else if d.flag Reg.wblCtl 1 then 2
  else 0

/-! ## Codes -/

/-- PES_STATUS.STATE. -/
def PesState.code (s : PesState) : Nat :=
  match s with
  | .off => 0
  | .delay => 1
  | .ramp => 2
  | .on => 3
  | .cool => 4
  | .latched => 5
  | .ov => 6
  | .held => 7

/-- RUL_STATUS.STATE. -/
def LockState.code (s : LockState) : Nat :=
  match s with
  | .free => 0
  | .acquire => 1
  | .locked => 2
  | .holdover => 3

/-- NIB_DINFO.STATE (R262). -/
def DescState.code (s : DescState) : Nat :=
  match s with
  | .idle => 0
  | .opened => 1
  | .closing => 2
  | .reading => 3
  | .draining => 4
  | .parity => 5
  | .durable => 6
  | .mapped => 7
  | .released => 8
  | .failed => 9
  | .swRead => 10
  | .swLog => 11
  | .swWrite => 12

/-- NIB_DINFO.PATH. -/
def WritePath.code (s : WritePath) : Nat :=
  match s with
  | .none => 0
  | .full => 1
  | .fresh => 2
  | .merge => 3
  | .small => 4
  | .recon => 5

/-- BLT_STATUS.MIRROR (R300). -/
def MirrorState.code (s : MirrorState) : Nat :=
  match s with
  | .none => 0
  | .resync => 1
  | .live => 2
  | .lost => 3

/-- DPQn_Ps_STATUS.DRIVE. -/
def DriveState.code (s : DriveState) : Nat :=
  match s with
  | .absent => 0
  | .initialising => 1
  | .ready => 2
  | .unqualified => 3
  | .escalating => 4
  | .failed => 5

/-- RAE_QP_STATE.STATE (R156). -/
def QpState.code (s : QpState) : Nat :=
  match s with
  | .closed => 0
  | .connecting => 1
  | .ready => 2
  | .error => 3

/-- RLT_ENT4.OWNER. -/
def LockHolder.code (h : LockHolder) : Nat :=
  match h with
  | .hqe _ _ => 0
  | .read _ => 1
  | .nib _ => 2
  | .outrider => 3
  | .relay => 4

/-- Flags as a number, the first in bit 0. -/
def flagWord : List Bool → Nat
  | [] => 0
  | b :: t => b2n b + 2 * flagWord t

/-! ## The interface version table (R80) -/

/-- Entry `n`: the lowest and the highest version served, and the version in use. -/
def Dev.versionEntry (d : Dev) (n : Nat) : List Nat :=
  match n with
  | 0 => [0x10, 0x12, 0]
  | 1 => [0x10, 0x11, 0]
  | 2 => [0x10, 0x11, d.fov.partnerVersion]
  | 3 => [0x10, 0x10, 0x10]
  | 4 => [0x10, 0x10, d.geo.layoutVersion]
  | 5 => [0x10, 0x10, 0x10]
  | 6 => [0x10, 0x10, d.geo.pfVersion]
  | 7 => [0x10, 0x11, 0]
  | 8 => [0x10, 0x10, 0]
  | _ => [0x10, 0x10, 0x10]

/-! ## Counters -/

/-- The counter that an index register selects, by the offset of its _LO register: block, count of them and item. -/
def Dev.counterAt (d : Dev) (off : Nat) : Option (Nat × Nat × Nat) :=
  let eth := (off / 0x10000 - 0x10) * 0x10000
  if off = Reg.pesCntLo then some (0x03, 0, d.fld Reg.pesCntIdx 0 3)
  else if off = Reg.memCntLo then some (0x0A, d.fld Reg.memCntIdx 0 3, d.fld Reg.memCntIdx 3 2)
  else if off = Reg.cveCntLo then some (0x0C, 0, d.fld Reg.cveCntIdx 0 4)
  else if off = Reg.fovCntLo then some (0x0D, 0, d.fld Reg.fovCntIdx 0 4)
  else if off = Reg.ptlCntLo then some (0x0E, 0, d.fld Reg.ptlCntIdx 0 3)
  else if off = Reg.mepCntLo then some (0x0F, 0, d.fld Reg.mepCntIdx 0 4)
  else if 0x100000 ≤ off ∧ off < 0x1C0000 ∧ off % 0x10000 = Reg.ethCntLo % 0x10000 then
    some (off / 0x10000, d.fld (Reg.ethCntIdx + eth) 0 3, d.fld (Reg.ethCntIdx + eth) 8 5)
  else if off = Reg.tbmCntLo then some (0x1D, d.fld Reg.tbmCntIdx 0 7, d.fld Reg.tbmCntIdx 8 4)
  else if off = Reg.tdmCntLo then some (0x1F, d.fld Reg.tdmCntIdx 0 7, d.fld Reg.tdmCntIdx 8 4)
  else if off = Reg.raeCntLo then some (0x20, 0, d.fld Reg.raeCntIdx 0 5)
  else if off = Reg.hqeCntLo then some (0x22, 0, d.fld Reg.hqeCntIdx 0 4)
  else if off = Reg.rltCntLo then some (0x23, 0, d.fld Reg.rltCntIdx 0 2)
  else if off = Reg.lvyCntLo then some (0x24, d.fld Reg.lvyCntIdx 0 8, d.fld Reg.lvyCntIdx 8 4)
  else if off = Reg.nibCntLo then some (0x26, 0, d.fld Reg.nibCntIdx 0 4)
  else if off = Reg.nibRdCntLo then some (0x26, 1, d.fld Reg.nibRdCntIdx 0 4)
  else if off = Reg.bltCntLo then some (0x27, 0, d.fld Reg.bltCntIdx 0 4)
  else if off = Reg.otrCntLo then some (0x28, 0, d.fld Reg.otrCntIdx 0 4)
  else if off = Reg.rlyCntLo then some (0x29, 0, d.fld Reg.rlyCntIdx 0 4)
  else if off = Reg.dpcCntLo then some (0x2A, d.fld Reg.dpcCntIdx 0 6, d.fld Reg.dpcCntIdx 8 4)
  else if off = Reg.drlCntLo then some (0x38, min 14 (d.fld Reg.drlCntIdx 0 4), d.fld Reg.drlCntIdx 8 3)
  else none

/-! ## Values wider than a register (R532) -/

/-- A boundary record as its four 64-bit values (R47): the quantum, the old and the new RTS, and a reserved one. -/
def Dev.boundaryWord (d : Dev) (n j : Nat) : Nat :=
  match d.rul.boundaries[n]? with
  | some b => if j = 0 then b.qb else if j = 1 then b.ro else if j = 2 then b.rn else 0
  | none => 0

/-- The usage count of the indexed key slot. -/
def Dev.idxSlot (d : Dev) : KeySlot := d.keySlot (d.fld Reg.cveKeyIdx 0 6)

/-- The presence of the drive slots, one bit each. -/
def Dev.presentMask (d : Dev) : Nat := d.drv.slots.foldl (fun a s => if s.present then setBit a s.num else a) 0

/-- What the latencies monitor's copy holds in a bin. -/
def Monitor.bin (m : Monitor) (k : Nat) : Nat := sget zeroDflt m.bins k

/-- RLY_CURSOR (R342). -/
def Dev.rlyCursor (d : Dev) : Nat := if d.rly.phase = 1 then d.remirrorLow else d.rly.cursor

/-- The unbuilt strips of the indexed member. -/
def Dev.idxUnbuilt (d : Dev) : Nat :=
  let m := d.fld Reg.rlyMidx 0 6
  if m < d.members then d.unbuiltOf m else 0

/-- The value of a selected counter: items 0 to 3 of PTL_CNT, which no command of the table determines, are free values. -/
def Dev.counterValue (d : Dev) (c : Nat × Nat × Nat) : Nat :=
  if c.1 = 0x0E ∧ c.2.2 < 4 then (Config.linkCount c.2.2 d.q).toNat else d.ctr c.1 c.2.1 c.2.2

/-- The 64-bit value of which the register at `off` shows the lower half. -/
def Dev.wide (d : Dev) (off : Nat) : Option Nat :=
  match d.counterAt off with
  | some c => some (d.counterValue c)
  | none =>
    if off = Reg.rulNowLo then some d.now
    else if Reg.rulEpb ≤ off ∧ off < Reg.rulEpb + 128 ∧ off % 8 = 0 then some (d.boundaryWord ((off - Reg.rulEpb) / 32) ((off - Reg.rulEpb) % 32 / 8))
    else if off = Reg.pmcValLo then some (d.pmcShows (d.fld Reg.pmcIdx 0 8) (d.flag Reg.pmcIdx 8)).1
    else if off = Reg.pmcSnapRtsLo then some d.pmc.snapRts
    else if off = Reg.lmonCountLo then some d.lmon.copy.count
    else if off = Reg.lmonSumLo then some d.lmon.copy.sum
    else if off = Reg.wblSeqLo then some d.wbl.seq
    else if off = Reg.wblOldestLo then some d.wbl.oldest
    else if off = Reg.scbPosLo then some (sget zeroDflt d.mem.scrubPos (d.fld Reg.scbIdx 0 3))
    else if off = Reg.cveUseLo then some d.idxSlot.usage
    else if off = Reg.laySeedLo then some d.geo.seed
    else if off = Reg.layUnitsLo then some d.geo.u
    else if off = Reg.layPhysLo then some (if d.lay.geo.isSome then d.geo.p else 0)
    else if off = Reg.layFreeLo then some (if d.lay.geo.isSome then d.physFree else 0)
    else if off = Reg.layLocBlk then some (d.raw Reg.layLocBlk + 2 ^ 32 * d.raw (bank Reg.layLocBlkHi 1))
    else if off = Reg.nibSeqLo then some d.nib.seq
    else if off = Reg.nibDlsLo then some (match d.nib.snap with | some x => x.1.lstripe | none => 0)
    else if off = Reg.bltHeadLo then some d.blt.head
    else if off = Reg.bltTailLo then some d.blt.tail
    else if off = Reg.bltAckLo then some d.blt.ack
    else if off = Reg.bltRsnLo then some d.blt.nextRsn
    else if off = Reg.bltRplELo then some d.blt.rplE
    else if off = Reg.otrCursorLo then some d.otr.cursor
    else if off = Reg.rlyCursorLo then some d.rlyCursor
    else if off = Reg.rlyMunbLo then some d.idxUnbuilt
    else if off = Reg.sltPresentLo then some d.presentMask
    else none

/-! ## Registers computed from the state -/

/-- DEVID: constants, the running firmware and the interface version table. -/
def Dev.viewDevid (d : Dev) (off : Nat) : Nat :=
  if off = Reg.devidId then 0x4812F4E1
  else if off = Reg.devidRev then Config.revision.toNat + 256 * (if Config.variantL then 2 else 1) + 65536 * 57
  else if off = Reg.devidSerialLo then Config.serial.toNat % 2 ^ 32
  else if off = Reg.devidSerialHi then Config.serial.toNat / 2 ^ 32
  else if off = Reg.devidMacLo then Config.mac.toNat % 2 ^ 32
  else if off = Reg.devidMacHi then Config.mac.toNat / 2 ^ 32
  else if off = Reg.devidFw then d.clk.fwVersion + 0x1000
  else if Reg.devidIfvLo ≤ off ∧ off % 8 = 0 then
    let n := (off - Reg.devidIfvLo) / 8
    let e := d.versionEntry n
    n + 2 ^ 8 * e.getD 0 0 + 2 ^ 16 * e.getD 1 0 + 2 ^ 24 * e.getD 2 0
  else 0

/-- MCR and CLK. -/
def Dev.viewClk (d : Dev) (off : Nat) : Nat :=
  let c := d.clk
  let i := d.fld Reg.clkDomIdx 0 6
  let khz := sget zeroDflt c.khz i
  let st (n : Nat) : Nat := match c.banks[n]? with | some b => b.state | none => 0
  if off = Reg.mcrStatus then b2n c.done + 2 * d.fov.role.code + 16 * b2n d.pins.slotIdStrap + 32 * b2n d.mep.presetBars
  else if off = Reg.clkStatus then
    flagWord [c.sysOk, !c.khz.isEmpty && !((List.range' 12 12).all c.faulty.contains), decide (sget zeroDflt c.khz 36 ≠ 0), d.rul.holdClkOk]
  else if off = Reg.clkDomStat then khz + 2 ^ 24 * b2n (khz != 0) + 2 ^ 25 * b2n (c.faulty.contains i)
  else if off = Reg.clkStart then c.step + 32 * b2n c.done + 64 * b2n c.failed + 256 * c.cause
  else if off = Reg.clkStartMs then c.startMs
  else if off = Reg.clkRstCause then c.rstCause
  else if off = Reg.clkBoot then flagWord [bit c.runningBank 0, bit c.preferred 0, c.trial, c.fellBack] + 16 * st 0 + 64 * st 1
  else d.raw off

/-- PES: what the supervisor measures is not an effect of any command (DESIGN CHOICE: assumption log, entry 3). -/
def Dev.viewPes (d : Dev) (off : Nat) : Nat :=
  let p := d.pes
  if off = Reg.pesStatus then p.state.code + 8 * p.retries + flagWord [p.kept, d.pwrFail, d.pins.pwrEnIn] * 64
  else if off = Reg.pesCfg then setBits (d.raw off) 0 9 p.insertNext
  else if off = Reg.pesVin then min 65535 p.inputMv
  else if off = Reg.pesVout ∨ off = Reg.pesIin ∨ off = Reg.pesPin then (Config.measured off d.q).toNat
  else d.raw off

/-- RUL. Reads of the window table show the bank that writes go to. -/
def Dev.viewRul (d : Dev) (off : Nat) : Nat :=
  let r := d.rul
  let src := match r.source with | some s => s | none => 3
  let win (a : Nat) : WinEntry := sget bankDflt r.shadow ((off - a) / 8)
  if off = Reg.rulStatus then
    r.state.code + 4 * src + 16 * (r.epoch % 16) + 256 * b2n r.holdClkOk + 512 * b2n r.swapAt.isSome + 1024 * b2n r.bank + 65536 * r.badWin
  else if off = Reg.rulPhaseErr then (max (-(2 ^ 31 : Int)) (min (2 ^ 31 - 1) r.phaseErr) % (2 ^ 32 : Int)).toNat
  else if Reg.rulWinLines ≤ off ∧ off < Reg.rulWinLines + 512 then
    if off % 8 = 0 then (win Reg.rulWinLines).lines.toNat else (win Reg.rulWinMask).mask.toNat
  else d.raw off

/-- Commands that are held. -/
def Dev.heldCount (d : Dev) : Nat := (d.cp.cmds.filter fun c => match c.phase with | .held _ => true | _ => false).length

/-- CMD, EVT, PMC, LMON and WBL. -/
def Dev.viewCmd (d : Dev) (off : Nat) : Nat :=
  let w := d.wbl
  if off = Reg.cmdStatus then d.cp.run + 65536 * d.cp.longOps.length
  else if off = Reg.cmdVer then 0x1012
  else if off = Reg.cmdSessCnt then d.cp.sessions.length + 65536 * d.cp.peak
  else if off = Reg.cmdHeldCnt then d.heldCount
  else if off = Reg.evtStatus then
    ((List.range 512).filter fun s => d.flag (Reg.evtPend + 4 * (s / 32)) (s % 32)).length + 65536 * b2n d.alert
  else if off = Reg.evtSeq then d.evtSeq
  else if off = Reg.pmcStatus then b2n d.pmc.frozenByOvf + 256 * d.pmc.lastOvf
  else if off = Reg.lmonMin then d.lmon.copy.min
  else if off = Reg.lmonMax then d.lmon.copy.max
  else if off = Reg.lmonBin then d.lmon.copy.bin (d.fld Reg.lmonBinIdx 0 5)
  else if off = Reg.wblStatus then d.wblState + 4 * b2n (d.recordKind 0 != 0) + 8 * w.queue.length + 4096 * min 1023 w.bad.length
  else if off = Reg.wblHours then w.hours
  else if off = Reg.wblCycles then w.cycles
  else d.raw (d.keyAt off)

/-- MEM, SCB and CVE. -/
def Dev.viewMem (d : Dev) (off : Nat) : Nat :=
  let k := d.idxSlot
  let i := d.fld Reg.cveKeyIdx 0 6
  if off = Reg.scbPasses then sget zeroDflt d.mem.scrubPasses (d.fld Reg.scbIdx 0 3)
  else if off = Reg.cveStatus then min 32 d.cve.queue.length + 64 * d.cve.ent + 65536 * (d.cve.queue.length - 32)
  else if off = Reg.cveKeyCfg then d.fld (bank Reg.cveKeyCfg i) 0 1 + 256 * k.succ
  else if off = Reg.cveKeyCmd then 256 * b2n d.cve.keyFail
  else if Reg.cveKeyData ≤ off ∧ off < Reg.cveKeyData + 32 then 0
  else if off = Reg.cveKeyState then k.state + 4 * k.role + 256 * k.succ
  else if off = Reg.cveKcv then k.kcv
  else d.raw (d.keyAt off)

/-- FOV, PTL and MEP. -/
def Dev.viewFov (d : Dev) (off : Nat) : Nat :=
  let f := d.fov
  let p := d.pins
  let m := d.mep
  if off = Reg.fovStatus then
    f.role.code + 8 * flagWord [p.slotIdStrap, p.actOwn, p.actPeer, p.fenceOut, p.fenceAckIn, !p.partnerPwrEn, f.ptlAlive, f.hblAlive, f.degraded,
      d.eligible, f.blocked] + 2 ^ 14 * f.tstep
  else if off = Reg.fovLast then min 0xFFFFF f.lastUs
  else if off = Reg.ptlStatus then f.lanes + 256 * f.partnerVersion + 65536 * b2n (f.lanes != 0)
  else if off = Reg.mepStatus then m.speed + 8 * m.width + 64 * b2n m.bme + 128 * b2n m.presetBars + 256 * m.dstate
  else if Reg.mepDmaStat ≤ off ∧ off < Reg.mepDmaStat + 128 ∧ (off - Reg.mepDmaStat) % 32 = 0 then
    match m.dma[(off - Reg.mepDmaStat) / 32]? with
    | some c => c.ci + 65536 * c.state + 2 ^ 19 * c.cause
    | none => 0
  else if Reg.msixPba ≤ off ∧ off < Reg.msixPba + 64 then bits m.pba (8 * (off - Reg.msixPba)) 32
  else d.raw (d.keyAt off)

/-- The Ethernet ports, Turnpike and Tandem. -/
def Dev.viewNet (d : Dev) (off : Nat) : Nat :=
  let p := d.port (off / 0x10000 - 0x10)
  if off < 0x1C0000 then (if off % 0x10000 = Reg.ethStatus % 0x10000 then p.up + 256 * p.mode + 1024 * p.role else d.raw off)
  else if off = Reg.tbmFree then d.cellsFree
  else if off = Reg.tbmOvfUse then (((List.range 12).map d.ovfUse).sum + 1048575) / 1048576
  else if off = Reg.tssShpCredit then ((d.shaper (d.fld Reg.tssShpIdx 0 12)).credit / 10000 % (2 ^ 32 : Int)).toNat
  else if off = Reg.tssPolDrop then d.raw (bank Reg.tssPolDrop (d.fld Reg.tssPolIdx 0 12))
  else if off = Reg.tdmStatus then d.hopLimit + 256 * d.tdm.ctxs.length + 2 ^ 21 * b2n d.budgetShort
  else if off = Reg.tdmLinkState then
    let l := d.tdmLink (d.fld Reg.tdmLinkIdx 0 7)
    l.state + 256 * (if l.state = 2 then l.version else 0) + 65536 * l.peer
  else d.raw (d.keyAt off)

/-- The Inkwell that INK_IDX names. -/
def Dev.idxInk (d : Dev) : Option Inkwell := d.rae.inks.find? fun k => k.index == d.fld Reg.inkIdx 0 16

/-- RAE and INK. -/
def Dev.viewRae (d : Dev) (off : Nat) : Nat :=
  let n (p : Qp → Bool) : Nat := (d.rae.qps.filter p).length
  let i := d.fld Reg.inkIdx 0 16
  if off = Reg.raeStatus then n fun q => q.state != .closed
  else if off = Reg.raeCacheStat then n Qp.resident + 65536 * n fun q => q.pinned
  else if off = Reg.raeParkStat then (d.rae.qps.map fun q => q.parked.length).sum + 65536 * d.rae.parkPeak
  else if off = Reg.raeQpState then
    match d.rae.qps.find? fun q => q.num == 0x10000 + d.fld Reg.raeQpIdx 0 16 with
    | some q => q.state.code + 8 * b2n q.resident + 16 * b2n q.pinned + 32 * min 4 q.parked.length + 256 * q.livery.getD 0 + 65536 * b2n q.nvme
        + 131072 * b2n q.rq.isSome
    | none => 0
  else if off = Reg.inkStatus then d.rae.inks.length
  else if off = Reg.inkKey then i * 256 + d.tagOf i
  else if off = Reg.inkInfo then
    match d.idxInk with
    | some k => k.rights % 4 + 4 * (if k.revoking.isSome then 2 else 1) + 256 * k.livery
    | none => 0
  else if off = Reg.inkSize then match d.idxInk with | some k => k.pages.length | none => 0
  else if off = Reg.inkLastImm then match d.idxInk with | some k => k.lastImm.toNat | none => 0
  else d.raw off

/-- A binding entry that was never written is not valid. -/
def bindDflt : Nat → Binding := fun _ => ⟨[], 0, false⟩

/-- A host binding entry (R193). -/
def Dev.binding (d : Dev) (i : Nat) : Binding := sget bindDflt d.hqe.bindings i

/-- HQE and RLT. -/
def Dev.viewHqe (d : Dev) (off : Nat) : Nat :=
  let h := d.hqe
  if off = Reg.hqeStatus then h.controllers.length + 65536 * (h.controllers.map Controller.ioQueues).sum
  else if off = Reg.hqePstate then h.pstate + 4 * h.ptarget + 16 * b2n d.entering + 32 * h.pstep
  else if off = Reg.hqeBindData then
    let b := d.binding (d.fld Reg.hqeBindIdx 0 11)
    let w := d.fld Reg.hqeBindIdx 16 6
    if w < 56 then fieldAt (fit 224 b.nqn) (4 * w) 4 else b.pid + 2 ^ 31 * b2n b.valid
  else if off = Reg.rltStatus then (h.locks.filter fun l => l.granted.isSome).length + 65536 * d.fld Reg.rltStatus 16 14
  else if Reg.rltEnt ≤ off ∧ off < Reg.rltEnt + 20 then
    match h.ent with
    | none => 0
    | some e =>
      let l := e.2
      let take := match d.lay.objects.find? fun o => o.num == l.object with | some o => o.kind != .ns | none => false
      match (off - Reg.rltEnt) / 4 with
      | 0 => l.object + 2 ^ 31 * b2n take
      | 1 => l.first % 2 ^ 32
      | 2 => l.first / 2 ^ 32 % 2 ^ 20
      | 3 => l.last % 2 ^ 32
      | _ => l.last / 2 ^ 32 % 2 ^ 20 + 2 ^ 24 * b2n l.exclusive + 2 ^ 25 * l.holder.code + 2 ^ 31
  else d.raw off

/-- LVY. -/
def Dev.viewLvy (d : Dev) (off : Nat) : Nat :=
  let n := d.fld Reg.lvyIdx 0 8
  if off = Reg.lvyStatus then d.lvy.liveries.length
  else if off = Reg.lvyState then match d.livery? n with | some l => l.state.code + 65536 * l.generation | none => 0
  else if off = Reg.lvyCfg then match d.livery? n with | some l => l.config.getD 0 0 + 2 * l.config.getD 1 0 | none => 0
  else if off = Reg.lvyMapLast then
    let e := d.lvyEntry (d.fld Reg.lvyMapIdx 0 10)
    e.last + 2 ^ 20 * e.livery + 2 ^ 31 * b2n e.valid
  else if off = Reg.lvyImg then d.bufferState 0 + 16 * d.bufferState 1 + 256 * d.bufferState 2 + 4096 * d.bufferState 3
  else d.raw off

/-- The data strips that a descriptor's named blocks reach. -/
def Dev.descFill (d : Dev) (s : Desc) : Nat :=
  if s.state = .opened then ceilDiv (s.named.foldl (fun a n => max a (n.block + 1)) 0) (max 1 d.geo.b) else s.fill

/-- LAY and NIB. -/
def Dev.viewNib (d : Dev) (off : Nat) : Nat :=
  let g := d.geo
  let n := d.nib
  if off = Reg.layStatus then d.lay.state + 256 * g.n + 65536 * g.d + 2 ^ 21 * g.sc + 2 ^ 24 * g.s
  else if off = Reg.layCkptStat then (d.lay.segments.filter fun s => s.dirtyAt.isSome).length
  else if off = Reg.nibStatus then
    d.drainSlots + 256 * (n.descs.filter Desc.hasSlot).length
      + 65536 * min 63 (n.descs.filter fun s => s.state == .closing && !s.hasSlot).length
  else if off = Reg.nibDesc then n.descs.length + 65536 * n.peak
  else if off = Reg.nibDinfo then
    match n.snap with
    | some x => x.1.state.code + 16 * d.descFill x.1 + 512 * b2n x.1.stream + 1024 * b2n x.2 + 4096 * x.1.path.code + 65536 * x.1.object
    | none => 0
  else if off = Reg.nibRdStage then d.rd.sramUsed
  else if off = Reg.nibRdSpill then d.rd.spillUsed
  else d.raw off

/-- BLT, OTR and RLY. -/
def Dev.viewRly (d : Dev) (off : Nat) : Nat :=
  let b := d.blt
  let m := d.fld Reg.rlyMidx 0 6
  if off = Reg.bltStatus then
    b.mirror.code + 4 * b.replay + 16 * d.liveMembers.length + 1024 * b2n b.spanFull + 2048 * b2n b.ringFull
  else if off = Reg.bltRingUse then b.records.length
  else if off = Reg.bltPayUse then b.payloads.length
  else if off = Reg.bltRemirror then b.remirror.length
  else if off = Reg.otrStatus then
    (if d.otr.pass.isSome then 3 else match d.otr.check with | some k => (if k.stage < 4 then 1 else 2) | none => 0) + 256 * d.otr.repair.length
  else if off = Reg.otrSuspUse then d.otr.suspects.length
  else if off = Reg.otrFrameUsed then min 0xFFFF d.otr.frameUsed
  else if off = Reg.rlyStatus then
    d.rly.phase + 8 * b2n d.rly.raised + 16 * b2n d.rly.copy.isSome + 256 * d.rly.ordinal + 65536 * d.workMembers
  else if off = Reg.rlyPeriods then d.periods
  else if off = Reg.rlyMstate then
    if m < d.members then
      d.memberState m + 4 * b2n (decide (1 ≤ d.ordinal m) && decide (d.ordinal m ≤ d.geo.s)) + 256 * d.ordinal m
    else 0
  else if off = Reg.rlyMcb then d.cursorOf m - 1
  else if off = Reg.rlyLost then d.lay.lost.length
  else d.raw off

/-- The drive ports, slot control and the drain ladder. -/
def Dev.viewDpc (d : Dev) (off : Nat) : Nat :=
  let n (p : Slot → Bool) : Nat := (d.drv.slots.filter p).length
  let k := 4 * (off / 0x10000 - 0x2B) + off % 0x40 / 16
  let s := d.slotAt k
  let lvl (f : Nat → Bool) : Nat := flagWord ((List.range 6).map f)
  let pool (i v : Nat) : Nat := d.drl.snap.getD i v
  if off < 0x2B0000 then
    if off = Reg.dpcStatus then (n fun s => s.speed != 3) + 256 * (n fun s => s.drive == .escalating) + 65536 * n Slot.holder
    else if off = Reg.dpcResvKeyLo then d.raw off / 2 * 2 + b2n d.pins.slotIdStrap
    else d.raw off
  else if off < 0x370000 then
    if off % 16 = 4 then
      s.speed + 4 * b2n s.narrow + 8 * b2n s.contained + 16 * s.drive.code + 128 * min 2 s.escStep
        + 512 * b2n s.holder + 1024 * b2n (d.memberAt k).isSome
    else if off % 16 = 12 then
      (d.drv.cmds.filter fun c => c.slot == k && c.at_.isSome && decide (c.cls < 6)).length
        + 65536 * min 0xFFFF (d.drv.cmds.filter fun c => c.slot == k && c.at_.isNone && (c.op == .write || c.op == .compareWrite)).length
    else d.raw off
  else if off = Reg.sltStat then
    let s := d.slotAt (d.fld Reg.sltIdx 0 6)
    flagWord [s.present, s.pgood, s.fault, s.powerEn] + 16 * d.attnOf s.num
  else if off = Reg.drlStatus then
    lvl d.blocked + 256 * lvl d.levelFull + 65536 * b2n d.drl.ctrlLow + 131072 * b2n d.drl.noBhome
  else if off = Reg.drlPoolCap then pool 0 (d.poolCap 0)
  else if off = Reg.drlPoolUse then pool 1 0
  else if off = Reg.drlPoolHdrm then d.poolHdrm (min 14 (d.fld Reg.drlPoolIdx 0 4))
  else if off = Reg.drlPoolHfree then pool 2 (d.poolHfree 0)
  else if off = Reg.drlPoolPeak then pool 3 0
  else d.raw (d.keyAt off)

/-- What the register at `off` shows where it is no half of a wider value. -/
def Dev.view (d : Dev) (off : Nat) : Nat :=
  let b := off / 0x10000
  if b = 0 then d.viewDevid off
  else if b < 3 then d.viewClk off
  else if b = 3 then d.viewPes off
  else if b = 4 then d.viewRul off
  else if b < 0x0A then d.viewCmd off
  else if b < 0x0D then d.viewMem off
  else if b < 0x10 then d.viewFov off
  else if b < 0x20 then d.viewNet off
  else if b < 0x22 then d.viewRae off
  else if b < 0x24 then d.viewHqe off
  else if b < 0x25 then d.viewLvy off
  else if b < 0x27 then d.viewNib off
  else if b < 0x2A then d.viewRly off
  else d.viewDpc off

/-- The value a read of the register at `off` returns, without any side effect of the read: for half of a wider value its lower half, for
the upper half what the last read of the lower one latched (R532). -/
def Dev.peek (d : Dev) (off : Nat) : Nat :=
  match d.wide off with
  | some v => v % 2 ^ 32
  | none => d.view off % 2 ^ 32

end Sys2Proof.Machine
end

