-- ==== Sys2Proof/Machine/Flags.lean ====
section
/-! DEFINITION. Event sources and their ERR bits (R440 to R447), delivery by MSI-X and event packets, the Waybill triggers
(R466 to R470), and the samples of the latency monitors (R454, R455): every status flag that a unit sets. -/

namespace Sys2Proof.Machine

/-! ## ERR registers -/

/-- The ERR register and bit that gate event source `s`; none for the sources raised at every occurrence (R441, R101, R56,
R134, R490). -/
def errBit (s : Nat) : Option (Nat × Nat) :=
  if s < 0x00A then some (Reg.pesErr, s)
  else if 0x010 ≤ s ∧ s < 0x013 then some (Reg.mcrErr, s - 0x010)
  else if 0x020 ≤ s ∧ s < 0x027 then some (Reg.clkErr, s - 0x020)
  else if 0x060 ≤ s ∧ s < 0x068 then some (Reg.memErr, s - 0x060)
  else if 0x070 ≤ s ∧ s < 0x072 then some (Reg.scbErr, s - 0x070)
  else if 0x080 ≤ s ∧ s < 0x084 then some (Reg.evtErr, s - 0x080)
  else if 0x090 ≤ s ∧ s < 0x094 then some (Reg.wblErr, s - 0x090)
  else if 0x0A0 ≤ s ∧ s < 0x0AD then some (Reg.fovErr, s - 0x0A0)
  else if 0x0B0 ≤ s ∧ s < 0x0B4 then some (Reg.ptlErr, s - 0x0B0)
  else if 0x0CC ≤ s ∧ s < 0x0D3 then some (Reg.mepErr, s - 0x0CC)
  else if 0x100 ≤ s ∧ s < 0x109 then some (Reg.tpkErr, s - 0x100)
  else if 0x110 ≤ s ∧ s < 0x11A then some (Reg.tdmErr, s - 0x110)
  else if 0x120 ≤ s ∧ s < 0x126 then some (Reg.raeErr, s - 0x120)
  else if 0x126 ≤ s ∧ s < 0x128 then some (Reg.inkErr, s - 0x126)
  else if 0x128 ≤ s ∧ s < 0x12C then some (Reg.raeErr, s - 0x128 + 8)
  else if 0x140 ≤ s ∧ s < 0x149 then some (Reg.hqeErr, s - 0x140)
  else if s = 0x149 then some (Reg.rltErr, 0)
  else if 0x150 ≤ s ∧ s < 0x15A then some (Reg.lvyErr, s - 0x150)
  else if 0x160 ≤ s ∧ s < 0x169 then some (Reg.layErr, s - 0x160)
  else if 0x170 ≤ s ∧ s < 0x17A then some (Reg.nibErr, s - 0x170)
  else if 0x180 ≤ s ∧ s < 0x18B then some (Reg.bltErr, s - 0x180)
  else if 0x1A0 ≤ s ∧ s < 0x1AA then some (Reg.otrErr, s - 0x1A0)
  else if 0x1B0 ≤ s ∧ s < 0x1BB then some (Reg.rlyErr, s - 0x1B0)
  else if 0x1C0 ≤ s ∧ s < 0x1CC then some (Reg.dpcErr, s - 0x1C0)
  else if 0x1E0 ≤ s ∧ s < 0x1E4 then some (Reg.sltErr, s - 0x1E0)
  else if 0x1E8 ≤ s ∧ s < 0x1F0 then some (Reg.cveErr, s - 0x1E8)
  else if 0x1F0 ≤ s ∧ s < 0x1F5 then some (Reg.drlErr, s - 0x1F0)
  else none

/-- Whether a chapter lists source `s`; the others are reserved (R440). -/
def isSource (s : Nat) : Bool :=
  (errBit s).isSome || decide (0x018 ≤ s ∧ s < 0x01F) || decide (0x040 ≤ s ∧ s < 0x050) || decide (0x0C0 ≤ s ∧ s < 0x0CC)
    || decide (0x0E0 ≤ s ∧ s < 0x0EF)

/-- The ERR register of the unit that raises source `s`, whose value an event packet carries (R447). -/
def errReg (s : Nat) : Nat :=
  match errBit s with
  | some (k, _) => k
  | none =>
    if s < 0x020 then Reg.cmdErr
    else if s < 0x050 then Reg.rulErr
    else if s < 0x0CC then Reg.mepErr
    else if s < 0x0EC then Reg.ethErr + (s - 0x0E0) * 0x10000
    else Reg.tpkErr

/-! ## Waybill triggers -/

/-- The snapshot of a record: every valid WBL_SNAPn entry in ascending n, read without side effects (R468). -/
def Dev.snapshot (d : Dev) : List (Nat × Nat) :=
  (List.range 32).filterMap fun n =>
    let w := d.raw (Reg.wblSnap + 4 * n)
    if bit w 31 then some (bits w 0 24, d.peek (bits w 0 24)) else none

/-- The operating hours in 1/256 h (R465): the count since the clock began, over what the start-up scan set. -/
def Dev.hoursNow (d : Dev) : Nat := (d.wbl.hours + d.q / 11250000000) % 2 ^ 32

/-- A record of `trigger` with the next sequence number (R462). -/
def Dev.newRecord (d : Dev) (trigger : Nat) : WblRecord :=
  { kind := d.recordKind trigger, trigger := trigger, seq := d.wbl.seq,
    hours := if d.recordKind trigger = 0 then 0 else d.hoursNow,
    cycles := if d.recordKind trigger = 0 then 0 else d.wbl.cycles,
    snaps := d.snapshot }

/-- Queues a Waybill record (R469, R470): a POWER_FAIL record at the head, any other at the end; a full queue drops it,
counted, and takes no sequence number. The flag says whether it was dropped. -/
def Dev.queueRecord (d : Dev) (trigger : Nat) : Dev × Bool :=
  if 64 ≤ d.wbl.queue.length then (d.countReg Reg.wblDrop 1, true)
  else
    let r := d.newRecord trigger
    ({ d with wbl := { d.wbl with
        seq := d.wbl.seq + 1
        queue := if trigger = 0x201 then r :: d.wbl.queue else d.wbl.queue ++ [r] } }, false)

/-- Whether source or trigger `t` writes a record now (R466). -/
def Dev.triggers (d : Dev) (t : Nat) : Bool :=
  if t < 0x200 then d.flag Reg.wblCtl 0 && bit (d.raw (Reg.wblTrig + 4 * (t / 32))) (t % 32)
  else if t = 0x203 then d.flag Reg.wblCtl 0
  else true

/-! ## Delivery -/

/-- Whether vector `v` may be sent now: MSI-X enabled, BME, no function mask, vector unmasked, state D0 (R443, R486, R477). -/
def Dev.vectorOpen (d : Dev) (v : Nat) : Bool :=
  d.mep.bme && !d.mep.functionMask && !(bit (d.raw (Reg.msixTable + 16 * v + 12)) 0) && d.mep.dstate == 0

/-- The message of vector `v`. -/
def Dev.sendVector (d : Dev) (v : Nat) : Dev :=
  (d.emit (.msix v (d.raw (Reg.msixTable + 16 * v) + 2 ^ 32 * d.raw (Reg.msixTable + 16 * v + 4))
    (BitVec.ofNat 32 (d.raw (Reg.msixTable + 16 * v + 8))))).bump 0x0F 0 5 1

/-- Delivery to MSI-X: one message per raise on vector `v`, or the Pending Bit Array bit while it may not be sent; nothing
while MSI-X is disabled (R443, R481, R486). -/
def Dev.msix (d : Dev) (v : Nat) : Dev :=
  if d.mep.msixEnable then
    if d.vectorOpen v then d.sendVector v
    else ({ d with mep := { d.mep with pba := setBit d.mep.pba v } }).bump 0x0F 0 6 1
  else d

/-- Every pended vector that may be sent now is sent once (R486). -/
def Dev.flushVectors (d : Dev) : Dev :=
  if d.mep.msixEnable then
    d.forEach (List.range 512) fun d v =>
      if bit d.mep.pba v && d.vectorOpen v then
        ({ d with mep := { d.mep with pba := clearBit d.mep.pba v } }).sendVector v
      else d
  else d

/-- A raised event joins a session's queue of 64 packets; a full queue drops it and counts it (R445). The flag says whether
a session dropped it. -/
def Session.enqueue (s : Session) (e : QueuedEvent) : Session × Bool :=
  if 64 ≤ s.queue.length then ({ s with drops := s.drops + 1 }, true) else ({ s with queue := s.queue ++ [e] }, false)

/-- Whether session `s` takes source `e.source` as a packet: never 0x082, its own LONGOP_DONE always, any other source when
it subscribed, PKT_EN is 1 and the packet mask is clear (R443, R444). -/
def Dev.takesPacket (d : Dev) (s : Session) (source : Nat) (origin : Option Nat) : Bool :=
  if source = 0x082 then false
  else if source = 0x019 ∧ origin = some s.id then true
  else d.flag Reg.evtCtl 1 && bit s.subs source && !(bit (d.raw (Reg.evtPktMask + 4 * (source / 32))) (source % 32))

/-- Delivery of one event to the sessions (R444, R445): the sessions after it, and how many dropped it. -/
def Dev.toSessions (d : Dev) (e : QueuedEvent) (origin : Option Nat) : List Session × Nat :=
  d.cp.sessions.foldr (fun s (acc : List Session × Nat) =>
    if d.takesPacket s e.source origin then
      let r := s.enqueue e
      (r.1 :: acc.1, acc.2 + b2n r.2)
    else (s :: acc.1, acc.2)) ([], 0)

/-- The event in the queues of the sessions that take it (R444, R445). The number says how many dropped it. -/
def Dev.queueEvent (d : Dev) (e : QueuedEvent) (origin : Option Nat) : Dev × Nat :=
  let p := d.toSessions e origin
  let d := { d with cp := { d.cp with sessions := p.1 } }
  (if p.2 = 0 then d else d.countReg Reg.evtPktDrop p.2, p.2)

/-- What the event controller does when source `s` is raised (R441): pending bit, sequence number, RTS, and delivery to the
destinations whose mask is clear; drops of event packets are counted (R445). The number says how many sessions dropped it. -/
def Dev.deliver (d : Dev) (s : Nat) (livery : Option Nat) (longop : List Byte) (origin : Option Nat) : Dev × Nat :=
  let k := Reg.evtPend + 4 * (s / 32)
  let e : QueuedEvent :=
    { source := s, seq := (d.evtSeq + 1) % 2 ^ 32, rts := d.now, livery := livery,
      generation := (match livery with | some l => d.generation l | none => 0),
      err := BitVec.ofNat 32 (d.raw (errReg s)), longop := longop }
  let d := d.setRaw k (setBit (d.raw k) (s % 32))
  let d := { d with evtSeq := (d.evtSeq + 1) % 2 ^ 32 }
  let d := if bit (d.raw (Reg.evtMsixMask + 4 * (s / 32))) (s % 32) then d else d.msix s
  d.queueEvent e origin

/-- The Waybill record of a raise (R466); the flag says whether the full queue dropped it. -/
def Dev.recordRaise (d : Dev) (s : Nat) : Dev × Bool := if d.triggers s then d.queueRecord s else (d, false)

/-- A raise of the gated source `s` with bit `i` of register `k` that drops nothing further: it is made when the bit is
clear, and sets it. -/
def Dev.raiseQuiet (d : Dev) (s k i : Nat) : Dev × Bool :=
  if d.flag k i then (d, false) else (((d.setRaw k (setBit (d.raw k) i)).deliver s none [] none).1).recordRaise s

/-- The whole of a raise (R441, R445, R469): delivery, the Waybill record, EVT_PKT_DROP when a session dropped the packet,
and WBL_DROP when a record was dropped. -/
def Dev.raiseAll (d : Dev) (s : Nat) (livery : Option Nat) (longop : List Byte) (origin : Option Nat) : Dev :=
  let a := d.deliver s livery longop origin
  let b := a.1.recordRaise s
  let c := if a.2 = 0 then (b.1, false) else b.1.raiseQuiet 0x082 Reg.evtErr 2
  if b.2 || c.2 then (c.1.raiseQuiet 0x090 Reg.wblErr 0).1 else c.1

/-- A unit raises source `s` (R441): a source that its ERR bit gates is raised the first time after that bit was cleared,
and sets it; the others at every occurrence. `livery` is the livery that the event names. -/
def Dev.raiseL (d : Dev) (s : Nat) (livery : Option Nat) : Dev :=
  match errBit s with
  | some (k, i) => if d.flag k i then d else Dev.raiseAll (d.setRaw k (setBit (d.raw k) i)) s livery [] none
  | none => Dev.raiseAll d s livery [] none

/-- A raise that names no livery. -/
def Dev.raise (d : Dev) (s : Nat) : Dev := d.raiseL s none

/-- LONGOP_DONE (R96) with its 24 payload bytes, for the session that started the operation. -/
def Dev.raiseLongop (d : Dev) (livery : Nat) (payload : List Byte) (origin : Option Nat) : Dev :=
  Dev.raiseAll d 0x019 (some livery) payload origin

/-- A Waybill trigger other than an event (R466): a record dropped by a full queue raises WBL_DROP (R469). -/
def Dev.trigger (d : Dev) (t : Nat) : Dev :=
  if d.triggers t then
    let r := d.queueRecord t
    if r.2 then r.1.raise 0x090 else r.1
  else d

/-! ## Latency monitors -/

/-- One sample into a monitor (R455); the flag says whether a bin or SUM saturated. -/
def Monitor.sample (m : Monitor) (v : Nat) : Monitor × Bool :=
  let v := Nat.min v 0xFFFFFFFF
  let k := if v = 0 then 0 else Nat.min 31 (log2 33 v + 1)
  let b := sget (fun _ => 0) m.bins k
  ({ min := Nat.min m.min v, max := Nat.max m.max v, count := Nat.min (m.count + 1) (2 ^ 64 - 1), sum := Nat.min (m.sum + v) (2 ^ 64 - 1),
     bins := sput (fun _ => 0) m.bins k (Nat.min (b + 1) 0xFFFFFFFF) },
   decide (0xFFFFFFFF < b + 1) || decide (2 ^ 64 - 1 < m.sum + v))

/-- A cleared monitor holds no samples (R455). -/
def monitorDflt : Nat → Monitor := fun _ => Monitor.cleared

/-- One occurrence of LMON source `src` at instance `inst` with value `v` (R454): every monitor that selects it takes the
sample. A monitor that first saturates raises LMON_SATURATED. -/
def Dev.sample (d : Dev) (src inst v : Nat) : Dev :=
  let hits := d.regs.filterMap fun p =>
    if p.1 % 2 ^ 24 = Reg.lmonSel ∧ bits p.2.toNat 0 5 = src ∧ (bit p.2.toNat 16 = false ∨ bits p.2.toNat 8 8 = inst)
    then some (p.1 / 2 ^ 24) else none
  d.forEach hits fun d i =>
    let r := (sget monitorDflt d.lmon.mons i).sample v
    let d := { d with lmon := { d.lmon with mons := sput monitorDflt d.lmon.mons i r.1 } }
    if r.2 then d.raise 0x083 else d

/-- Quanta as whole microseconds. -/
def toUs (q : Nat) : Nat := q / 800

/-- A duration sample in microseconds since quantum `from_`. -/
def Dev.sampleUs (d : Dev) (src inst from_ : Nat) : Dev := d.sample src inst (toUs (d.q - from_))

end Sys2Proof.Machine
end

