-- ==== Sys2Proof/Machine/Keys.lean ====
section
/-! DEFINITION. Key slots and tags (R376 to R383): what a tag authenticates, the nonce, and the use of a slot. -/

namespace Sys2Proof.Machine

/-- `f` applied to the check-value engine. -/
def Dev.onCve (d : Dev) (f : Cve → Cve) : Dev := { d with cve := f d.cve }

/-- Key slot `k` replaced. -/
def Dev.setKeySlot (d : Dev) (k : Nat) (x : KeySlot) : Dev := d.onCve fun c => { c with slots := sput keySlotDflt c.slots k x }

/-- Whether keys may be used at all: CVE_CTL.EN set and no entropy failure latched (R394). -/
def Dev.keysUsable (d : Dev) : Bool := d.flag Reg.cveCtl 0 && d.cve.ent != 2

/-- A counter of the CVE. -/
def Dev.countCve (d : Dev) (item n : Nat) : Dev := d.bump 0x0C 0 item n

/-! ## Tags (R376, R377) -/

/-- The invocation counter of a block (R377). -/
def blockCounter (wseq strip row : Nat) : Nat := (wseq % 2 ^ 50) * 2 ^ 13 + (strip % 32) * 2 ^ 8 + row % 256

/-- The invocation counter of a command packet (R377). -/
def packetCounter (reply : Bool) (tag : Nat) : Nat := 2 ^ 63 + b2n reply * 2 ^ 62 + tag % 2 ^ 32

/-- What a block tag authenticates (R376): the data, the logical reference and the stamp. -/
def blockAad (b : Block) : List Byte := fit 4096 b.data ++ leBytes 8 b.pf.lref ++ leBytes 8 b.pf.stamp

/-- The tag under a slot. -/
def KeySlot.tag (k : KeySlot) (counter : Nat) (aad : List Byte) : List Byte := gmac k.key (k.salt * 2 ^ 64 + counter) aad

/-- The tag of a block under a slot, as the number that its field holds. -/
def KeySlot.blockTag (k : KeySlot) (strip row : Nat) (b : Block) : Nat :=
  leNat (k.tag (blockCounter b.pf.wseq strip row) (blockAad b))

/-! ## Use of a slot (R382, R383) -/

/-- Whether the module is the shelf's active one (R402): ACTIVE, HANDOVER until ACT_OWN is released, or TAKEOVER once it has the
interlock (R409). -/
def Dev.isActive (d : Dev) : Bool :=
  d.fov.role == .active || (d.fov.role == .handover && d.pins.actOwn) || (d.fov.role == .takeover && decide (4 ≤ d.fov.tstep))

/-- Whether the partner link is up. -/
def Dev.partnerUp (d : Dev) : Bool := d.fov.ptlAlive

/-- A key record (R383) as it stands in the metadata. -/
def Dev.putKeyRecord (d : Dev) (k : Nat) (r : Nat × Nat × Nat) : Dev := d.onCve fun c => { c with records := sput (fun _ => (0, 0, 0)) c.records k r }

/-- A key record is written (R383, R556): at once while no array is served, else it waits for its META record. -/
def Dev.recordKey (d : Dev) (k : Nat) (r : Nat × Nat × Nat) : Dev :=
  if d.lay.state = 3 then { d with lay := { d.lay with metas := d.lay.metas ++ [⟨0, .keyCount k r.1 r.2.1 r.2.2, none⟩] } }
  else d.putKeyRecord k r

/-- A slot issues a tag (R382, R383): its usage count rises, with KEY_NEAR at 7/8 of the limit, EXHAUSTED at the limit, a
metadata record at each multiple of 2^20 and the count to the partner at each multiple of 2^16. -/
def Dev.useKey (d : Dev) (k : Nat) : Dev :=
  let s := d.keySlot k
  let n := s.usage + 1
  let d := (d.setKeySlot k { s with usage := n, state := if s.limit ≤ n then 2 else s.state }).countCve 0 1
  let d := d.when (decide (8 * n ≥ 7 * s.limit ∧ 8 * s.usage < 7 * s.limit)) fun d => d.raise 0x1EA
  let d := d.when (decide (s.limit ≤ n)) fun d => d.raise 0x1E9
  let d := d.when (n % 2 ^ 20 == 0) fun d => d.recordKey k (s.salt, s.kcv, n)
  d.when (n % 2 ^ 16 == 0 && d.isActive && d.partnerUp) fun d => d.emit (.partnerCount k n)

end Sys2Proof.Machine
end

