-- ==== Sys2Proof/Machine/Operands.lean ====
section
/-! DEFINITION. The operand forms of the commands: parameter fields with their clamps and the clamp report (R85 to R87), the
opcode directory (R77), headers as bytes (R64, R68), replies and how they leave (R69 to R71, R484), and sessions. -/

namespace Sys2Proof.Machine

/-! ## Fields and clamps -/

/-- An entry of a clamp report (R86). -/
structure ClampEntry where
  byte : Nat
  bit : Nat
  width : Nat
  reason : Nat
  requested : Nat
  applied : Nat
  deriving DecidableEq, Repr

/-- The value of the field of `width` bits at bit `bt` of the little-endian value that starts at byte `off` (R86). -/
def paramBits (p : List Byte) (off bt width : Nat) : Nat := bits (fieldAt p off (ceilDiv (bt + width) 8)) bt width

/-- A value field clamped into its range, with its report entry: reason 1 below the minimum, 2 above the maximum (R85, R86). -/
def clampParam (p : List Byte) (off bt width lo hi : Nat) : Nat × List ClampEntry :=
  let v := paramBits p off bt width
  if v < lo then (lo, [⟨off, bt, width, 1, v, lo⟩])
  else if hi < v then (hi, [⟨off, bt, width, 2, v, hi⟩])
  else (v, [])

/-- Reserved bits inside a value field: cleared, reported with reason 4 (R85; DEDUCED: assumption log, entry 10). -/
def reservedParam (p : List Byte) (off bt width : Nat) : List ClampEntry :=
  let v := paramBits p off bt width
  if v = 0 then [] else [⟨off, bt, width, 4, v, 0⟩]

/-- A field replaced by `app`, reported with `reason` when that changes it. -/
def replaceParam (p : List Byte) (off bt width reason app : Nat) : List ClampEntry :=
  let v := paramBits p off bt width
  if v = app then [] else [⟨off, bt, width, reason, v, app⟩]

/-- An entry of the report as bytes. -/
def ClampEntry.bytes (e : ClampEntry) : List Byte :=
  leBytes 2 e.byte ++ leBytes 1 e.bit ++ leBytes 1 e.width ++ leBytes 1 e.reason ++ leBytes 3 0 ++ leBytes 8 e.requested
    ++ leBytes 8 e.applied

/-- The clamp report in `room` bytes: entries that would not fit are counted as omitted, the highest in order (R86, R87). -/
def clampReport (room : Nat) (l : List ClampEntry) : List Byte :=
  let k := min l.length ((room - 8) / 24)
  leBytes 2 k ++ leBytes 2 (l.length - k) ++ leBytes 4 0 ++ ((l.take k).map ClampEntry.bytes).flatten

/-! ## Opcodes -/

/-- What the directory and the chapters say of an opcode: the parameter bytes that version 1.0 defines, and the marks S, C,
D and Q of R77. -/
structure OpInfo where
  len : Nat
  long : Bool
  cancel : Bool
  deadline : Bool
  quiet : Bool
  deriving DecidableEq, Repr

/-- A plain opcode. -/
def opPlain (len : Nat) : Option OpInfo := some ⟨len, false, false, false, false⟩

/-- A long operation; `c` says whether it may be cancelled. -/
def opLong (len : Nat) (c : Bool) : Option OpInfo := some ⟨len, true, c, false, false⟩

/-- A deadline opcode. -/
def opDue (len : Nat) : Option OpInfo := some ⟨len, false, false, true, false⟩

/-- The opcode directory (R77) with the parameter lengths of the owning chapters; `none` for an opcode that is no request. -/
def opInfo (op : Nat) : Option OpInfo :=
  match op with
  | 0x0000 => opPlain 0
  | 0x0001 => opPlain 8
  | 0x0002 => opPlain 0
  | 0x0003 => opPlain 0
  | 0x0004 => opPlain 8
  | 0x0005 => opPlain 8
  | 0x0006 => opPlain 8
  | 0x0007 => opPlain 8
  | 0x0100 => opPlain 8
  | 0x0101 => opLong 8 false
  | 0x0102 => opPlain 8
  | 0x0103 => opLong 8 false
  | 0x0104 => opPlain 8
  | 0x0105 => opPlain 8
  | 0x0106 => opPlain 8
  | 0x0107 => opLong 8 false
  | 0x0108 => opPlain 8
  | 0x0200 => opDue 40
  | 0x0201 => opDue 8
  | 0x0202 => opDue 48
  | 0x0203 => opPlain 8
  | 0x0300 => opPlain 24
  | 0x0301 => opPlain 8
  | 0x0302 => opPlain 8
  | 0x0303 => opPlain 32
  | 0x0304 => opPlain 8
  | 0x0305 => opPlain 8
  | 0x0400 => opLong 24 false
  | 0x0401 => opPlain 0
  | 0x0402 => opPlain 8
  | 0x0403 => opLong 8 false
  | 0x0404 => opPlain 8
  | 0x0405 => opPlain 8
  | 0x0406 => opPlain 8
  | 0x0500 => opPlain 8
  | 0x0501 => opLong 16 true
  | 0x0502 => opPlain 8
  | 0x0503 => opPlain 8
  | 0x0504 => opPlain 8
  | 0x0505 => opLong 16 false
  | 0x0506 => opLong 8 true
  | 0x0600 => opPlain 8
  | 0x0601 => opLong 8 false
  | 0x0602 => opPlain 248
  | 0x0603 => opPlain 8
  | 0x0604 => opPlain 8
  | 0x0605 => opLong 8 false
  | 0x0606 => opLong 32 true
  | 0x0607 => opLong 32 false
  | 0x0608 => opPlain 8
  | 0x0609 => opPlain 8
  | 0x0700 => opPlain 0
  | 0x0701 => opPlain 24
  | 0x0702 => opPlain 8
  | 0x0703 => some ⟨16, false, false, false, true⟩
  | 0x0704 => opPlain 8
  | 0x0800 => opPlain 56
  | 0x0801 => opPlain 8
  | 0x0802 => opPlain 8
  | 0x0803 => opPlain 8
  | 0x0900 => opPlain 16
  | 0x0901 => opPlain 0
  | 0x0902 => opLong 8 false
  | 0x0A00 => opPlain 72
  | 0x0A01 => opPlain 64
  | 0x0A02 => opPlain 8
  | 0x0A03 => opPlain 8
  | 0x0A04 => opPlain 8
  | 0x0A05 => opPlain 8
  | 0x0A06 => opPlain 8
  | 0x0A07 => opPlain 8
  | 0x0A08 => opPlain 8
  | 0x0A09 => opLong 8 false
  | 0x0B00 => opPlain 8
  | 0x0B01 => opPlain 8
  | 0x0B02 => opPlain 8
  | 0x0C00 => opPlain 0
  | 0x0C01 => opLong 8 true
  | 0x0C02 => opPlain 8
  | 0x0C03 => opPlain 8
  | 0x0C04 => opLong 8 true
  | _ => none

/-- The opcodes whose names end in _QUERY (R73 steps 6 and 9). -/
def isQuery (op : Nat) : Bool :=
  op ∈ [0x0003, 0x0007, 0x0102, 0x0108, 0x0203, 0x0302, 0x0401, 0x0402, 0x0406, 0x0502, 0x0504, 0x0609, 0x0700, 0x0803, 0x0901,
    0x0A05, 0x0A07, 0x0A08, 0x0C00]

/-- The counted list of an opcode (R554): bytes of the fixed part, bytes of an entry, and the count after its clamp. -/
def countedList (op : Nat) (p : List Byte) : Option (Nat × Nat × Nat) :=
  match op with
  | 0x0B00 => some (8, 4, clampNat 1 2000 (fieldAt p 0 2))
  | 0x0B01 => some (8, 8, clampNat 1 1000 (fieldAt p 0 2))
  | 0x0B02 => some (8, 16, clampNat 1 500 (fieldAt p 0 2))
  | 0x0702 => some (8, 8, clampNat 1 (64 - clampNat 0 63 (fieldAt p 0 1)) (fieldAt p 1 1))
  | 0x0603 => some (8, 8, clampNat 1 (min 1019 (1024 - clampNat 0 1023 (fieldAt p 0 2))) (fieldAt p 2 2))
  | 0x0A03 => some (8, 16, clampNat 1 (256 - clampNat 0 255 (fieldAt p 0 2)) (fieldAt p 2 2))
  | 0x0A06 => some (8, 8, clampNat 1 (64 - clampNat 0 63 (fieldAt p 0 1)) (fieldAt p 1 1))
  | _ => none

/-- The PLEN that a request needs (R73 step 5, R554). -/
def plenRequired (op : Nat) (i : OpInfo) (p : List Byte) : Nat :=
  match countedList op p with
  | some (fixed, each, n) => if 8 * (p.length / 8) < fixed then fixed / 8 else ceilDiv (fixed + each * n) 8
  | none => ceilDiv i.len 8

/-! ## Headers as bytes -/

/-- The request as the bytes that its CRC covers: the header of R64 with the CRC bytes zero, then the parameter area. -/
def packetBytes (op : Nat) (p : Packet) : List Byte :=
  [p.version, p.flags] ++ leBytes 2 op ++ leBytes 4 p.tag ++ leBytes 3 p.pid ++ leBytes 1 p.livery ++ leBytes 2 p.generation
    ++ leBytes 2 p.plen ++ leBytes 8 p.due ++ leBytes 4 p.reserved ++ leBytes 4 0 ++ fit (8 * p.plen) p.params

/-- The CRC-32C that a request must carry (R66). -/
def packetCrc (op : Nat) (p : Packet) : Nat := crc32c (packetBytes op p)

/-- The ORD flag of a request (R64). -/
def hasOrd (p : Packet) : Bool := bit p.flags.toNat 0

/-- The ACKREQ flag of a request (R64). -/
def hasAckReq (p : Packet) : Bool := bit p.flags.toNat 1

/-- The STEP flag of a request (R64). -/
def hasStep (p : Packet) : Bool := bit p.flags.toNat 2

/-- The DUE flag of a request (R64). -/
def hasDue (p : Packet) : Bool := bit p.flags.toNat 3

/-- The reply as the bytes that its CRC covers (R68). -/
def Reply.bytes (r : Reply) : List Byte :=
  [r.version] ++ leBytes 1 r.flags ++ leBytes 2 r.opcode ++ leBytes 4 r.tag ++ leBytes 2 r.status ++ leBytes 2 r.detail
    ++ leBytes 2 r.generation ++ leBytes 2 (r.payload.length / 8) ++ leBytes 8 r.completion ++ leBytes 4 r.cookie ++ leBytes 4 0
    ++ r.payload

/-- The CRC-32C that a reply carries (R66). -/
def Reply.crcOf (r : Reply) : Nat := crc32c r.bytes

/-! ## Replies leave -/

/-- A reply or event packet into a mailbox reply ring (R484): into slot PI mod 8 while PI − CI < 8, with MBX_REPLYr; it waits
in reply order otherwise. -/
def Dev.ringReply (d : Dev) (r : Nat) (x : Reply) : Dev :=
  let w := d.raw (Reg.mepRingRsp + 16 * r)
  let pi := bits w 0 16
  let put (f : Ring → Ring) (d : Dev) : Dev := { d with mep := { d.mep with rings := d.mep.rings.modify r f } }
  if (pi + 65536 - bits w 16 16) % 65536 < 8 ∧ ((d.mep.rings.getD r Ring.empty).waiting = []) then
    (((put (fun g => { g with rspSlots := (pi % 8, x) :: dropAt (·.1) (pi % 8) g.rspSlots }) d).setFld
      (Reg.mepRingRsp + 16 * r) 0 16 (pi + 1)).bump 0x0F 0 1 1).raise (0x0C0 + r)
  else put (fun g => { g with waiting := g.waiting ++ [x] }) d

/-- A reply or event packet leaves on its transport (R57). -/
def Dev.send (d : Dev) (x : Reply) : Dev :=
  match x.dst.transport with
  | .mailbox => d.ringReply x.dst.key x
  | _ => d.emit (.reply x)

/-! ## Sessions and commands in progress -/

/-- The open session of an endpoint (R57, R61). -/
def Dev.sessionAt (d : Dev) (src : Endpoint) : Option Session :=
  d.cp.sessions.find? fun s => s.src.transport == src.transport && s.src.key == src.key

/-- An open session by number. -/
def Dev.session? (d : Dev) (n : Nat) : Option Session := d.cp.sessions.find? fun s => s.id == n

/-- `f` applied to session `n`. -/
def Dev.onSession (d : Dev) (n : Nat) (f : Session → Session) : Dev :=
  { d with cp := { d.cp with sessions := modifyAt Session.id n f d.cp.sessions } }

/-- `f` applied to the command in progress with number `id`. -/
def Dev.onCmd (d : Dev) (id : Nat) (f : Cmd → Cmd) : Dev :=
  { d with cp := { d.cp with cmds := modifyAt Cmd.id id f d.cp.cmds } }

/-- A command in progress by number. -/
def Dev.cmd? (d : Dev) (id : Nat) : Option Cmd := findAt Cmd.id id d.cp.cmds

/-- The command is no longer in progress. -/
def Dev.dropCmd (d : Dev) (id : Nat) : Dev := { d with cp := { d.cp with cmds := dropAt Cmd.id id d.cp.cmds } }

/-- `f` applied to livery `n`. -/
def Dev.onLivery (d : Dev) (n : Nat) (f : Livery → Livery) : Dev :=
  { d with lvy := { d.lvy with liveries := modifyAt Livery.num n f d.lvy.liveries } }

/-- The livery number that stands for a failed livery check: the reply then carries generation 0 (R68). -/
abbrev noLivery : Nat := 256

/-- A livery counter (R228). -/
def Dev.countLivery (d : Dev) (n item k : Nat) : Dev := if n < noLivery then d.bump 0x24 n item k else d

/-- Whether LVY_CFG.AUTH_REQ of livery `n` is set (R72). -/
def Dev.authRequired (d : Dev) (n : Nat) : Bool := match d.livery? n with | some l => l.config.getD 1 0 == 1 | none => false

/-- The reply that R68 builds from a command, a status and a payload. `last` is LAST, `clamps` the command's clamp report
(R87: a reply that would be DONE is DONE_CLAMPED), `cookie` the step cookie. -/
def Dev.buildReply (d : Dev) (c : Cmd) (status detail : Nat) (payload : List Byte) (clamps : List ClampEntry) (last : Bool)
    (cookie : Nat) : Reply :=
  let body := padTo 8 payload
  { dst := c.pkt.src
    session := c.session
    version := if status = 0x8002 then 0x10 else c.pkt.version
    flags := b2n last + 2 * b2n (!clamps.isEmpty)
    opcode := c.op
    tag := c.pkt.tag
    status := if status = 0 ∧ !clamps.isEmpty then 1 else status
    detail := if detail = 0 ∧ status < 0x8000 then c.detail else detail
    generation := d.generation c.livery
    completion := d.now
    cookie := cookie
    payload := if clamps.isEmpty then body
      else body ++ clampReport (8160 - (if c.auth.isSome then 24 else 0) - body.length) clamps }

/-- The reply cache of a UDP session keeps the last 64 replies it has sent (R63). -/
def Session.keepReply (s : Session) (tag : Nat) (crc : Word) (r : Reply) : Session :=
  if s.src.transport = .udp then { s with cache := (⟨tag, crc, r⟩ :: s.cache).take 64 } else s

/-- Whether a reply to `c` is sent at all: its session is still the one it came in (R62), and the livery's generation has
not advanced since acceptance (R71, R218). -/
def Dev.sessionStands (d : Dev) (c : Cmd) : Bool :=
  match c.session with
  | some n => (d.session? n).isSome
  | none => true

/-- The slot that signs a reply (R390): the one the request named, or its successor once it is exhausted. -/
def Dev.signSlot (d : Dev) (k : Nat) : Option Nat :=
  let s := d.keySlot k
  if !d.keysUsable then none
  else if s.state = 1 ∧ s.role = 1 then some k
  else if s.state = 2 ∧ s.succ < 64 ∧ (d.keySlot s.succ).state = 1 ∧ (d.keySlot s.succ).role = 1 then some s.succ
  else none

/-- A reply with the authentication trailer of R72. -/
def Reply.signed (r : Reply) (k : Nat) (s : KeySlot) : Reply :=
  let t := { r with flags := r.flags + 8, payload := r.payload ++ leBytes 8 k }
  { t with payload := t.payload ++ s.tag (packetCounter true r.tag) (({ t with payload := r.payload ++ List.replicate 24 0 }.bytes).take 32 ++ r.payload) }

/-- The reply to an authenticated request carries a trailer, and the tag counts as a use of its slot (R72, R382). -/
def Dev.signReply (d : Dev) (c : Cmd) (r : Reply) : Dev × Reply :=
  match c.auth.bind d.signSlot with
  | some k => (d.useKey k, r.signed k (d.keySlot k))
  | none => (d, r)

/-- A formed reply is sent, or discarded under R71 and counted in REPLY_DISCARD with GEN_DISCARD, or discarded under R62. -/
def Dev.sendReply (d : Dev) (c : Cmd) (r : Reply) : Dev :=
  if c.livery < noLivery ∧ d.generation c.livery ≠ c.generation then (d.countLivery c.livery 1 1).raise 0x157
  else if d.sessionStands c then
    let x := d.signReply c r
    let d := match c.session with
      | some n => x.1.onSession n fun s => s.keepReply c.pkt.tag c.pkt.crc x.2
      | none => x.1
    (d.send x.2).sample 9 c.livery (toUs (d.q - c.arrived))
  else d

/-- The command ends at RTS `rts` with a reply that has LAST set (R69, R70): an opcode marked Q replies only with ACKREQ. -/
def Dev.finishAt (d : Dev) (c : Cmd) (status detail : Nat) (payload : List Byte) (clamps : List ClampEntry) (rts : Nat) : Dev :=
  let quiet := (match opInfo c.op with | some i => i.quiet | none => false) && !(hasAckReq c.pkt)
  let d := if quiet then d
    else d.sendReply c { d.buildReply c status detail payload clamps true 0 with completion := rts }
  d.dropCmd c.id

/-- The command ends in the present quantum. -/
def Dev.finishWith (d : Dev) (c : Cmd) (status detail : Nat) (payload : List Byte) (clamps : List ClampEntry) : Dev :=
  d.finishAt c status detail payload clamps d.now

/-- The command ends DONE with a payload. -/
def Dev.done (d : Dev) (c : Cmd) (payload : List Byte) : Dev := d.finishWith c 0 0 payload []

/-- The command ends DONE, or DONE_CLAMPED with its clamp report. -/
def Dev.doneClamped (d : Dev) (c : Cmd) (payload : List Byte) (l : List ClampEntry) : Dev := d.finishWith c 0 0 payload l

/-- The command fails with a status and a detail, and has no effect (R74). -/
def Dev.fail (d : Dev) (c : Cmd) (status detail : Nat) : Dev := d.finishWith c status detail [] []

/-- RANGE_FAULT naming the field at byte `off` (R76). -/
def Dev.rangeFault (d : Dev) (c : Cmd) (off : Nat) : Dev := d.fail c 0x8008 (0x1000 + off)

/-- The parameter area that a command carries: surplus and padding ignored, missing bytes zero (R67). -/
def Cmd.par (c : Cmd) (off k : Nat) : Nat := fieldAt c.pkt.params off k

/-! ## Long operations (R88 to R97) -/

/-- How a step ends: it goes on with new progress, it finishes the operation, or it waits for a condition (R557). -/
inductive StepEnd where
  | more (prog : List Nat)
  | done (status detail : Nat) (payload : List Byte)
  | waits (prog : List Nat)
  deriving DecidableEq, Repr

/-- A long operation by slot. -/
def Dev.longOp? (d : Dev) (slot : Nat) : Option LongOp := findAt LongOp.slot slot d.cp.longOps

/-- `f` applied to the long operation in `slot`. -/
def Dev.onLong (d : Dev) (slot : Nat) (f : LongOp → LongOp) : Dev :=
  { d with cp := { d.cp with longOps := modifyAt LongOp.slot slot f d.cp.longOps } }

/-- The latest cookie of an operation (R91). -/
def LongOp.cookie (l : LongOp) : Nat := l.slot * 2 ^ 24 + (l.use % 256) * 2 ^ 16 + l.step % 65536

/-- The quantum at which the cookie hold of an operation that now waits for its host ends (R94). -/
def Dev.holdEnd (d : Dev) : Nat := d.q + quantaMs (1000 * d.fld Reg.cmdCookieHold 0 12)

/-- The command that waits for the running step of slot `slot`: the STEP_CONTINUE or the request that asked for it. -/
def Dev.stepWaiter (d : Dev) (slot : Nat) : Option Cmd :=
  d.cp.cmds.find? fun c => c.phase == .running && c.aux.take 2 == [slot, 1]

/-- Clamp entries as numbers, six for each, as the command that waits for its first step keeps them. -/
def clampsToNats (l : List ClampEntry) : List Nat :=
  (l.map fun e => [e.byte, e.bit, e.width, e.reason, e.requested, e.applied]).flatten

/-- The clamp entries that `clampsToNats` wrote. -/
def natsToClamps : List Nat → List ClampEntry
  | a :: b :: c :: d :: e :: f :: t => ⟨a, b, c, d, e, f⟩ :: natsToClamps t
  | _ => []

/-- The LONGOP_DONE payload bytes 24 to 47 (R447). -/
def longopBytes (l : LongOp) (status detail rts : Nat) : List Byte :=
  leBytes 2 l.op ++ leBytes 2 0 ++ leBytes 4 l.pkt.tag ++ leBytes 2 status ++ leBytes 2 detail ++ leBytes 8 rts ++ leBytes 4 0

/-- The final status of an operation whose parameters were clamped: DONE becomes DONE_CLAMPED (R90). -/
def LongOp.finalStatus (l : LongOp) (status : Nat) : Nat := if status = 0 ∧ l.clamped then 1 else status

/-- A completed operation leaves its slot (R95). -/
def Dev.freeLong (d : Dev) (slot : Nat) : Dev :=
  { d with cp := { d.cp with longOps := dropAt LongOp.slot slot d.cp.longOps } }

/-- A STEP_CANCEL that waits for operation `l`, which runs in the background, to end (R94) replies. -/
def Dev.cancelReplies (d : Dev) (l : LongOp) (payload : List Byte) : Dev :=
  d.forEach (d.cp.cmds.filter fun c => c.phase == .running && c.aux == [l.slot, 2]) fun d c => d.finishWith c 0 0x0303 payload []

/-- A long operation ends (R89, R90, R96): in the reply of the command that waits for its step, or by LONGOP_DONE to the
session that started it. A generation that advanced since then discards the report (R218). -/
def Dev.endLong (d : Dev) (l : LongOp) (status detail : Nat) (payload : List Byte) : Dev :=
  let st := l.finalStatus status
  let d := d.cancelReplies l payload
  match d.stepWaiter l.slot with
  | some c => (d.freeLong l.slot).finishWith c st detail payload (natsToClamps (c.aux.drop 2))
  | none =>
    let d := d.freeLong l.slot
    if d.generation l.livery ≠ l.generation then (d.countLivery l.livery 2 1).raise 0x157
    else d.raiseLongop l.livery (longopBytes l st detail d.now) l.session

/-- What follows a step (R89, R90): a stepped operation answers STEPPED with a new cookie and its hold starts; a finished
one ends; one that waits stays where it is. -/
def Dev.afterStep (d : Dev) (slot : Nat) (e : StepEnd) : Dev :=
  match d.longOp? slot with
  | none => d
  | some l =>
    match e with
    | .waits p => d.onLong slot fun l => { l with prog := p }
    | .done st det pay => d.endLong l st det pay
    | .more p =>
      match d.stepWaiter slot with
      | none => d.onLong slot fun l => { l with prog := p }
      | some c =>
        let l' := { l with prog := p, step := l.step % 65536 + 1, holdAt := some d.holdEnd }
        let d := d.onLong slot fun _ => l'
        (d.sendReply c (d.buildReply c 2 0 [] (natsToClamps (c.aux.drop 2)) false l'.cookie)).dropCmd c.id

/-- A long operation of opcode and target `t` is accepted (R89, R90, R95): it takes a free slot, or fails with
RESOURCE_LIMIT 0x0002; an active one of the same opcode and target holds it back; with STEP clear it answers ACCEPTED. -/
def Dev.acceptLong (d : Dev) (c : Cmd) (t : Nat) (clamps : List ClampEntry) (prog : List Nat) : Dev :=
  match freeKey LongOp.slot d.cp.longOps 256 0 with
  | none => ((d.setFld Reg.cmdErr 1 1 1).raise 0x01C).fail c 0x800B 0x0002
  | some slot =>
    let use := (sget (fun _ => 0) d.cp.uses slot + 1) % 256
    let busy := d.cp.longOps.any fun l => l.op == c.op && l.target == t
    let l : LongOp :=
      { slot := slot, use := use, step := 0, op := c.op, pkt := c.pkt, session := c.session, livery := c.livery,
        generation := c.generation, target := t,
        mode := if busy then .heldBack else if hasStep c.pkt then .stepped else .background,
        holdAt := none, cancel := false, clamped := !clamps.isEmpty, prog := prog }
    let d := { d with cp := { d.cp with
      uses := sput (fun _ => 0) d.cp.uses slot use, longOps := d.cp.longOps ++ [l] } }
    if hasStep c.pkt then d.onCmd c.id fun c => { c with aux := [slot, 1] ++ clampsToNats clamps, phase := .running }
    else (d.sendReply c (d.buildReply c 4 0 [] clamps false 0)).dropCmd c.id

end Sys2Proof.Machine
end

