-- ==== Sys2Proof/Machine/Ladder.lean ====
section
/-! DEFINITION. The drain ladder (R418 to R428): what each pool holds, the admission rule, waiting requests and stalls. -/

namespace Sys2Proof.Machine

/-- The unit use of an explicitly counted pool. -/
def Dev.setUse (d : Dev) (p n : Nat) : Dev := { d with drl := { d.drl with use := sput (fun _ => 0) d.drl.use p n } }

/-- After pool `p` gave out units: its highest use, HDRM_EMPTY when its headroom is wholly taken (R423), LADDER_SATURATED
when every level from 1 to 5 is full (R427). -/
def Dev.notePool (d : Dev) (p : Nat) : Dev :=
  let d := { d with drl := { d.drl with
    peak := sput (fun _ => 0) d.drl.peak p (max (sget (fun _ => 0) d.drl.peak p) (d.poolUse p)) } }
  let d := if d.poolHfree p == 0 && decide (0 < d.poolHdrm p) then (d.bump 0x38 p 4 1).raise 0x1F1 else d
  if [1, 2, 3, 4, 5].all d.levelFull then d.raise 0x1F4 else d

/-- `n` units of pool `p` are taken: FRESH_GRANTS, or HDRM_GRANTS when they came out of headroom. -/
def Dev.take (d : Dev) (p n : Nat) : Dev :=
  let fromHdrm := decide (d.poolGeneral p < n)
  ((d.setUse p (sget (fun _ => 0) d.drl.use p + n)).bump 0x38 p (if fromHdrm then 1 else 0) 1).notePool p

/-- `n` units of pool `p` are released; the headroom refills first (R421). -/
def Dev.release (d : Dev) (p n : Nat) : Dev := d.setUse p (sget (fun _ => 0) d.drl.use p - n)

/-- A request waits for pool `p` on behalf of `who`, once (R423). A fresh one sets BLOCKED and starts its level's stall
timer (R427). -/
def Dev.waitFor (d : Dev) (p : Nat) (descending : Bool) (who : Nat) : Dev :=
  if d.drl.waits.any fun w => w.pool == p && w.who == who then d
  else
    let k := poolLevel p
    let fresh := !descending && !(d.drl.waits.any fun w => !w.descending && poolLevel w.pool == k)
    { d with drl := { d.drl with
        waits := d.drl.waits ++ [⟨p, descending, d.q, who⟩]
        stallAt := if fresh then sput (fun _ => none) d.drl.stallAt k (some (d.q + quantaMs (d.fld Reg.drlCtl 0 16)))
          else d.drl.stallAt } }

/-- A waiting request is granted or given up: its wait is counted in control-fabric cycles, and BLOCKED clears with the last
fresh request of its level (R427). -/
def Dev.endWait (d : Dev) (p who : Nat) : Dev :=
  match d.drl.waits.find? fun w => w.pool == p && w.who == who with
  | none => d
  | some w =>
    let d := { d with drl := { d.drl with waits := d.drl.waits.filter fun x => !(x.pool == p && x.who == who) } }
    let d := d.bump 0x38 p (if w.descending then 3 else 2) ((d.q - w.since) * 5 / 4)
    if d.drl.waits.any fun x => !x.descending && poolLevel x.pool == poolLevel p then d
    else { d with drl := { d.drl with stallAt := sput (fun _ => none) d.drl.stallAt (poolLevel p) none } }

/-- Whether an earlier request of the same kind, or a descending one for a fresh request, waits for pool `p` before `who`
(R423). -/
def Dev.earlierWait (d : Dev) (p who : Nat) (descending : Bool) : Bool :=
  ((d.drl.waits.filter fun w => w.pool == p).takeWhile fun w => w.who != who).any fun w => w.descending == descending
    || (w.descending && !descending)

/-- Takes `n` units of pool `p` for `who` if the rules grant them now, else leaves the request waiting. The flag says
whether they were granted. -/
def Dev.request (d : Dev) (p n : Nat) (descending : Bool) (who : Nat) : Dev × Bool :=
  if d.mayTake p n descending && !(d.earlierWait p who descending) then ((d.take p n).endWait p who, true)
  else (d.waitFor p descending who, false)

/-- Sets DRL_STATUS.CTRL_LOW as it now stands and raises CTRL_RES_LOW when it becomes set (R425). -/
def Dev.noteControl (d : Dev) : Dev :=
  let low := d.controlLow
  let d' := { d with drl := { d.drl with ctrlLow := low } }
  if low && !d.drl.ctrlLow then d'.raise 0x1F2 else d'

/-- A snapshot of pool `p` into the pool registers (DRL_POOL_IDX). -/
def Dev.poolSnap (d : Dev) (p : Nat) : Dev :=
  { d with drl := { d.drl with snapPool := p, snap := [d.poolCap p, d.poolUse p, d.poolHfree p, sget (fun _ => 0) d.drl.peak p] } }

/-- LEVEL_STALL (R427): BLOCKED[k] has been set for STALL_MS; a grant in the quantum of expiry would have ended the wait. -/
def execLevelStall (level : Nat) (s : State) : Host.Outcome State Fault Refusal :=
  s.run (decide (1 ≤ level) && decide (level < 6)) fun d =>
    match sget (fun _ => none) d.drl.stallAt level with
    | some t =>
      let d := { d with drl := { d.drl with stallAt := sput (fun _ => none) d.drl.stallAt level none } }
      (d.upTo t).raise 0x1F0
    | none => d

end Sys2Proof.Machine
end

