-- ==== Sys2Proof/Machine/Ruling.lean ====
section
/-! DEFINITION. Ruling (R30 to R56, R555): geometry, windows, epochs and due times, reference sources and lock states. -/

namespace Sys2Proof.Machine

/-- `f` applied to Ruling's state. -/
def Dev.onRul (d : Dev) (f : Rul → Rul) : Dev := { d with rul := f d.rul }

/-! ## Geometry -/

/-- The geometry clamps of R34, in their order. -/
def clampGeometry (num den lpf : Nat) : Geometry :=
  let lpf := clampNat 1 16383 lpf
  let num := max num 1
  let den := max den 1
  let short := decide (den * 1000000000 < 16 * num * lpf)
  let lpf := if short then max 1 (den * 1000000000 / (num * 16)) else lpf
  let den := if short ∧ den * 1000000000 < 16 * num then ceilDiv (num * 16) 1000000000 else den
  let long := decide (num * lpf < den)
  let lpf := if long then min 16383 (ceilDiv den num) else lpf
  let num := if long ∧ num * lpf < den then ceilDiv den 16383 else num
  ⟨num, den, lpf⟩

/-- The geometry that the registers ask for, after R34. -/
def Dev.geoAsked (d : Dev) : Geometry :=
  clampGeometry (d.raw Reg.rulRateNum) (d.raw Reg.rulRateDen) (d.fld Reg.rulLpf 0 14)

/-- The geometry against which sources are judged: the new one from a re-lock on (R35). -/
def Rul.judged (r : Rul) : Geometry := r.nextGeo.getD r.geo

/-- A nominal frame period in quanta times `num`, to keep it exact: 8·10^8 × DEN. -/
def Geometry.periodNum (g : Geometry) : Nat := 800000000 * g.den

/-- `k`/2 nominal frame periods in quanta, rounded up. -/
def Geometry.halfPeriods (g : Geometry) (k : Nat) : Nat := ceilDiv (g.periodNum * k) (2 * max g.num 1)

/-- The nominal rate in the units of `anchorAcc`. -/
def Geometry.rate (g : Geometry) : Nat := 16384 * g.num * g.lpf * 1000000

/-- One line in quanta, rounded down, at least 1. -/
def Geometry.lineQuanta (g : Geometry) : Nat := max 1 (g.periodNum / max (g.num * g.lpf) 1)

/-! ## Windows (R50 to R53) -/

/-- The shadow bank replaced. -/
def Rul.setShadow (r : Rul) (t : Table WinEntry) : Rul := if r.bank then { r with bank0 := t } else { r with bank1 := t }

/-- An entry's start line. -/
def WinEntry.start (e : WinEntry) : Nat := bits e.lines.toNat 0 14

/-- An entry's effective end: LPF when its end is 0 or at or above LPF (R51). -/
def WinEntry.stop (e : WinEntry) (lpf : Nat) : Nat :=
  let n := bits e.lines.toNat 16 14
  if n = 0 ∨ lpf ≤ n then lpf else n

/-- An entry's VALID bit. -/
def WinEntry.valid (e : WinEntry) : Bool := bit e.lines.toNat 31

/-- A valid entry that is ignored: its start is not below its effective end (R51). -/
def WinEntry.bad (e : WinEntry) (lpf : Nat) : Bool := e.valid && decide (e.stop lpf ≤ e.start)

/-- The windows of class `cls` in a bank, as line pairs [start, end). -/
def windowsOf (t : Table WinEntry) (lpf cls : Nat) : List (Nat × Nat) :=
  (List.range 64).filterMap fun i =>
    let e := sget bankDflt t i
    if e.valid && !(e.bad lpf) && bit e.mask.toNat cls then some (e.start, e.stop lpf) else none

/-- Whether a class is open in the present quantum (R45, R51). -/
def Dev.classOpen (d : Dev) (cls : Nat) : Bool :=
  (windowsOf d.rul.active d.rul.geo.lpf cls).any fun w => decide (w.1 ≤ d.line ∧ d.line < w.2)

/-- The line at which the run of windows that contains line `l` ends within its frame; touching windows form one run (R45). -/
def runStop (ws : List (Nat × Nat)) : Nat → Nat → Nat
  | 0, l => l
  | fuel + 1, l => match ws.find? fun w => decide (w.1 ≤ l ∧ l < w.2) with
    | some w => runStop ws fuel w.2
    | none => l

/-- The line at which the run containing line `l` starts. -/
def runStart (ws : List (Nat × Nat)) : Nat → Nat → Nat
  | 0, l => l
  | fuel + 1, l => match ws.find? fun w => decide (w.1 < l ∧ l ≤ w.2) with
    | some w => runStart ws fuel w.1
    | none => l

/-- The start of the present frame, as a position. -/
def Dev.frameBase (d : Dev) : Nat := (d.rul.posAt d.q / d.rul.geo.frameSub) * d.rul.geo.frameSub

/-- The quantum in which line `l`, counted from the start of the present frame, starts. -/
def Dev.lineStart (d : Dev) (l : Nat) : Nat := d.rul.quantumOf (d.frameBase + l * 16384)

/-- The quantum in which the current open run of a class ends (R130); `none` when the class is closed now, or is open for
whole frames without end. -/
def Dev.runEnd (d : Dev) (cls : Nat) : Option Nat :=
  let lpf := d.rul.geo.lpf
  let ws := windowsOf d.rul.active lpf cls
  if d.classOpen cls then
    let e := runStop ws 65 d.line
    if e < lpf then some (d.lineStart e)
    else
      let e2 := runStop ws 65 0
      if lpf ≤ e2 then none else some (d.lineStart (lpf + e2))
  else none

/-- The lines of the run that is open now, from its start to its end (R131). -/
def Dev.runLines (d : Dev) (cls : Nat) : Nat :=
  let ws := windowsOf d.rul.active d.rul.geo.lpf cls
  runStop ws 65 d.line - runStart ws 65 d.line

/-- The quantum at which a class is next open: now, or at the next start of one of its windows. -/
def Dev.nextOpen (d : Dev) (cls : Nat) : Option Nat :=
  if d.classOpen cls then some d.q
  else
    let starts := (windowsOf d.rul.active d.rul.geo.lpf cls).map fun w =>
      if d.line < w.1 then w.1 else w.1 + d.rul.geo.lpf
    match starts with
    | [] => none
    | h :: t => some (max d.q (d.lineStart (t.foldl min h)))

/-- BADWIN of the active bank against the LPF in force; BAD_WIN and BAD_WINDOW when an entry is ignored (R51). -/
def Dev.judgeWindows (d : Dev) : Dev :=
  let n := ((List.range 64).filter fun i => (sget bankDflt d.rul.active i).bad d.rul.geo.lpf).length
  let d := d.onRul fun r => { r with badWin := n }
  if n = 0 then d else (d.setFld Reg.rulErr 2 1 1).raise 0x04C

/-- A table swap (R52, R53, R426): the shadow bank becomes the active one and is checked for COMMIT, PLAY and BHOME
windows; the RUL_TABLE_LOADs that wait for it reply with the frame's first RTS (R55). -/
def Dev.swapTables (d : Dev) : Dev :=
  let d := (d.onRul fun r => { r with bank := !r.bank, swapAt := none }).judgeWindows
  let has (c : Nat) : Bool := !(windowsOf d.rul.active d.rul.geo.lpf c).isEmpty
  let d := d.raise 0x04A
  let d := if has 0 then d else d.setFld Reg.rulErr 0 1 1
  let d := if has 1 then d else d.setFld Reg.rulErr 1 1 1
  let d := if has 0 && has 1 then d else d.raise 0x04B
  let d := { d with drl := { d.drl with noBhome := !(has 2) } }
  let d := if has 2 then d else d.raise 0x1F3
  d.forEach (d.cp.cmds.filter fun c => c.op == 0x0702 && c.phase == .running) fun d c =>
    d.finishAt c 0 0 [] (natsToClamps c.aux) (d.rul.geo.rts d.rul.epoch d.frameBase)

/-- The first quantum of the next frame. -/
def Dev.nextFrame (d : Dev) : Nat := d.rul.quantumOf (d.frameBase + d.rul.geo.frameSub)

/-- A swap request (R52): it takes effect at the next frame start; a request while one is pending joins it. -/
def Dev.requestSwap (d : Dev) : Dev :=
  match d.rul.swapAt with
  | some _ => d
  | none => d.onRul fun r => { r with swapAt := some d.nextFrame }

/-- COPY: the active bank into the shadow bank. -/
def Dev.copyTables (d : Dev) : Dev := d.onRul fun r => r.setShadow r.active

/-! ## Epochs and due times (R47 to R49) -/

/-- An RTS of the old epoch of boundary `b` in the new one (R48). -/
def Boundary.convert (b : Boundary) (rts : Nat) : Nat :=
  let go : Geometry := ⟨b.numOld, b.denOld, b.lpfOld⟩
  let gn : Geometry := ⟨b.numNew, b.denNew, b.lpfNew⟩
  let δ := go.distance (go.pos b.ro) (go.pos rts)
  let δn : Int := if go = gn then δ
    else -((-(δ * ((b.denOld * b.numNew * b.lpfNew : Nat) : Int))) / ((b.numOld * b.lpfOld * b.denNew : Nat) : Int))
  let cyc : Int := ((2 ^ 32 * max b.lpfNew 1 * 16384 : Nat) : Int)
  gn.rts (bits b.rn 60 4) (((gn.pos b.rn : Int) + δn) % cyc).toNat

/-- Steps from the epoch that an RTS names to the present one, modulo 16 (R49). -/
def Dev.epochsBehind (d : Dev) (rts : Nat) : Nat := (d.rul.epoch % 16 + 16 - bits rts 60 4) % 16

/-- An RTS in the present epoch, or `none` on the last row of R49. -/
def Dev.toPresent (d : Dev) (rts : Nat) : Option Nat :=
  let k := d.epochsBehind rts
  if k = 0 then some rts
  else if k ≤ 4 ∧ k ≤ d.rul.epochChanges then
    some (((d.rul.boundaries.take k).reverse).foldl (fun r b => b.convert r) rts)
  else none

/-- A due time that a packet names (R49): the RTS to use and the reply detail. An unknown epoch is due now, sets
RUL_ERR.EPOCH_UNKNOWN and raises DUE_EPOCH_UNKNOWN. -/
def Dev.convertDue (d : Dev) (rts : Nat) : Nat × Nat × Dev :=
  match d.toPresent rts with
  | some r => (r, if d.epochsBehind rts = 0 then 0 else 0x0201, d)
  | none => (d.now, 0x0202, (d.setFld Reg.rulErr 3 1 1).raise 0x04F)

/-- The due times that the module holds, converted through a boundary in the quantum of the epoch change (R48). -/
def Dev.convertHeld (d : Dev) (b : Boundary) : Dev :=
  { d with
    cp := { d.cp with cmds := d.cp.cmds.map fun c =>
      { c with due := c.due.map b.convert
               phase := match c.phase with | .held r => .held (b.convert r) | p => p } }
    nib := { d.nib with jobs := d.nib.jobs.map fun j => { j with due := j.due.map b.convert } } }

/-- The epoch advances at the present quantum: the timeline takes geometry `g` and position `acc` in its units; a boundary
record is kept (the last four), held due times are converted, EPOCH_CHANGE is raised (R47, R48). -/
def Dev.newEpoch (d : Dev) (g : Geometry) (acc : Nat) : Dev :=
  let r := d.rul
  let epoch := (r.epoch + 1) % 16
  let b : Boundary :=
    { qb := d.q, ro := r.rtsAt d.q, rn := g.rts epoch (acc / g.unit), numOld := r.geo.num, denOld := r.geo.den,
      lpfOld := r.geo.lpf, numNew := g.num, denNew := g.den, lpfNew := g.lpf }
  let d := d.onRul fun r =>
    { r with epoch := epoch, epochChanges := r.epochChanges + 1, geo := g, anchorQ := d.q, anchorAcc := acc, slewPpm := 0,
             boundaries := (b :: r.boundaries).take 4 }
  (d.convertHeld b).raise 0x043

/-! ## Sources (R36 to R40, R44) -/

/-- A source's record by code. -/
def Rul.src (r : Rul) (s : Nat) : RefSource := if s = 0 then r.ptp else if s = 1 then r.house else r.inband

/-- A source's record replaced. -/
def Rul.setSrc (r : Rul) (s : Nat) (x : RefSource) : Rul :=
  if s = 0 then { r with ptp := x } else if s = 1 then { r with house := x } else { r with inband := x }

/-- The source codes in the order that the last re-lock applied, unused places left out (R36, RUL_CTL.RELOCK). -/
def Dev.srcOrder (d : Dev) : List Nat := ([bits d.rul.prio 0 2, bits d.rul.prio 2 2, bits d.rul.prio 4 2]).filter fun s => s < 3

/-- The first source in order that is qualified (R36). -/
def Dev.bestSource (d : Dev) : Option Nat := d.srcOrder.find? fun s => (d.rul.src s).qualified

/-- PTP time at quantum `q` in ns, from the last Sync and the path delay (R37). -/
def Rul.ptpTime (r : Rul) (q : Nat) : Nat :=
  match r.servo.syncAt, r.servo.origin with
  | some t, some o => o + r.servo.delayNs + (q - t) * 5 / 4
  | _, _ => 0

/-- The position of a reference at quantum `q` in geometry `g`, in the units of `anchorAcc` (R37 to R39): PTP from its time,
the others from their last edge or pulse and its frame number. -/
def Rul.refAcc (r : Rul) (g : Geometry) (s q : Nat) : Nat :=
  if s = 0 then
    -- time × NUM ÷ DEN frames, exactly: ns × 16384 × NUM × LPF × 8·10^5 in units of 1/(DEN × 8·10^14) subline
    (r.ptpTime q * 16384 * g.num * g.lpf * 800000) % (2 ^ 32 * g.frameSub * g.unit)
  else
    let x := r.src s
    x.frame * g.frameSub * g.unit + (q - x.last.getD q) * g.rate

/-- The phase error in quanta, reference less timeline, as a signed 32-bit value saturating (RUL_PHASE_ERR). -/
def Dev.phaseError (d : Dev) (s : Nat) : Int :=
  let g := d.rul.geo
  let ref := d.rul.refAcc g s d.q / g.unit
  let δ := g.distance (d.rul.posAt d.q) ref
  let qn : Int := δ * (g.unit : Int) / (max g.rate 1 : Nat)
  max (-2147483648) (min 2147483647 qn)

/-- Whether a phase error of a source is at most one line (R43). -/
def Dev.withinLine (d : Dev) (s : Nat) : Bool :=
  let g := d.rul.geo
  decide ((g.distance (d.rul.posAt d.q) (d.rul.refAcc g s d.q / g.unit)).natAbs ≤ 16384)

/-- The timeline goes on from the present position at a new slew of at most 20 ppm (R43); the manual fixes no slew rate
below that bound, so it is a free value (DESIGN CHOICE: assumption log, entry 4). -/
def Dev.steer (d : Dev) (e : Int) : Dev :=
  let f := d.takeFree
  let mag : Int := ((f.1 % 21 : Nat) : Int)
  let slew : Int := if e = 0 then 0 else if 0 < e then mag else -mag
  f.2.onRul fun r =>
    { r with anchorAcc := r.anchorAcc + (d.q - r.anchorQ) * r.rate, anchorQ := d.q, slewPpm := slew, phaseErr := e }

/-- Entry to HOLDOVER: the timeline goes on at the last servo frequency, a free value within the servo's range
(DESIGN CHOICE: assumption log, entry 4). -/
def Dev.enterHoldover (d : Dev) : Dev :=
  let f := d.takeFree
  let slew : Int := ((f.1 % 41 : Nat) : Int) - 20
  (f.2.onRul fun r =>
    { r with state := .holdover, acqAt := none, held := if r.state = .locked then r.source else r.held,
             anchorAcc := r.anchorAcc + (d.q - r.anchorQ) * r.rate, anchorQ := d.q, slewPpm := slew }).raise 0x041

/-- Every source counts afresh, and ACQ_TIMEOUT counts from here (R40, R41). -/
def Dev.countAfresh (d : Dev) : Dev :=
  d.onRul fun r =>
    { r with state := .acquire, acqAt := some (d.q + quantaMs (d.fld Reg.rulCtl 16 16)),
             ptp := { r.ptp with good := 0, qualified := false }
             house := { r.house with good := 0, qualified := false, badCounts := 0 }
             inband := { r.inband with good := 0, qualified := false } }

/-- Entry to ACQUIRE (R40, R41, R56); while FORCE_HOLD is set, an existing timeline goes on to HOLDOVER. -/
def Dev.enterAcquire (d : Dev) : Dev :=
  let d := if d.rul.state = .holdover then d.countAfresh.raise 0x042 else d.countAfresh
  if d.flag Reg.rulCtl 3 && d.rul.timeline then d.enterHoldover else d

/-- The frame number of the house reference's last edge when it takes the timeline over (R38, R44): that of the nearest frame start
of the timeline it had; without one, the count from the edge that completed qualification. -/
def Dev.houseNumber (d : Dev) : Nat :=
  let h := d.rul.house
  if d.rul.timeline then
    let since := (d.q - h.last.getD d.q) * d.rul.rate / d.rul.geo.unit
    ((d.rul.posAt d.q - since + d.rul.geo.frameSub / 2) / max d.rul.geo.frameSub 1) % 2 ^ 32
  else h.frame

/-- Ruling locks to a source (R41, R43, R44): phase is continued with the epoch kept when it held the same source before
and the error is at most one line; otherwise the timeline steps and the epoch advances. New geometry takes effect here
(R35), and the windows are judged against it (R51). -/
def Dev.lockTo (d : Dev) (s : Nat) : Dev :=
  let wasHold := decide (d.rul.state = .holdover)
  let before := d.rul.source
  let d := if s = 1 then d.onRul fun r => { r with house := { r.house with frame := d.houseNumber } } else d
  let keep := decide (d.rul.held = some s) && d.rul.timeline && decide (d.rul.state ≠ .free) && d.withinLine s
  let e := d.phaseError s
  let d := d.onRul fun r => { r with phaseErr := e }
  let g := d.rul.judged
  let d := if keep then d.steer e else d.newEpoch g (d.rul.refAcc g s d.q)
  let d := d.onRul fun r =>
    { r with state := .locked, source := some s, held := some s, timeline := true, acqAt := none, nextGeo := none }
  let d := if keep then d else d.judgeWindows
  let d := if wasHold then d.raise 0x042 else d
  let d := d.raise 0x040
  match before with
  | some b => if b = s then d else d.raise 0x044
  | none => d

/-- What a qualified source brings about, with FORCE_HOLD clear (R36, R41): a lock from FREE, ACQUIRE or HOLDOVER; while
LOCKED, a switch to a better source when REVERT is 1. -/
def Dev.select (d : Dev) : Dev :=
  if d.flag Reg.rulCtl 3 || !(d.flag Reg.rulCtl 0) then d
  else match d.bestSource with
    | none => d
    | some s =>
      match d.rul.state with
      | .locked =>
        if d.flag Reg.rulCtl 2 && decide (d.rul.source ≠ some s) then
          (d.onRul fun r => { r with held := none }).enterAcquire
        else d
      | _ => d.lockTo s

/-- A source is lost (R40, R41): its event when it was qualified, and HOLDOVER when it is the one selected while LOCKED. Another
source that stands qualified then takes over. -/
def Dev.loseSource (d : Dev) (s : Nat) : Dev :=
  let was := (d.rul.src s).qualified
  let d := d.onRul fun r => r.setSrc s { r.src s with qualified := false, good := 0, last := none, badCounts := 0 }
  let d := if was then d.raise (0x045 + s) else d
  if d.rul.state = .locked ∧ d.rul.source = some s then d.enterHoldover.select else d

/-- A phase error above one line while LOCKED (R41): HOLDOVER, then at once ACQUIRE on the same source. -/
def Dev.disturbed (d : Dev) : Dev := ((d.raise 0x049).enterHoldover).enterAcquire

/-- What a fresh edge, pulse or Sync of source `s` does to the lock: qualification when its count reaches QUAL_FRAMES, and
servo steering while LOCKED on it. -/
def Dev.afterReference (d : Dev) (s : Nat) : Dev :=
  let x := d.rul.src s
  if d.rul.state = .locked ∧ d.rul.source = some s then
    if d.withinLine s then d.steer (d.phaseError s)
    else ((d.onRul fun r => { r with phaseErr := d.phaseError s })).disturbed
  else if !x.qualified && decide (max 1 (d.fld Reg.rulCtl 8 8) ≤ x.good) then
    (d.onRul fun r => r.setSrc s { x with qualified := true, frame := if s = 1 ∧ !r.timeline then 0 else x.frame }).select
  else d

/-! ## House reference (R38, R40) -/

/-- The deadline by which a source must show its next edge, pulse or Sync (R40). -/
def Dev.sourceDeadline (d : Dev) (s : Nat) : Option Nat :=
  let x := d.rul.src s
  x.last.map fun t =>
    if s = 0 then t + d.fld Reg.rulPtpCfg 20 4 * d.rul.servo.interval
    else if s = 1 then t + d.rul.judged.halfPeriods 3
    else t + d.rul.judged.halfPeriods 5

/-- Whether a measured frame period in quanta lies within ±100 ppm of nominal. -/
def Geometry.periodOk (g : Geometry) (p : Nat) : Bool :=
  let x := p * g.num * 10000
  let n := g.periodNum * 10000
  decide (n - g.periodNum ≤ x ∧ x ≤ n + g.periodNum)

/-- A frame edge of the house reference at the present quantum. -/
def Dev.houseFrame (d : Dev) : Dev :=
  let h := d.rul.house
  let g := d.rul.judged
  match h.last with
  | none => d.onRul fun r => { r with house := { h with last := some d.q, lines := 0 } }
  | some t =>
    let countOk := h.lines == g.lpf
    let good := if countOk && g.periodOk (d.q - t) then h.good + 1 else 0
    let badCounts := if countOk then 0 else h.badCounts + 1
    let d := d.onRul fun r =>
      { r with house := { h with last := some d.q, lines := 0, good := good, badCounts := badCounts, frame := (h.frame + 1) % 2 ^ 32 } }
    let d := if countOk then d else d.raise 0x04D
    if 2 ≤ badCounts then d.loseSource 1 else d.afterReference 1

/-! ## PTP (R37, R132) -/

/-- A timestamped PTP message (R37) received at the present quantum: Sync (0) with its origin time, Follow_Up (8) with the
origin time of a two-step Sync, Delay_Resp (9) with the time at which the master received our Delay_Req. -/
def Dev.ptpMessage (d : Dev) (msg seq timeNs : Nat) (rxDelay : Nat) : Dev :=
  let r := d.rul
  let v := r.servo
  if msg = 9 then
    if seq = v.reqSeq then
      match v.syncAt, v.origin, v.reqAt with
      | some t2, some t1, some t3 =>
        -- mean path delay of the end-to-end mechanism: ((t2 − t1) + (t4 − t3)) ÷ 2, local times in ns
        let total : Int := ((timeNs : Int) - (t1 : Int)) - (((t3 - t2) * 5 / 4 : Nat) : Int)
        d.onRul fun r => { r with servo := { v with delayNs := (total / 2).toNat, reqAt := none } }
      | _, _, _ => d
    else d
  else if msg = 0 ∨ msg = 8 then
    let at_ := if msg = 0 then d.q - rxDelay / 5 else v.syncAt.getD d.q
    let predicted := r.ptpTime at_
    let offset : Int := ((timeNs + v.delayNs : Nat) : Int) - (predicted : Int)
    let g := r.judged
    let quarter := (g.periodNum * 5 / 4) / (4 * max (g.num * g.lpf) 1)
    let inRange := v.origin.isSome && decide (offset.natAbs ≤ quarter)
    let since := if inRange then r.ptp.lines else at_
    let good := if inRange then (at_ - since) * g.num / max g.periodNum 1 else 0
    let interval := match r.ptp.last with | some t => at_ - t | none => v.interval
    let d := d.onRul fun r =>
      { r with servo := { v with syncAt := some at_, origin := some timeNs, offsetNs := offset, interval := interval }
               ptp := { r.ptp with last := some at_, lines := since, good := good, frame := 0 } }
    d.afterReference 0
  else d

/-! ## In-band pulses (R39) -/

/-- A pulse of frame `frame` at quantum `t` (R39, R40). -/
def Dev.pulse (d : Dev) (frame t : Nat) : Dev :=
  let x := d.rul.inband
  let g := d.rul.judged
  let good := match x.last with
    | none => 0
    | some t0 =>
      let k := (frame + 2 ^ 32 - x.frame) % 2 ^ 32
      let predicted := t0 * g.num + k * g.periodNum
      let dist : Int := ((t * g.num : Nat) : Int) - (predicted : Int)
      if decide (dist.natAbs * 4 * g.lpf ≤ g.periodNum) then x.good + 1 else 0
  (d.onRul fun r => { r with inband := { x with last := some t, frame := frame % 2 ^ 32, good := good } }).afterReference 2

/-! ## Control -/

/-- A re-lock (R35, R41): the registers' geometry, clamped by R34, is the new geometry, and their source order applies; ACQUIRE is entered and
ACQ_TIMEOUT restarts. It counts as a change of source. -/
def Dev.relock (d : Dev) : Dev :=
  let g := d.geoAsked
  let d := ((d.setRaw Reg.rulRateNum g.num).setRaw Reg.rulRateDen g.den).setRaw Reg.rulLpf g.lpf
  let prio := d.fld Reg.rulSrcPrio 0 6
  (d.onRul fun r => { r with nextGeo := some g, prio := prio, held := none }).enterAcquire

/-- What a change of RUL_CTL.EN does (R555): a rise is a re-lock; at a fall no source stays qualified, and LOCKED becomes HOLDOVER. -/
def Dev.rulEnable (d : Dev) (was now : Bool) : Dev :=
  if now && !was then d.relock
  else if !now && was then
    let d := d.onRul fun r =>
      { r with ptp := { r.ptp with qualified := false, good := 0 }, house := { r.house with qualified := false, good := 0 }
               inband := { r.inband with qualified := false, good := 0 } }
    if d.rul.state = .locked then d.enterHoldover else d
  else d

/-- What a change of RUL_CTL.FORCE_HOLD does (R41). -/
def Dev.forceHold (d : Dev) (was now : Bool) : Dev :=
  if now && !was then
    if d.rul.state = .locked ∨ (d.rul.state = .acquire ∧ d.rul.timeline) then d.enterHoldover else d
  else if was && !now then d.select
  else d

/-- The end of start-up step 5 with EN set (R41, R507): ACQUIRE, epoch 0. -/
def Dev.startRuling (d : Dev) : Dev :=
  if d.flag Reg.rulCtl 0 then (d.onRul fun r => { r with epoch := 0, started := true }).enterAcquire
  else d.onRul fun r => { r with started := true }

/-! ## Events of the table -/

/-- HOUSE_FRAME_EDGE: a rising edge on REF_FRAME in quantum `at_` (R38, R541). -/
def execHouseFrameEdge (at_ : Nat) (s : State) : Host.Outcome State Fault Refusal :=
  s.run true fun d =>
    let d := d.upTo at_
    if d.flag Reg.rulCtl 0 && d.rul.started then d.houseFrame
    else d.onRul fun r => { r with house := { r.house with last := some d.q, lines := 0, good := 0, badCounts := 0 } }

/-- HOUSE_LINE_EDGE: a rising edge on REF_LINE marks the start of a line (R38). -/
def execHouseLineEdge (at_ : Nat) (s : State) : Host.Outcome State Fault Refusal :=
  s.run true fun d =>
    (d.upTo at_).onRul fun r => { r with house := { r.house with lines := r.house.lines + 1 } }

/-- SOURCE_LOST: the loss timer of a source expires (R40). -/
def execSourceLost (source : Nat) (s : State) : Host.Outcome State Fault Refusal :=
  s.run (decide (source < 3)) fun d =>
    match d.sourceDeadline source with
    | some t => (d.upTo t).loseSource source
    | none => d

/-- ACQ_TIMEOUT: FREE when no timeline has yet existed, HOLDOVER otherwise (R41). -/
def execAcqTimeout (s : State) : Host.Outcome State Fault Refusal :=
  s.run true fun d =>
    match d.rul.acqAt with
    | some t =>
      if d.rul.state = .acquire ∧ d.bestSource = none then
        let d := d.upTo t
        if d.rul.timeline then d.enterHoldover
        else (d.onRul fun r => { r with state := .free, acqAt := none, source := none, held := none }).raise 0x048
      else d
    | none => d

/-- HOLD_CLK_FAULT: REFCLK_HOLD is absent; Ruling runs on the on-chip oscillator (R42). -/
def execHoldClkFault (s : State) : Host.Outcome State Fault Refusal :=
  s.run true fun d => (d.onRul fun r => { r with holdClkOk := false }).raise 0x04E

/-- FRAME_START: the next frame starts; a pending swap takes effect and Outrider's frame count restarts (R52, R322). -/
def execFrameStart (s : State) : Host.Outcome State Fault Refusal :=
  s.run true fun d =>
    let d := d.upTo d.nextFrame
    let d := { d with otr := { d.otr with frameUsed := 0 } }
    if d.rul.swapAt.isSome then d.swapTables else d

end Sys2Proof.Machine
end

