-- ==== Sys2Proof/Machine/Members.lean ====
section
/-! DEFINITION. The members of the array (R236, R337), the drives behind them, and how a command reaches a drive
(R361 to R364, R560): what every storage unit submits with. -/

namespace Sys2Proof.Machine

/-! ## Drives -/

/-- `f` applied to slot `k`. -/
def Dev.onSlot (d : Dev) (k : Nat) (f : Slot → Slot) : Dev :=
  { d with drv := { d.drv with slots := modifyAt Slot.num k f d.drv.slots } }

/-- A drive command by number. -/
def Dev.drvCmd? (d : Dev) (id : Nat) : Option DriveCmd := findAt DriveCmd.id id d.drv.cmds

/-- `f` applied to the drive command with number `id`. -/
def Dev.onDrvCmd (d : Dev) (id : Nat) (f : DriveCmd → DriveCmd) : Dev :=
  { d with drv := { d.drv with cmds := modifyAt DriveCmd.id id f d.drv.cmds } }

/-- The drive command is over. -/
def Dev.dropDrvCmd (d : Dev) (id : Nat) : Dev := { d with drv := { d.drv with cmds := dropAt DriveCmd.id id d.drv.cmds } }

/-- A counter of the drive ports by slot (DPC_CNT). -/
def Dev.countDrive (d : Dev) (slot item n : Nat) : Dev := d.bump 0x2A slot item n

/-- Whether the queue of the command's class on its drive has room: six pairs of depth 256 and the admin queue of 32
(R362). -/
def Dev.queueRoom (d : Dev) (c : DriveCmd) : Bool :=
  let n := d.driveCount fun x => x.slot == c.slot && x.cls == c.cls && x.at_.isSome
  decide (n < if c.cls < 6 then 256 else 32)

/-- Whether a write of the model's drive operations. -/
def DriveOp.writes : DriveOp → Bool
  | .write => true
  | .compareWrite => true
  | .deallocate => true
  | _ => false

/-- Whether a write of a member label, which waits for no window and no other command (R559). -/
def Purpose.isLabel : Purpose → Bool
  | .label _ _ _ => true
  | _ => false

/-- Whether an earlier command of the same class waits for the same drive: submissions are issued in order (R560). -/
def Dev.heldBefore (d : Dev) (c : DriveCmd) : Bool :=
  !c.purpose.isLabel && d.drv.cmds.any fun x =>
    x.slot == c.slot && x.cls == c.cls && x.at_.isNone && x.retryAt.isNone && !x.purpose.isLabel && decide (x.id < c.id)

/-- Whether the slot is that of a member whose trigger was taken and whose declaration has not taken effect (R335, step 1). -/
def Dev.slotTriggered (d : Dev) (slot : Nat) : Bool := match d.memberAt slot with | some m => d.rly.triggers.contains m | none => false

/-! ## Relay's windows and credits (R347, R348) -/

/-- The ruling classes open to Relay: RELAY, and OUTR and TRIM while it is raised with XWIN set. -/
def Dev.relayClasses (d : Dev) : List Nat := if d.rly.raised && d.flag Reg.rlyCtl 1 then [4, 3, 5] else [4]

/-- Quanta from `a` up to `b` in which one of some classes is open. -/
def Dev.openQuanta (d : Dev) (classes : List Nat) (a b : Nat) : Nat :=
  let l0 := d.rul.posAt a / 16384
  ((List.range (d.rul.posAt b / 16384 - l0 + 1)).map fun i =>
    let line := (l0 + i) % max d.rul.geo.lpf 1
    if classes.any fun k => (windowsOf d.rul.active d.rul.geo.lpf k).any fun w => decide (w.1 ≤ line ∧ line < w.2)
    then min b (d.rul.quantumOf ((l0 + i + 1) * 16384)) - max a (d.rul.quantumOf ((l0 + i) * 16384)) else 0).sum

/-- The rate in force in GB/s; copy-back always runs at RATE (R347, R348). -/
def Dev.relayRate (d : Dev) : Nat :=
  if d.rly.raised && d.rly.copy.isNone then max (d.fld Reg.rlyBudget 16 9) (d.fld Reg.rlyBudget 0 9) else max 1 (d.fld Reg.rlyBudget 0 9)

/-- A credit as of now: the rate in force times 1.25 ns for each open quantum, up to 64 MiB; in quarter bytes. -/
def Dev.creditNow (d : Dev) (c : Int) : Int :=
  min (c + 5 * d.relayRate * d.openQuanta d.relayClasses d.rly.creditAt d.q) (4 * 64 * 1048576)

/-- The credit that a command of Relay draws on. -/
def Dev.relayCredit (d : Dev) (op : DriveOp) : Int := d.creditNow (if op.writes then d.rly.writeCredit else d.rly.readCredit)

/-- A submission of Relay subtracts its length on the link, and ends the wait for credit. -/
def Dev.drawCredit (d : Dev) (op : DriveOp) (blocks : Nat) : Dev :=
  let n : Int := 4 * 4160 * blocks
  let r := d.creditNow d.rly.readCredit
  let w := d.creditNow d.rly.writeCredit
  let waited := match d.rly.waitFrom with | some t => d.q - t | none => 0
  { d with rly := { d.rly with
      readCredit := if op.writes then r else r - n
      writeCredit := if op.writes then w - n else w
      creditAt := d.q
      waitFrom := none } }.bump 0x29 0 12 waited

/-- Whether the window of a command is open: class 6 is admin and start-up work, which needs none. -/
def Dev.windowOpen (d : Dev) (c : DriveCmd) : Bool :=
  decide (6 ≤ c.cls) || c.purpose.isLabel || (if c.cls = 4 then d.relayClasses.any d.classOpen else d.classOpen c.cls)

/-! ## Submissions -/

/-- Whether a drive takes a command: a ready one while drive service is enabled (R560); one that is being initialised takes
the commands of its initialisation, an escalating one those of its escalation, which goes on while service is disabled. -/
def Dev.driveTakes (d : Dev) (c : DriveCmd) : Bool :=
  match (d.slotAt c.slot).drive with
  | .ready => d.flag Reg.dpcCtl 0
  | .initialising => d.flag Reg.dpcCtl 0 && (match c.purpose with | .admin _ => true | _ => false)
  | _ => false

/-- Whether a command that needs a drive must wait for P0 (R206). -/
def Dev.shelfAsleep (d : Dev) : Bool := d.entering || d.hqe.pstate == 2

/-- Whether a command may go to its drive now, its credit apart: its drive takes it, the shelf is not in or on the way to or from a
power state that holds submissions (R204, R205), its class
open (R50), its queue with room, no reservation conflict held against a Write (R364), its turn, no trigger against the
member (R335), and no power failure in progress (R303). -/
def Dev.mayGo (d : Dev) (c : DriveCmd) : Bool :=
  d.driveTakes c && (decide (6 ≤ c.cls) || !d.shelfAsleep) && d.windowOpen c && d.queueRoom c
    && !(c.op.writes && (d.slotAt c.slot).respHold) && c.retryAt.isNone && !(d.heldBefore c) && !(d.slotTriggered c.slot)
    && !d.blt.stopped

/-- Whether a command may go to its drive now, Relay's with credit (R347). -/
def Dev.mayIssue (d : Dev) (c : DriveCmd) : Bool := d.mayGo c && (c.cls != 4 || decide (0 ≤ d.relayCredit c.op))

/-- Relay begins to wait for credit (CREDIT_WAIT_QUANTA). -/
def Dev.noteCredit (d : Dev) (c : DriveCmd) : Dev :=
  if c.cls = 4 ∧ d.mayGo c ∧ d.rly.waitFrom.isNone then { d with rly := { d.rly with waitFrom := some d.q } } else d

/-- The quanta that a submission waited for its window, in cycles of the block that counts them: home copies in Blotter cycles of 1.2 GHz
(BLT_CNT), data, parity and old strips in Nib cycles of 1.6 GHz (NIB_CNT) (DEDUCED: assumption log, entry 75). -/
def Dev.countWindow (d : Dev) (c : DriveCmd) : Dev :=
  match c.shutFrom with
  | none => d
  | some t =>
    match c.purpose with
    | .home _ _ => d.bump 0x27 0 6 ((d.q - t) * 3 / 2)
    | .strip _ _ | .oldRead _ _ _ _ | .inPlace _ => d.bump 0x26 0 12 (2 * (d.q - t))
    | _ => d

/-- A submission goes to its drive (R362, R367: its timeout starts here). -/
def Dev.issueNow (d : Dev) (c : DriveCmd) : Dev :=
  let d := d.when (c.cls == 4) fun d => d.drawCredit c.op c.blocks
  let d := ((d.onDrvCmd c.id fun c => { c with at_ := some d.q, shutFrom := none }).emit (.driveCmd c.slot c.id c.op c.lba c.blocks)).countDrive c.slot 0 1
  let d := d.countWindow c
  d.sample 6 c.slot (d.driveCount fun x => x.slot == c.slot && decide (x.cls < 6) && x.at_.isSome)

/-- Every submission that is held and may go now goes, in order (R423, R560). -/
def Dev.issueHeld (d : Dev) : Dev :=
  d.forEach (d.drv.cmds.filter fun c => c.at_.isNone) fun d c =>
    match d.drvCmd? c.id with
    | some c => if c.at_.isSome then d else if d.mayIssue c then d.issueNow c else d.noteCredit c
    | none => d

/-- A command for the drive in `slot`: issued when it may be, held otherwise; a Write held for a port that escalates counts
in HELD_WRITES (R369). The number is the command's. -/
def Dev.submit (d : Dev) (slot : Nat) (op : DriveOp) (lba blocks cls : Nat) (purpose : Purpose) : Dev × Nat :=
  let id := d.drv.nextId
  let c : DriveCmd :=
    { id := id, slot := slot, op := op, lba := lba, blocks := blocks, cls := cls, purpose := purpose, at_ := none, tries := 0,
      retryAt := none, shutFrom := none }
  let c := if d.windowOpen c then c else { c with shutFrom := some d.q }
  let d := { d with drv := { d.drv with cmds := d.drv.cmds ++ [c], nextId := id + 1 } }
  if d.mayIssue c then (d.issueNow c, id)
  else if op.writes && (d.slotAt slot).drive == .escalating then (d.countDrive slot 11 1, id)
  else (d.noteCredit c, id)

/-- A submission for a member's drive. -/
def Dev.submitTo (d : Dev) (m : Nat) (op : DriveOp) (lba blocks cls : Nat) (purpose : Purpose) : Dev × Nat :=
  d.submit (d.memberSlot m) op lba blocks cls purpose

/-- A submission whose number nobody keeps. -/
def Dev.submit' (d : Dev) (m : Nat) (op : DriveOp) (lba blocks cls : Nat) (purpose : Purpose) : Dev :=
  (d.submitTo m op lba blocks cls purpose).1

end Sys2Proof.Machine
end

