-- ==== Sys2Proof/Machine/Records.lean ====
section
/-! DEFINITION. The Blotter's log (R289 to R299): records and payload blocks enter DDR5 and the home log, copies are
acknowledged, the ack point advances, records retire, and the mirror receives what is logged. -/

namespace Sys2Proof.Machine

/-- `f` applied to the Blotter. -/
def Dev.onBlt (d : Dev) (f : Blt → Blt) : Dev := { d with blt := f d.blt }

/-! ## Checkpoint segments a record touches (R247, R297) -/

/-- An object by number. -/
def Dev.obj? (d : Dev) (n : Nat) : Option Obj := d.lay.objects.find? fun o => o.num == n

/-- `f` applied to object `n`. -/
def Dev.onObj (d : Dev) (n : Nat) (f : Obj → Obj) : Dev :=
  { d with lay := { d.lay with objects := modifyAt Obj.num n f d.lay.objects } }

/-- The `k`-th chunk of an object's list of runs (R246). -/
def chunkAt : List (Nat × Nat) → Nat → Option Nat
  | [], _ => none
  | (first, n) :: t, k => if k < n then some (first + k) else chunkAt t (k - n)

/-- The map segment that holds the entry of a logical stripe. -/
def Dev.mapSegment (d : Dev) (object lstripe : Nat) : Option Nat :=
  match d.obj? object with
  | some o => (chunkAt o.chunks (lstripe / 1024)).map fun c => c / 64
  | none => none

/-- The metadata segments: the manual does not say which segment holds which record, so the model keeps object `n`'s
catalogue entry in Gm + n, its frame index in Gm + 4,096 + n, livery `l`'s record in Gm + 8,192 + l, the livery table in
Gm + 8,448, the key records in Gm + 8,449, the rebuild maps in Gm + 8,450 and retired stripes and the lost list in
Gm + 8,451 (DESIGN CHOICE: assumption log, entry 20). -/
def Dev.metaSegment (d : Dev) (k : Nat) : Nat := d.geo.gm + k

/-- The metadata segment of a change. -/
def MetaChange.place : MetaChange → Nat
  | .objCreate o => o.num
  | .objDelete n => n
  | .objKind n _ _ => n
  | .objReserve n _ _ _ => n
  | .objFormat n => n
  | .otrCursor _ => 8452
  | .mapClear _ => 8450
  | .liveryCreate n _ => 8192 + n
  | .liveryDelete n => 8192 + n
  | .liveryConfig n _ _ _ _ => 8192 + n
  | .liverySwitches n _ _ => 8192 + n
  | .liveryNqn n _ => 8192 + n
  | .liveryGen n _ => 8192 + n
  | .liveryMap _ _ _ _ _ => 8448
  | .keyCount _ _ _ _ => 8449
  | .built _ _ _ => 8450
  | .psRetire _ => 8451
  | .lostStripe _ _ _ => 8451

/-- The checkpoint segments that a record's change touches. -/
def Dev.recordSegs (d : Dev) : RecordBody → List Nat
  | .mapCommit _ _ _ _ _ lstripe object _ _ len _ _ =>
    (d.mapSegment object lstripe).toList ++ (if len.isSome then [d.metaSegment object] else [])
  | .frame _ _ object _ => [d.metaSegment (4096 + object)]
  | .metadata s _ _ => [s]
  | _ => []

/-- A segment gets a change at the present quantum: it is dirty from its first change on (R248). -/
def Dev.dirty (d : Dev) (s : Nat) : Dev :=
  let old := d.lay.segments
  let new :=
    if old.any (fun x => x.num == s) then
      modifyAt Segment.num s (fun x => { x with dirtyAt := some (x.dirtyAt.getD d.q) }) old
    else old ++ [⟨s, some d.q, false, [], 0, 0⟩]
  { d with lay := { d.lay with segments := new } }

/-! ## Home copies (R292, R293) -/

/-- Whether the Blotter may open a new position (R293), and does so at all (R303). -/
def Dev.spanRoom (d : Dev) : Bool :=
  !d.blt.stopped && decide (d.blt.head - d.blt.tail < d.liveMembers.length * 917504 / 3)

/-- SPAN_FULL is set and BLT_FULL raised (R293). -/
def Dev.spanIsFull (d : Dev) : Dev := (d.onBlt fun b => { b with spanFull := true, fullSince := some (b.fullSince.getD d.q) }).raise 0x182

/-- Once neither the span nor the ring is full, the time since one of them was counts in FULL_WAIT_CYCLES, in Blotter cycles of 1.2 GHz
(DEDUCED: assumption log, entry 75). -/
def Dev.endFull (d : Dev) : Dev :=
  match d.blt.fullSince with
  | some t =>
    if d.blt.spanFull || d.blt.ringFull then d
    else (d.onBlt fun b => { b with fullSince := none }).bump 0x27 0 5 ((d.q - t) * 3 / 2)
  | none => d

/-- The members that get the copies of position `h` (R292). -/
def Dev.copyMembers (d : Dev) (h : Nat) : List Nat :=
  let l := d.liveMembers
  ((List.range (min 3 l.length)).map fun c => l.getD ((3 * h + c) % max l.length 1) 0)

/-- The key of a block of a member's home ring. -/
def homeKey (m blk : Nat) : Nat := m * 2 ^ 20 + blk % 2 ^ 20

/-- The next block of member `m`'s home ring that is empty or holds a position below the tail (R293). -/
def Dev.freeHome (d : Dev) (m : Nat) : Nat → Nat → Nat
  | 0, blk => blk % 1048576
  | fuel + 1, blk =>
    if sget (fun _ => 0) d.blt.homeAt (homeKey m blk) ≤ d.blt.tail then blk % 1048576 else d.freeHome m fuel (blk + 1)

/-- A copy of position `h` goes to member `m`'s next free home block, in a BHOME window (R293, R294). -/
def Dev.writeHome (d : Dev) (h m : Nat) : Dev :=
  let blk := d.freeHome m 1048576 (sget (fun _ => 0) d.blt.homeNext m)
  (d.onBlt fun b =>
    { b with homeNext := sput (fun _ => 0) b.homeNext m ((blk + 1) % 1048576)
             homeAt := sput (fun _ => 0) b.homeAt (homeKey m blk) (h + 1) }).submit' m .write (256 + blk) 1 2 (.home h m)

/-- A new position at the head: its three copies are written (R292). -/
def Dev.openPosition (d : Dev) (payload : Bool) : Dev × Nat :=
  let h := d.blt.head
  let ms := d.copyMembers h
  let d := d.onBlt fun b =>
    { b with head := h + 1, positions := b.positions ++ [⟨h, payload, ms, [], d.q⟩] }
  (d.forEach ms fun d m => d.writeHome h m, h)

/-! ## Records enter the log -/

/-- The quantum at which the open record block is issued (R294). -/
def Dev.batchEnd (d : Dev) : Nat := d.blt.openFrom + quantaUs (d.fld Reg.bltCtl 8 8)

/-- The open record block is issued (R294): its records get the next position. It waits while the span is full (R293). -/
def Dev.issueBlock (d : Dev) : Dev :=
  if d.blt.open_.isEmpty then d
  else if d.spanRoom then
    let rs := d.blt.open_.take 63
    let p := d.openPosition false
    (p.1.onBlt fun b =>
      { b with
        records := b.records.map fun r => if r.rsn ∈ rs then { r with position := some p.2 } else r
        open_ := b.open_.drop 63
        openFrom := d.q
        spanFull := false }).endFull.bump 0x27 0 1 1
  else if d.blt.stopped then d
  else d.spanIsFull

/-- What the mirror is sent while it is LIVE (R299): the record, with the partner's acknowledgement due within 1 ms (R300). -/
def Dev.mirrorRecord (d : Dev) (r : BltRecord) : Dev :=
  if d.blt.mirror = .live then
    ((d.onBlt fun b => { b with mirrorSent := r.rsn, mirrorAt := some (b.mirrorAt.getD (d.q + quantaMs 1)) }).emit
      (.partnerRecords [r])).bump 0x27 0 3 1
  else d

/-- RING_FULL and BLT_FULL when a part of the DDR5 region has no room (R296). -/
def Dev.noteRing (d : Dev) (p : Nat) : Dev :=
  if d.poolCap p ≤ d.poolUse p then (d.onBlt fun b => { b with ringFull := true, fullSince := some (b.fullSince.getD d.q) }).raise 0x182 else d

/-- A record with the next RSN joins the open record block (R289, R294); a MAP_COMMIT with a FRAME to follow never takes
the last slot. The number is the RSN. -/
def Dev.append (d : Dev) (body : RecordBody) : Dev × Nat :=
  let rsn := d.blt.nextRsn
  let pair := match body with | .mapCommit _ _ _ _ _ _ _ _ _ _ _ f => f | _ => false
  let d := if pair && d.blt.open_.length == 62 then d.issueBlock else d
  let d := d.onBlt fun b =>
    { b with
      nextRsn := rsn + 1
      records := b.records ++ [⟨rsn, body, none, false, d.recordSegs body, []⟩]
      open_ := b.open_ ++ [rsn]
      openFrom := if b.open_.isEmpty then d.q else b.openFrom }
  let d := (((d.bump 0x27 0 0 1).take 1 1).noteRing 1).mirrorRecord ⟨rsn, true, body⟩
  (if 63 ≤ d.blt.open_.length then d.issueBlock else d, rsn)

/-- A record whose number nobody keeps. -/
def Dev.append' (d : Dev) (body : RecordBody) : Dev := (d.append body).1

/-- A payload block enters DDR5 and gets its position at once (R294). The number is the position. -/
def Dev.appendPayload (d : Dev) (data : List Byte) : Dev × Nat :=
  let p := d.openPosition true
  let d := p.1.onBlt fun b => { b with payloads := sput (fun _ => []) b.payloads p.2 data }
  let d := ((d.bump 0x27 0 2 1).take 2 1).noteRing 2
  (if d.blt.mirror = .live then d.emit (.partnerPayload p.2 data) else d, p.2)

/-! ## Acknowledgement (R295, R299) -/

/-- The record with a given RSN, if it has not retired. -/
def Dev.record? (d : Dev) (rsn : Nat) : Option LogRecord := findAt LogRecord.rsn rsn d.blt.records

/-- Whether a position is home-acknowledged (R295). -/
def Dev.posAcked (d : Dev) (h : Nat) : Bool := d.blt.anyAck && decide (h ≤ d.blt.ack)

/-- Whether a record is home-acknowledged (R295); one that has retired is. -/
def Dev.homeAcked (d : Dev) (rsn : Nat) : Bool :=
  match d.record? rsn with
  | some r => (match r.position with | some h => d.posAcked h | none => false)
  | none => decide (rsn < d.blt.nextRsn)

/-- Whether a record's mirror copy is acknowledged while the mirror is LIVE (R299). -/
def Dev.mirrorAcked (d : Dev) (rsn : Nat) : Bool := decide (d.blt.mirror = .live) && decide (rsn ≤ d.blt.mirrored)

/-- The highest RSN in a record block at or below A (R299). -/
def Dev.homeRa (d : Dev) : Nat :=
  d.blt.records.foldl (fun a r => match r.position with | some h => if d.posAcked h then max a r.rsn else a | none => a) 0

/-- The ack point as the acknowledged copies give it (R295): the positions from the tail on that have two of their copies
acknowledged, up to the first that has not. -/
def Dev.advanceAck (d : Dev) : Dev :=
  let ok := d.blt.positions.takeWhile fun p => decide (2 ≤ p.acked.length)
  let d := d.forEach (ok.filter fun p => !(d.posAcked p.h)) fun d p => d.sampleUs 10 0 p.at_
  match ok.getLast? with
  | some p => d.onBlt fun b => { b with ack := max b.ack p.h, anyAck := true }
  | none => d

/-- A home copy is acknowledged. -/
def Dev.ackCopy (d : Dev) (h m : Nat) : Dev :=
  let add (p : HomePos) : HomePos :=
    if m ∈ p.acked then p else { p with acked := p.acked ++ [m], copies := if m ∈ p.copies then p.copies else p.copies ++ [m] }
  (d.onBlt fun b => { b with positions := modifyAt HomePos.h h add b.positions }).advanceAck

/-! ## Retirement (R297) -/

/-- The write sequence of an intent record. -/
def intentSeq : RecordBody → Option Nat
  | .intentStripe w _ _ _ _ _ => some w
  | .intentRmw w _ _ _ _ _ _ _ _ _ _ => some w
  | _ => none

/-- Whether a record is a MAP_COMMIT of write sequence `w`. -/
def commitsSeq (w : Nat) : RecordBody → Bool
  | .mapCommit v _ _ _ _ _ _ _ _ _ _ _ => v == w
  | _ => false

/-- Whether a record is the CLOSE of the intent with RSN `rsn`. -/
def closesIntent (rsn : Nat) : RecordBody → Bool
  | .close _ r _ => r == rsn
  | _ => false

/-- The payload positions that belong to a record. -/
def payloadRange : RecordBody → List Nat
  | .intentRmw _ _ _ _ _ _ _ n _ s p => List.range' p (n + s)
  | .metadata _ _ p => [p]
  | _ => []

/-- Whether a record is a cursor of the rebuild or copy-back that ordinal `o` and phase `ph` name (R342). -/
def continuesRebuild (o ph : Nat) : RecordBody → Bool
  | .relayCursor _ o' ph' => o' == o && (ph' == 4) == (ph == 4)
  | _ => false

/-- Whether that rebuild, or copy-back, has ended. -/
def Dev.rebuildOver (d : Dev) (o ph : Nat) : Bool :=
  if ph = 4 then !((List.range d.members).any fun m => d.ordinal m == o && d.cursorOf m != 0)
  else d.rly.phase == 0 || d.rly.ordinal != o

/-- Whether a record retires now (R297). An intent of a stripe is marked applied when its MAP_COMMIT is written. -/
def Dev.mayRetire (d : Dev) (r : LogRecord) : Bool :=
  let rs := d.blt.records
  let closed := rs.any fun c => closesIntent r.rsn c.body && d.homeAcked c.rsn
  r.position.isSome &&
  match r.body with
  | .mapCommit .. => r.applied && r.segs.isEmpty
  | .frame .. => r.applied && r.segs.isEmpty
  | .metadata .. => r.applied && r.segs.isEmpty
  | .intentStripe w .. => closed || (r.applied && !(rs.any fun c => commitsSeq w c.body))
  | .intentRmw .. => closed
  | .close _ i _ => d.homeAcked r.rsn && !(rs.any fun c => c.rsn == i)
  | .relayCursor _ o ph =>
    d.rebuildOver o ph || rs.any fun c => decide (r.rsn < c.rsn) && d.homeAcked c.rsn && continuesRebuild o ph c.body
  | .void .. => (rs.head?.map LogRecord.rsn) == some r.rsn
  | .reserved _ => d.homeAcked r.rsn

/-- The records of the log that may retire leave it: their DDR5 slots and payload blocks are free. -/
def Dev.retirePass (d : Dev) : Dev :=
  let gone := d.blt.records.filter d.mayRetire
  let pay := (gone.map fun r => payloadRange r.body).flatten
  if gone.isEmpty then d
  else
    ((d.onBlt fun b =>
      { b with records := b.records.filter fun r => !(gone.any fun g => g.rsn == r.rsn)
               payloads := b.payloads.filter fun p => !(pay.contains p.1)
               ringFull := false }).endFull.bump 0x27 0 4 gone.length).release 1 gone.length |>.release 2 pay.length

/-- The tail T: the lowest position that holds an unretired record or payload block; the head when there is none (R297).
Positions below it are forgotten. -/
def Dev.moveTail (d : Dev) : Dev :=
  let used := (d.blt.records.filterMap LogRecord.position) ++ d.blt.payloads.map (·.1)
  let t := used.foldl min d.blt.head
  d.onBlt fun b => { b with tail := max b.tail t, positions := b.positions.filter fun p => decide (t ≤ p.h) }

/-- Retirement as far as it goes: intents follow their commits, closes follow their intents (R297). It is held in RESYNC
until the partner's checkpoint is loaded (R300). A span that was full opens again. -/
def Dev.retire (d : Dev) : Dev :=
  if d.blt.mirror = .resync ∧ d.blt.partnerLoaded = false then d
  else
    let d := d.retirePass.retirePass.retirePass.moveTail
    if d.blt.spanFull && d.spanRoom then d.issueBlock else d

/-- The record's change is in force (R297). -/
def Dev.markApplied (d : Dev) (rsn : Nat) : Dev :=
  d.onBlt fun b => { b with records := modifyAt LogRecord.rsn rsn (fun r => { r with applied := true }) b.records }

/-- The intent of a write sequence has its MAP_COMMIT. -/
def Dev.markCommitted (d : Dev) (w : Nat) : Dev :=
  d.onBlt fun b => { b with records := b.records.map fun r => if intentSeq r.body = some w then { r with applied := true } else r }

end Sys2Proof.Machine
end

