-- ==== Sys2Proof/Machine/Meta.lean ====
section
/-! DEFINITION. Changes to array metadata (R298, R556): each is logged by a META record and takes effect when that record is
home-acknowledged, or at once while no array is served; the commands that made it reply then. -/

namespace Sys2Proof.Machine

/-! ## Liveries and the livery table -/

/-- Whether an entry matches an identifier (R211). -/
def LvyMap.holds (e : LvyMap) (pid : Nat) : Bool := e.valid && decide (e.first ≤ pid) && decide (pid ≤ e.last)

/-- The livery of a process identifier (R211): that of the lowest-index valid entry that holds it; none when no entry
does, or when that entry's livery does not exist. -/
def Dev.mapPid (d : Dev) (pid : Nat) : Option Nat :=
  match (List.range 1024).find? fun i => (d.lvyEntry i).holds pid with
  | some i => if (d.livery? (d.lvyEntry i).livery).isSome then some (d.lvyEntry i).livery else none
  | none => none

/-- A hexadecimal digit as an upper-case character code. -/
def hexDigit (n : Nat) : Byte := BitVec.ofNat 8 (if n < 10 then 0x30 + n else 0x37 + n)

/-- The NQN that a livery has from its creation (R558), as bytes up to its NUL. -/
def defaultNqn (n : Nat) : List Byte :=
  ("nqn.2020-01.com.freril:sdf4812:".toList.map fun c => BitVec.ofNat 8 c.toNat)
    ++ ((List.range 16).map fun i => hexDigit (bits Config.serial.toNat (4 * (15 - i)) 4))
    ++ [0x3A, hexDigit (n / 100), hexDigit (n / 10 % 10), hexDigit (n % 10)]

/-- A livery's NQN: the one it was given, or the one it has from its creation (R558). -/
def Livery.name (l : Livery) : List Byte := if l.nqn.isEmpty then defaultNqn l.num else l.nqn

/-- The generation after `g` (R215). -/
def nextGeneration (g : Nat) : Nat := if g = 65535 then 1 else g + 1

/-! ## Changes in force -/

/-- `f` applied to the layout unit. -/
def Dev.onLay (d : Dev) (f : Lay → Lay) : Dev := { d with lay := f d.lay }

/-- `f` applied to the livery unit. -/
def Dev.onLvy (d : Dev) (f : Lvy → Lvy) : Dev := { d with lvy := f d.lvy }

/-- The entry of the stripe map for a logical stripe of an object (R244). -/
def mapKey (object lstripe : Nat) : Nat := object * 2 ^ 46 + lstripe

/-- A map entry that nothing has set: UNMAPPED. -/
def MapEntry.empty : MapEntry := ⟨0, 0, .unmapped, 0⟩

/-- The map entry of a logical stripe. -/
def Dev.entry (d : Dev) (object lstripe : Nat) : MapEntry := sget (fun _ => MapEntry.empty) d.lay.map (mapKey object lstripe)

/-- Whether the layout unit holds lookups of a logical stripe: its map segment is being reloaded (R435). -/
def Dev.lookupHeld (d : Dev) (object lstripe : Nat) : Bool :=
  match d.lay.reloading with
  | [] => false
  | l => match d.mapSegment object lstripe with | some g => l.contains g | none => false

/-- A logical stripe that leaves state SUSPECT leaves the suspect list (R330), one that leaves LOST the lost-stripe list
(R349); both lie in array metadata. -/
def Dev.leaveLists (d : Dev) (object lstripe : Nat) (old new_ : MapEntry) : Dev :=
  if old.state = new_.state then d
  else match old.state with
    | .suspect =>
      ({ d with otr := { d.otr with suspects := d.otr.suspects.filter fun s => !(s.object == object && s.lstripe == lstripe) } }).dirty
        (d.metaSegment 8451)
    | .lost => (d.onLay fun l => { l with lost := l.lost.erase (old.psi, object) }).dirty (d.metaSegment 8451)
    | _ => d

/-- The map entry of a logical stripe replaced. -/
def Dev.setEntry (d : Dev) (object lstripe : Nat) (e : MapEntry) : Dev :=
  (d.leaveLists object lstripe (d.entry object lstripe) e).onLay fun l =>
    { l with map := sput (fun _ => MapEntry.empty) l.map (mapKey object lstripe) e }

/-- PHYS_LOW when free stripes fall below half the reserve (R246). -/
def Dev.notePhys (d : Dev) : Dev := if 2 * d.physFree < d.geo.reserve ∧ d.lay.geo.isSome then d.raise 0x166 else d

/-- The state of a physical stripe set. -/
def Dev.setPhys (d : Dev) (psi st : Nat) : Dev :=
  (d.onLay fun l => { l with phys := sput (fun _ => 0) l.phys psi st }).notePhys

/-- What a metadata change does when it comes in force (R209, R250, R338, R349, R383). -/
def Dev.applyChange (d : Dev) : MetaChange → Dev
  | .objCreate o => d.onLay fun l => { l with objects := l.objects ++ [o] }
  | .objDelete n => d.onLay fun l => { l with objects := dropAt Obj.num n l.objects }
  | .objKind n k b => d.onObj n fun o => { o with kind := k, blocks := b }
  | .objReserve n b r c => d.onObj n fun o => { o with blocks := b, reserved := r, chunks := c }
  | .objFormat _ => d
  | .mapClear o => d.setBuiltMask o 0
  | .otrCursor p => { d with otr := { d.otr with recordedCursor := p } }
  | .liveryCreate n g =>
    (d.onLvy fun l => { l with liveries := l.liveries ++ [⟨n, .service, g, [], 0, 0, 0, [0, 0]⟩] }).raiseL 0x150 (some n)
  | .liveryDelete n => (d.onLvy fun l => { l with liveries := dropAt Livery.num n l.liveries }).raiseL 0x151 (some n)
  | .liveryConfig n pf pc km wt =>
    (d.onLivery n fun l => { l with polFirst := pf, polCount := pc, keyMask := km }).setRaw (bank Reg.tssWfqWt n) wt
  | .liverySwitches n c a => d.onLivery n fun l => { l with config := [b2n c, b2n a] }
  | .liveryNqn n q => d.onLivery n fun l => { l with nqn := q }
  | .liveryGen n g => d.onLivery n fun l => { l with generation := g }
  | .liveryMap i f l v ok => d.onLvy fun x => { x with table := sput lvyMapDflt x.table i ⟨f, l, v, ok⟩ }
  | .keyCount s salt kcv n => d.putKeyRecord s (salt, kcv, n)
  | .psRetire p => d.setPhys p 3
  | .built o u on => d.setBuiltMask o (setBits (d.builtOf o) u 1 (b2n on))
  | .lostStripe p o on => d.onLay fun l => { l with lost := if on then (if (p, o) ∈ l.lost then l.lost else l.lost ++ [(p, o)]) else l.lost.erase (p, o) }

/-- The reply that a command keeps until its changes are in force: its payload and its clamp report. -/
def heldReply (payload : List Byte) (clamps : List ClampEntry) : List Nat :=
  payload.length :: payload.map BitVec.toNat ++ clampsToNats clamps

/-- The command answers with the reply it kept. -/
def Dev.finishHeld (d : Dev) (c : Cmd) : Dev :=
  let n := c.aux.headD 0
  d.finishWith c 0 0 (((c.aux.drop 1).take n).map (BitVec.ofNat 8)) (natsToClamps (c.aux.drop (1 + n)))

/-- Whether a change made by command `id` is still to come in force. -/
def Dev.metaPending (d : Dev) (id : Nat) : Bool := d.lay.metas.any fun m => m.cmd == some id

/-- The command with number `id` replies when every change it made is in force (R556). -/
def Dev.metaReply (d : Dev) (id : Nat) : Dev :=
  if d.metaPending id then d
  else match d.cmd? id with
    | some c => if c.phase = .running then d.finishHeld c else d
    | none => d

/-! ## Logging -/

/-- META records for the changes that wait for one, in order, while the log has room (R289, R293). A change that is not
logged yet has RSN 0. -/
def Dev.logMetas (d : Dev) : Dev :=
  d.forEach ((List.range d.lay.metas.length).filter fun i => (d.lay.metas.map PendingMeta.rsn).getD i 1 == 0) fun d i =>
    match d.lay.metas[i]? with
    | some m =>
      if d.spanRoom then
        let p := d.appendPayload []
        let r := p.1.append (.metadata (d.metaSegment m.change.place) 0 p.2)
        r.1.onLay fun l => { l with metas := l.metas.set i { m with rsn := r.2 } }
      else if d.blt.stopped then d
      else d.spanIsFull
    | none => d

/-- A change to array metadata (R556): at once while no array is served, else logged, and in force when its META record is
home-acknowledged. -/
def Dev.change (d : Dev) (c : MetaChange) (cmd : Option Nat) : Dev :=
  if d.lay.state = 3 then (d.onLay fun l => { l with metas := l.metas ++ [⟨0, c, cmd⟩] }).logMetas else d.applyChange c

/-- A command makes changes and replies when they are in force (R556). -/
def Dev.changeAll (d : Dev) (c : Cmd) (l : List MetaChange) (payload : List Byte) (clamps : List ClampEntry) : Dev :=
  let d := d.onCmd c.id fun c => { c with phase := .running, aux := heldReply payload clamps }
  (d.forEach l fun d x => d.change x (some c.id)).metaReply c.id

/-- Changes whose META record is home-acknowledged come in force, in order (R556): their segment is dirty, and the commands
that waited for them reply. -/
def Dev.applyMetas (d : Dev) : Dev :=
  let ready := d.lay.metas.takeWhile fun m => m.rsn != 0 && d.homeAcked m.rsn
  let d := d.onLay fun l => { l with metas := l.metas.drop ready.length }
  let d := d.forEach ready fun d m =>
    ((d.applyChange m.change).markApplied m.rsn).dirty (d.metaSegment m.change.place)
  d.forEach (ready.filterMap PendingMeta.cmd).dedup fun d id => d.metaReply id

/-- A livery's generation advances (R216, R556). -/
def Dev.advanceGeneration (d : Dev) (n : Nat) (cmd : Option Nat) : Dev :=
  d.change (.liveryGen n (nextGeneration (d.generation n))) cmd

end Sys2Proof.Machine
end

