-- ==== Sys2Proof/Machine/Cve.lean ====
section
/-! DEFINITION. The check-value engine (R376 to R396): requests and lanes, loading and clearing of key slots, entropy, and its
commands. -/

namespace Sys2Proof.Machine

/-- The slot that a block tag request resolves to (R387): the named one, or for Nib the successor of an exhausted one, with
whether that rotates the livery's write slot. -/
def Dev.tagSlot (d : Dev) (slot : Nat) (nib : Bool) : Option (Nat × Bool) :=
  let s := d.keySlot slot
  let t := d.keySlot s.succ
  if !d.keysUsable || s.role != 0 then none
  else if s.state = 1 then some (slot, false)
  else if s.state = 2 ∧ s.succ < 64 ∧ t.state = 1 ∧ t.role = 0 ∧ nib then some (s.succ, true)
  else none

/-- The write slot of a livery and whether it tags at all (CVE_LVY_CFG): a write slot outside the KEY_MASK tags nothing
(R388). -/
def Dev.writeSlot (d : Dev) (livery : Nat) : Option Nat :=
  let w := d.raw (bank Reg.cveLvyCfg livery)
  let mask := match d.livery? livery with | some l => l.keyMask | none => 0
  if bit w 6 && bit mask (bits w 0 6) then some (bits w 0 6) else none

/-- A lane answers a tag request (R387): the block with its tag, or with CV 0, counted in UNTAGGED. -/
def Dev.tagBlock (d : Dev) (slot : Nat) (livery : Option Nat) (strip row : Nat) (b : Block) : Dev × Block :=
  match d.tagSlot slot livery.isSome with
  | some (k, rotated) =>
    let d := match livery with
      | some l => d.when rotated fun d => ((d.setFld (bank Reg.cveLvyCfg l) 0 6 k).countCve 4 1).raiseL 0x1E8 (some l)
      | none => d
    let b := { b with pf := { b.pf with keySlot := k, cv := true } }
    (d.useKey k, { b with pf := { b.pf with tag := (d.keySlot k).blockTag strip row b } })
  | none => ((d.countCve 5 1).raise 0x1EF, { b with pf := { b.pf with cv := false, tag := 0 } })

/-- A lane answers a verify request (R389): whether check 5 passes. -/
def Dev.verifyBlock (d : Dev) (strip row : Nat) (b : Block) : Dev × Bool :=
  let s := d.keySlot b.pf.keySlot
  if d.cve.ent = 2 then (d.countCve 3 1, true)
  else if !(d.flag Reg.cveCtl 0) || s.state = 0 || s.role != 0 then ((d.countCve 3 1).raise 0x1EB, true)
  else
    let d := d.countCve 1 1
    if s.blockTag strip row b = b.pf.tag then (d, true) else ((d.countCve 2 1).raise 0x1EC, false)

/-! ## The queue (R386) -/

/-- Whether the queue of 1,024 requests has room, which is pool 9 of the drain ladder. -/
def Dev.cveRoom (d : Dev) : Bool := decide (d.cve.queue.length < 1024)

/-- A request joins the queue. -/
def Dev.cveAsk (d : Dev) (r : CveReq) : Dev := (d.take 9 1).onCve fun c => { c with queue := c.queue ++ [r] }

/-- KEY_CLEARs whose slot no queued request names any more (R391): the slot becomes EMPTY, every successor link that points
at it goes, and the command replies. -/
def Dev.finishClears (d : Dev) : Dev :=
  let named (k : Nat) : Bool := d.cve.queue.any fun r => (if r.tag then r.slot else r.block.pf.keySlot) == k
  let ready := d.cve.clears.filter fun x => !(named x.1)
  let d := d.onCve fun c => { c with clears := c.clears.filter fun x => named x.1 }
  d.forEach ready fun d x =>
    let d := d.setKeySlot x.1 (keySlotDflt 0)
    let d := d.onCve fun c => { c with slots := (c.slots.map fun y => if y.2.succ = x.1 then (y.1, { y.2 with succ := 0xFF }) else y).filter fun y => y.2 != keySlotDflt 0 }
    match x.2.bind d.cmd? with
    | some c => d.done c []
    | none => d

/-- The request that the next free lane takes: the oldest, a tag request before a verify request of the same quantum. -/
def Dev.cveNext (d : Dev) : Option CveReq :=
  d.cve.queue.head?.map fun r => (d.cve.queue.find? fun x => x.tag && x.at_ == r.at_).getD r

/-- A request leaves the queue for a lane. -/
def Dev.cveTake (d : Dev) (r : CveReq) : Dev :=
  (((d.onCve fun c => { c with queue := c.queue.erase r }).release 9 1).countCve 9 ((d.q - r.at_) * 3 / 2)).finishClears

/-- Whether lanes start requests: not while the entropy source restarts (R394). -/
def Dev.lanesRun (d : Dev) : Bool := !d.cve.restarting

/-! ## Loading and clearing (R380 to R385, R391) -/

/-- Why a load of a slot is refused: a slot that is not EMPTY, or a key and salt that another slot holds (R385, R395). -/
def Dev.keyLoadFault (d : Dev) (slot salt : Nat) (key : List Byte) : Option Nat :=
  if (d.keySlot slot).state ≠ 0 then some 0
  else if d.cve.slots.any fun x => x.1 != slot && x.2.state != 0 && x.2.salt == salt && x.2.key == key then some 0x10
  else none

/-- The count a loaded key starts at: 2^20 above its metadata record, when one has its salt and KCV (R383). -/
def Dev.startCount (d : Dev) (salt kcv : Nat) : Nat :=
  match d.cve.records.find? fun r => r.2.1 == salt && r.2.2.1 == kcv with
  | some r => r.2.2.2 + 2 ^ 20
  | none => 0

/-- A key goes into a slot (R380 to R383). -/
def Dev.loadKey (d : Dev) (slot role salt limit : Nat) (key : List Byte) : Dev :=
  let kcv := keyCheck key
  let n := d.startCount salt kcv
  d.setKeySlot slot ⟨if limit ≤ n then 2 else 1, key, salt, role, n, limit, 0xFF, kcv⟩

/-- Whether `succ` may be the successor of `slot` (R395). -/
def Dev.successorOk (d : Dev) (slot succ : Nat) : Bool :=
  succ == 0xFF || (decide (succ < 64) && succ != slot && (d.keySlot succ).state == 1
    && (d.keySlot succ).role == (d.keySlot slot).role)

/-- A slot's successor named. -/
def Dev.setSuccessor (d : Dev) (slot succ : Nat) : Dev := d.setKeySlot slot { d.keySlot slot with succ := succ }

/-- The staged key (CVE_KEY_DATAm). -/
def Dev.stagedKey (d : Dev) : List Byte := fit 32 (sget (fun _ => []) d.cve.stage 0)

/-- Bytes 4m to 4m + 3 of the staged key. -/
def Dev.stageKey (d : Dev) (m v : Nat) : Dev :=
  let k := d.stagedKey
  d.onCve fun c => { c with stage := sput (fun _ => []) c.stage 0 (k.take (4 * m) ++ leBytes 4 v ++ k.drop (4 * m + 4)) }

/-- CVE_KEY_CMD.LOAD: SLOT from staging on this module only (R384, R385); the staged key is cleared. -/
def Dev.keyCmdLoad (d : Dev) : Dev :=
  let slot := d.fld Reg.cveKeyIdx 0 6
  let salt := d.raw Reg.cveSalt
  let limit := clampNat 1 (2 ^ 48) (d.raw Reg.cveLimitLo + 2 ^ 32 * d.fld Reg.cveLimitHi 0 17)
  let key := d.stagedKey
  let f := d.keyLoadFault slot salt key
  let d := if f.isSome then d else d.loadKey slot (d.fld Reg.cveKeyCfg 0 1) salt limit key
  d.onCve fun c => { c with keyFail := f.isSome, stage := [] }

/-- CVE_KEY_CMD.CLEAR on this module only (R391). -/
def Dev.keyCmdClear (d : Dev) : Dev :=
  let slot := d.fld Reg.cveKeyIdx 0 6
  if (d.keySlot slot).state = 0 then d.onCve fun c => { c with keyFail := true }
  else (d.onCve fun c => { c with keyFail := false, clears := c.clears ++ [(slot, none)] }).finishClears

/-- A write of CVE_KEY_CFG.SUCC: one that R395 refuses is applied as 0xFF. -/
def Dev.keyCfgSucc (d : Dev) (succ : Nat) : Dev :=
  let slot := d.fld Reg.cveKeyIdx 0 6
  d.setSuccessor slot (if d.successorOk slot succ then succ else 0xFF)

/-- Every non-EMPTY slot goes to the partner (R384). -/
def Dev.sendKeys (d : Dev) : Dev :=
  d.forEach (d.cve.slots.filter fun x => x.2.state != 0) fun d x =>
    d.emit (.partnerKey x.1 x.2.key x.2.salt x.2.role x.2.limit)

/-- A module that takes over counts on from the last count it received plus 2^16 (R383). -/
def Dev.takeoverKeys (d : Dev) : Dev :=
  d.onCve fun c => { c with slots := c.slots.map fun x =>
    match c.partnerCounts.find? fun p => p.1 == x.1 with
    | some p => (x.1, { x.2 with usage := p.2 + 2 ^ 16, state := if x.2.state = 1 ∧ x.2.limit ≤ p.2 + 2 ^ 16 then 2 else x.2.state })
    | none => x }

/-! ## Commands (R395) -/

/-- KEY_LOAD: on an active module it applies to both modules of the shelf (R384). -/
def Dev.runKeyLoad (d : Dev) (c : Cmd) : Dev :=
  let p := c.pkt.params
  let slot := c.par 0 1
  let salt := c.par 4 4
  let key := fit 32 (p.drop 16)
  let lim := clampParam p 8 0 64 1 (2 ^ 48)
  if 64 ≤ slot then d.rangeFault c 0
  else match d.keyLoadFault slot salt key with
    | some off => d.rangeFault c off
    | none =>
      let d := d.loadKey slot (c.par 1 1 % 2) salt lim.1 key
      let d := d.when (d.isActive && d.partnerUp) fun d => d.emit (.partnerKey slot key salt (c.par 1 1 % 2) lim.1)
      d.doneClamped c (leBytes 4 (d.keySlot slot).kcv ++ leBytes 4 0) (reservedParam p 1 1 7 ++ lim.2)

/-- KEY_CLEAR: the reply comes when no request names the slot any more (R391). -/
def Dev.runKeyClear (d : Dev) (c : Cmd) : Dev :=
  let slot := c.par 0 1
  if 64 ≤ slot ∨ (d.keySlot slot).state = 0 then d.rangeFault c 0
  else
    let d := d.when (d.isActive && d.partnerUp) fun d => d.emit (.partnerKeyClear slot)
    ((d.onCmd c.id fun c => { c with phase := .running }).onCve fun v => { v with clears := v.clears ++ [(slot, some c.id)] }).finishClears

/-- KEY_SUCCESSOR. -/
def Dev.runKeySuccessor (d : Dev) (c : Cmd) : Dev :=
  let slot := c.par 0 1
  if 64 ≤ slot then d.rangeFault c 0
  else if d.successorOk slot (c.par 1 1) then (d.setSuccessor slot (c.par 1 1)).done c []
  else d.rangeFault c 1

/-- KEY_QUERY. -/
def Dev.runKeyQuery (d : Dev) (c : Cmd) : Dev :=
  let slot := c.par 0 1
  let s := d.keySlot slot
  if 64 ≤ slot then d.rangeFault c 0
  else d.done c ([BitVec.ofNat 8 s.state, BitVec.ofNat 8 s.role, BitVec.ofNat 8 s.succ, 0] ++ leBytes 4 s.salt
    ++ leBytes 8 s.usage ++ leBytes 8 s.limit ++ leBytes 4 s.kcv ++ leBytes 4 0)

/-! ## Entropy (R393, R394) -/

/-- A health test fails: the source restarts; a third failure within 1 s latches the failed state. -/
def Dev.entropyFails (d : Dev) : Dev :=
  let recent := (d.cve.failures.filter fun t => decide (d.q < t + quantaMs 1000)) ++ [d.q]
  let d := (d.onCve fun c => { c with failures := recent, restarting := true, ent := 1 }).raise 0x1ED
  if 3 ≤ recent.length then (d.onCve fun c => { c with ent := 2, restarting := false }).raise 0x1EE else d

/-- The latch of an entropy failure ends: the source restarts (R394). -/
def Dev.entRestartNow (d : Dev) : Dev :=
  if d.cve.ent = 2 then d.onCve fun c => { c with ent := 1, restarting := true, failures := [] } else d

/-- ENTROPY_HEALTH: the repetition count or the adaptive proportion test fails. -/
def execEntropyHealth (repetition : Bool) (s : State) : Host.Outcome State Fault Refusal :=
  s.run true fun d => if d.cve.ent = 2 then d else (d.countCve (if repetition then 7 else 8) 1).entropyFails

/-- ENTROPY_RESTART_DONE: the start-up test ends; one that failed is a failure as any other. -/
def execEntropyRestartDone (passed : Bool) (s : State) : Host.Outcome State Fault Refusal :=
  s.run true fun d =>
    if d.cve.ent = 1 then
      if passed then d.onCve fun c => { c with ent := 0, restarting := false } else d.entropyFails
    else d

end Sys2Proof.Machine
end

