-- ==== Sys2Proof/Machine/Catalogue.lean ====
section
/-! DEFINITION. The layout unit (R232 to R255): objects and their space, the catalogue's commands, creation of an array,
labels, checkpoints, and LAY_LOC. -/

namespace Sys2Proof.Machine

/-! ## Objects and space (R246, R250) -/

/-- The objects as they will be once every change in flight is in force. -/
def Dev.plannedObjects (d : Dev) : List Obj :=
  d.lay.metas.foldl (fun l m => match m.change with
    | .objCreate o => l ++ [o]
    | .objDelete n => dropAt Obj.num n l
    | .objReserve n b r c => modifyAt Obj.num n (fun o => { o with blocks := b, reserved := r, chunks := c }) l
    | _ => l) d.lay.objects

/-- Data stripes reserved by all objects. -/
def Dev.stripesReserved (d : Dev) : Nat := (d.plannedObjects.map Obj.reserved).sum

/-- Bytes of the metadata pool in use: the frame indexes, 16 bytes an entry (R247, R251; DESIGN CHOICE: assumption log, entry 20). -/
def Dev.metaUse (d : Dev) : Nat := (d.lay.objects.map fun o => 16 * o.frames.length).sum

/-- Bytes of the metadata pool (R247). -/
abbrev metaPool : Nat := 8 * 2 ^ 30

/-- META_LOW when the pool's free part falls below a sixteenth (R250). -/
def Dev.noteMeta (d : Dev) : Dev := if metaPool < 16 * (metaPool - d.metaUse) then d else d.raise 0x167

/-- The first run of `n` free map chunks (R246; first fit, DESIGN CHOICE: assumption log, entry 21). -/
def freeChunks (runs : List (Nat × Nat)) (n : Nat) : Nat :=
  let ok (c : Nat) : Bool := runs.all fun r => decide (c + n ≤ r.1 ∨ r.1 + r.2 ≤ c)
  ((0 :: runs.map fun r => r.1 + r.2).filter ok).foldl (fun a c => match a with | some b => some (min b c) | none => some c) none
    |>.getD 0

/-- Chunks of 1,024 entries for a number of stripes (R246). -/
def chunksFor (stripes : Nat) : Nat := ceilDiv stripes 1024

/-- The runs of chunks that all objects hold. -/
def Dev.allRuns (d : Dev) : List (Nat × Nat) := (d.plannedObjects.map Obj.chunks).flatten

/-- An object's space grown to `stripes` data stripes. -/
def Dev.growRuns (d : Dev) (o : Obj) (stripes : Nat) : List (Nat × Nat) :=
  let have_ := (o.chunks.map Prod.snd).sum
  let want := chunksFor stripes
  if want ≤ have_ then o.chunks else o.chunks ++ [(freeChunks d.allRuns (want - have_), want - have_)]

/-- The lowest object number that no object holds (DESIGN CHOICE: assumption log, entry 21). -/
def Dev.freeObject (d : Dev) : Option Nat := freeKey Obj.num d.plannedObjects 4096 0

/-- Why a new object of `stripes` data stripes is refused (R246, R250): a RESOURCE_LIMIT detail. -/
def Dev.objectFault (d : Dev) (stripes : Nat) : Option Nat :=
  if d.freeObject.isNone then some 0x0121
  else if d.geo.l < d.stripesReserved + stripes then some 0x0120
  else if metaPool ≤ d.metaUse then some 0x0122
  else none

/-- A new object is made by a command: namespace or open take (R250, R254). -/
def Dev.makeObject (d : Dev) (c : Cmd) (kind : ObjKind) (blocks stripes : Nat) (clamps : List ClampEntry) : Dev :=
  match d.objectFault stripes, d.freeObject with
  | none, some n =>
    let o : Obj :=
      { num := n, kind := kind, livery := c.livery, blocks := blocks, length := 0, accepted := 0, reserved := stripes, frames := [],
        ordinal := 0, chunks := if stripes = 0 then [] else [(freeChunks d.allRuns (chunksFor stripes), chunksFor stripes)] }
    d.changeAll c [.objCreate o] (leBytes 2 n ++ leBytes 6 0) clamps
  | some detail, _ => (d.when (detail == 0x0121) fun d => d.raise 0x168).fail c 0x800B detail
  | none, none => d.fail c 0x800B 0x0121

/-- The object that a command names in bytes 0 to 1, when it lies in the command's livery (R254). -/
def Dev.objOf (d : Dev) (c : Cmd) : Option Obj :=
  match d.obj? (c.par 0 2) with
  | some o => if o.livery = c.livery then some o else none
  | none => none

/-- A report that keeps a field's range clamp and gives a further change of it `reason`. -/
def reclamp (p : List Byte) (off width : Nat) (l : List ClampEntry) (reason app : Nat) : List ClampEntry :=
  match l with
  | [] => replaceParam p off 0 width reason app
  | e :: t => { e with applied := app } :: t

/-- NS_CREATE: the size is rounded up to whole data stripes (reason 3). -/
def Dev.runNsCreate (d : Dev) (c : Cmd) : Dev :=
  let v := clampParam c.pkt.params 0 0 64 1 (2 ^ 52 - 1)
  let lb := max d.geo.lb 1
  let stripes := ceilDiv v.1 lb
  d.makeObject c .ns (stripes * lb) stripes (reclamp c.pkt.params 0 64 v.2 3 (stripes * lb))

/-- TAKE_OPEN: chunks are reserved for the expected length. -/
def Dev.runTakeOpen (d : Dev) (c : Cmd) : Dev :=
  let v := clampParam c.pkt.params 0 0 64 0 (2 ^ 48)
  d.makeObject c .openTake 0 (ceilDiv v.1 (4096 * max d.geo.lb 1)) v.2

/-- A take's or namespace's kind code (R254). -/
def ObjKind.code : ObjKind → Nat
  | .ns => 0
  | .openTake => 1
  | .closedTake => 2
  | .exported => 3

/-- Whether an object is a take. -/
def Obj.isTake (o : Obj) : Bool := o.kind != .ns

/-- An object's size in blocks: a take's is its length rounded up to 4 KiB. -/
def Obj.size (o : Obj) : Nat := if o.kind = .ns then o.blocks else ceilDiv o.length 4096

/-- NS_QUERY and TAKE_QUERY: each names an object of its own sort (DEDUCED: assumption log, entry 22). -/
def Dev.runObjQuery (d : Dev) (c : Cmd) (take : Bool) : Dev :=
  match d.objOf c with
  | some o =>
    if take && !o.isTake then d.rangeFault c 0
    else d.done c (leBytes 2 o.num ++ leBytes 1 o.kind.code ++ leBytes 1 o.livery ++ leBytes 4 0 ++ leBytes 8 o.size
      ++ leBytes 8 o.length ++ leBytes 8 o.reserved ++ leBytes 4 o.frames.length ++ leBytes 12 0)
  | none => d.rangeFault c 0

/-- TAKE_EXPORT: a CLOSED take becomes a read-only namespace of the same number (R252). -/
def Dev.runTakeExport (d : Dev) (c : Cmd) : Dev :=
  match d.objOf c with
  | some o =>
    if o.kind = .closedTake then
      d.changeAll c [.objKind o.num .exported (ceilDiv o.length 4096)] (leBytes 4 (o.num + 1) ++ leBytes 4 0) []
    else d.rangeFault c 0
  | none => d.rangeFault c 0

/-! ## The array's queries -/

/-- ARRAY_QUERY. -/
def Dev.runArrayQuery (d : Dev) (c : Cmd) : Dev :=
  let g := d.geo
  d.done c (leBytes 1 d.lay.state ++ leBytes 1 g.d ++ leBytes 1 g.sc ++ leBytes 1 g.s ++ leBytes 1 g.n ++ leBytes 3 0
    ++ leBytes 8 g.seed ++ leBytes 16 g.identity ++ leBytes 8 g.u ++ leBytes 8 g.p ++ leBytes 8 g.l ++ leBytes 8 d.stripesReserved)

/-- MEMBER_QUERY. -/
def Dev.runMemberQuery (d : Dev) (c : Cmd) : Dev :=
  let m := c.par 0 1
  let s := d.slotAt (d.memberSlot m)
  if d.members ≤ m then d.rangeFault c 0
  else d.done c (leBytes 1 (d.memberSlot m) ++ leBytes 1 (d.ordinal m) ++ leBytes 6 0
    ++ leBytes 8 (if s.present then s.capacity else 0))

/-- LOST_STRIPE_QUERY: up to 1,000 entries of the list from an index on (R349). -/
def Dev.runLostQuery (d : Dev) (c : Cmd) : Dev :=
  let i := c.par 0 8
  let part := (d.lay.lost.drop i).take 1000
  let next := if i + part.length < d.lay.lost.length then i + part.length else 0xFFFFFFFF
  d.done c (leBytes 4 d.lay.lost.length ++ leBytes 4 next ++ (part.map fun e => leBytes 8 (e.1 + e.2 * 2 ^ 36)).flatten)

/-! ## Creation of an array (R232 to R234, R254) -/

/-- A geometry with its parts. -/
def ArrayGeo.make (d sc s n u : Nat) : ArrayGeo := ⟨d, sc, s, n, u, 0, 0, 0x10, 0x10, 0x10, []⟩

/-- SC raised while the bound of R234 is above 2^34 (step 4); a capacity of `cap` blocks. -/
def raiseSc (d sc s n cap : Nat) : Nat → Nat
  | 0 => sc
  | fuel + 1 =>
    if sc < 4 ∧ 2 ^ 34 < (ArrayGeo.make d sc s n (cap / stripBlocks sc)).bound then raiseSc d (sc + 1) s n cap fuel else sc

/-- ARRAY_CREATE's parameters after R85 and R234: the geometry without its seed, and the clamp report. -/
def arrayGeometry (p : List Byte) (n cap : Nat) : ArrayGeo × List ClampEntry :=
  let dd := clampParam p 8 0 8 4 22
  let sc := clampParam p 9 0 8 0 4
  let ss := clampParam p 10 0 8 1 4
  let d1 := if n < dd.1 + 2 + ss.1 then max 4 (n - 2 - ss.1) else dd.1
  let s1 := if n < dd.1 + 2 + ss.1 ∧ n - 2 - ss.1 < 4 then n - 6 else ss.1
  let sc1 := raiseSc d1 sc.1 s1 n cap 5
  (ArrayGeo.make d1 sc1 s1 n (cap / stripBlocks sc1),
   (if d1 = dd.1 then dd.2 else reclamp p 8 8 dd.2 5 d1) ++ (if sc1 = sc.1 then sc.2 else reclamp p 9 8 sc.2 6 sc1)
     ++ (if s1 = ss.1 then ss.2 else reclamp p 10 8 ss.2 5 s1))

/-- Whether a geometry can hold an array (R234, steps 3 and 5). -/
def ArrayGeo.usable (g : ArrayGeo) : Bool :=
  decide (7 ≤ g.n) && decide (g.mu < g.u) && decide (0 < g.a) && decide (g.reserve < g.p)

/-- The drives that a member mask names, in ascending slot order. -/
def maskSlots (mask : Nat) : List Nat := (List.range 48).filter fun k => bit mask k

/-- The capacity C of the named drives (R233). -/
def Dev.smallest (d : Dev) (slots : List Nat) : Nat :=
  min (2 ^ 36) ((slots.map fun k => (d.slotAt k).capacity).foldl min (2 ^ 36))

/-- Whether a drive may be a member: present and formatted 4096 + 64 (R254, R361). -/
def Slot.usable (s : Slot) : Bool := s.present && s.formatted && s.drive == .ready

/-! ## Labels (R236) -/

/-- The bytes of member `m`'s label, with its CRC. -/
def Dev.labelBytes (d : Dev) (m : Nat) : List Byte :=
  let g := d.geo
  let l := ("SDF4812L".toList.map fun c => BitVec.ofNat 8 c.toNat)
    ++ leBytes 1 g.layoutVersion ++ leBytes 1 g.mapVersion ++ leBytes 1 g.pfVersion ++ leBytes 1 m
  let t := leBytes 16 g.identity ++ leBytes 8 g.seed ++ leBytes 1 g.d ++ leBytes 1 g.sc ++ leBytes 1 g.s ++ leBytes 1 g.n ++ leBytes 4 0
    ++ leBytes 8 g.u ++ leBytes 8 d.lay.labelSeq
    ++ (List.range 48).flatMap (fun k => leBytes 1 (d.memberSlot k)) ++ (List.range 48).flatMap (fun k => leBytes 1 (d.ordinal k))
  fit 4096 (l ++ leBytes 4 (crc32c (fit 4096 (l ++ leBytes 4 0 ++ t))) ++ t)

/-- The label block of member `m` for copy `copy`, with its protection field (R236). -/
def Dev.labelBlock (d : Dev) (m copy : Nat) : Block :=
  let data := d.labelBytes m
  { data := data
    pf := { guard := crc64 data, tag := 0, lref := 0xFFF * 2 ^ 52 + 128 * copy, psi := 2 ^ 36 - 1, strip := 29, stamp := d.now, wseq := 0,
            keySlot := 0, cv := false, role := 3, version := 0x10 } }

/-- Label copy `copy` is written on member `m`, on its BHOME queue and in no window (R559). The number is the drive
command's. -/
def Dev.writeLabel (d : Dev) (m copy : Nat) (decl : Bool) : Dev × Nat :=
  let p := d.submitTo m .write (128 * copy) 1 2 (.label m copy decl)
  (p.1.emit (.block (d.memberSlot m) (d.labelBlock m copy)), p.2)

/-! ## Checkpoints (R247, R248) -/

/-- The member and block of copy `c` of slot `b` of segment `g` (R247). -/
def ArrayGeo.ckptPlace (a : ArrayGeo) (g b c : Nat) : Nat × Nat :=
  let q := 6 * g + 3 * b + c
  (q % max a.n 1, 1048832 + 128 * (q / max a.n 1))

/-- The slot that does not hold a segment's newest copy. -/
def Dev.ckptSlot (d : Dev) (g : Nat) : Nat :=
  match d.lay.newest.find? fun x => x.1 == g with
  | some x => 1 - x.2.1
  | none => 0

/-- `f` applied to segment `g`. -/
def Dev.onSegment (d : Dev) (g : Nat) (f : Segment → Segment) : Dev :=
  d.onLay fun l => { l with segments := modifyAt Segment.num g f l.segments }

/-- Segment `g` has been written: a record whose change the snapshot holds no longer waits for it (R297). -/
def LogRecord.written (g : Nat) (r : LogRecord) : LogRecord :=
  if g ∈ r.snapped then { r with segs := r.segs.erase g, snapped := r.snapped.erase g } else r

/-- Segment `g` is snapshotted: the snapshot holds the record's change if it was applied (R248). -/
def LogRecord.snap (g : Nat) (r : LogRecord) : LogRecord :=
  if r.applied && r.segs.contains g && !(r.snapped.contains g) then { r with snapped := g :: r.snapped } else r

/-- A segment's three copies are acknowledged (R248, R297): the slot is its newest, the records whose changes the snapshot
holds no longer wait for it, and a clean segment is forgotten. -/
def Dev.ckptDone (d : Dev) (g : Nat) : Dev :=
  match d.lay.segments.find? fun s => s.num == g with
  | none => d
  | some s =>
    if s.writing && s.copies.isEmpty then
      let slot := d.ckptSlot g
      let d := d.onLay fun l =>
        { l with newest := (dropAt (·.1) g l.newest) ++ [(g, (slot, s.newSeq))]
                 segments := if s.dirtyAt.isSome then modifyAt Segment.num g (fun s => { s with writing := false }) l.segments
                   else dropAt Segment.num g l.segments }
      (d.onBlt fun b => { b with records := b.records.map (LogRecord.written g) }).retire
    else d

/-- Copy `c` of a segment that is being written goes to its member in a BHOME window. -/
def Dev.writeCkptCopy (d : Dev) (g c : Nat) : Dev :=
  let p := d.geo.ckptPlace g (d.ckptSlot g) c
  d.submit' p.1 .write p.2 128 2 (.ckpt g c)

/-- A dirty segment is snapshotted and its copies are written (R248); copies on members that are neither LIVE nor RETURNED
are skipped (R353). -/
def Dev.writeSegment (d : Dev) (g : Nat) : Dev :=
  let live := (List.range 3).filter fun c => d.isLive (d.geo.ckptPlace g (d.ckptSlot g) c).1
  let seq := d.lay.ckptSeq + 1
  let d := (d.onLay fun l => { l with ckptSeq := seq }).onSegment g fun s =>
    { s with dirtyAt := none, writing := true, copies := live, newSeq := seq, snapRsn := d.blt.nextRsn }
  let d := d.onBlt fun b => { b with records := b.records.map (LogRecord.snap g) }
  (d.forEach live fun d c => d.writeCkptCopy g c).ckptDone g

/-- The interval of LAY_CKPT in quanta. -/
def Dev.ckptInterval (d : Dev) : Nat := quantaMs (d.fld Reg.layCkpt 0 16)

/-- A dirty segment that is not being written, with the quantum of its first change. -/
def Dev.dirtySince (d : Dev) (g : Nat) : Option Nat :=
  match d.lay.segments.find? fun s => s.num == g with
  | some s => s.dirtyAt
  | none => none

/-- Segments that may be written now. -/
def Dev.dirtySegments (d : Dev) : List Nat := (d.lay.segments.filter fun s => s.dirtyAt.isSome && !s.writing).map Segment.num

/-- CHECKPOINT_INTERVAL: a dirty segment is written within the interval of its first change (R248). -/
def execCheckpointInterval (segment : Nat) (s : State) : Host.Outcome State Fault Refusal :=
  s.run true fun d =>
    match d.dirtySince segment with
    | some t =>
      if d.flag Reg.layCkpt 16 && d.lay.state == 3 && d.isActive && d.dirtySegments.contains segment then
        (d.upTo (t + d.ckptInterval)).writeSegment segment
      else d
    | none => d

/-- CKPT_LAG: a segment has stayed dirty for four intervals (R248). -/
def execCkptLag (segment : Nat) (s : State) : Host.Outcome State Fault Refusal :=
  s.run true fun d =>
    match d.dirtySince segment with
    | some t => (d.upTo (t + 4 * d.ckptInterval)).raise 0x165
    | none => d

/-! ## LAY_LOC (R239, R240) -/

/-- What a write of LAY_LOC_CMD does: the place of a strip now, in LAY_LOC_OUT and LAY_LOC_BLK. -/
def Dev.locate (d : Dev) : Dev :=
  let psi := d.raw Reg.layLocPsi + 2 ^ 32 * d.fld Reg.layLocCmd 0 4
  let strip := d.fld Reg.layLocCmd 8 5
  let show_ (out blk : Nat) : Dev :=
    ((d.setRaw Reg.layLocOut out).setRaw Reg.layLocBlk (blk % 2 ^ 32)).setRaw (bank Reg.layLocBlkHi 1) (blk / 2 ^ 32)
  if d.lay.geo.isSome ∧ psi < d.geo.p ∧ strip < d.geo.w then
    match d.place psi strip with
    | some q => show_ (q.member + (d.memberSlot q.member % 64) * 2 ^ 8 + b2n q.spare * 2 ^ 16 + 2 ^ 31) (q.unit * d.geo.b)
    | none => show_ 0 0
  else show_ 0 0

end Sys2Proof.Machine
end

