-- ==== Sys2Proof/Machine/Memories.lean ====
section
/-! DEFINITION. The memories as bytes in canonical form, their words, poison and injected patterns (R429 to R434). -/

namespace Sys2Proof.Machine

/-! ## Bytes -/

/-- A memory: its bytes in canonical form. -/
abbrev Memory := List Host.Cell

/-- An unlisted byte reads 0: every word of every memory is written with zeros before use (R431). -/
def byteDflt : Nat → Byte := fun _ => 0

/-- The canonical form of a memory: addresses strictly rising, no byte equal to what an unlisted address reads as. -/
def Memory.wf (m : Memory) : Bool := swf byteDflt m

/-- One byte. -/
def Memory.get (m : Memory) (a : Nat) : Byte := sget byteDflt m a

/-- `n` bytes from `a` on, where no entry before the list's first lies at or above `a`. -/
def bytesFrom : Memory → Nat → Nat → List Byte
  | _, _, 0 => []
  | [], a, n + 1 => byteDflt a :: bytesFrom [] (a + 1) n
  | (k, b) :: t, a, n + 1 => if k = a then b :: bytesFrom t (a + 1) n else byteDflt a :: bytesFrom ((k, b) :: t) (a + 1) n

/-- `n` bytes from `a` on. -/
def Memory.read (m : Memory) (a n : Nat) : List Byte := bytesFrom (m.dropWhile fun c => decide (c.1 < a)) a n

/-- The entries of bytes that lie from `a` on. -/
def cellsFrom (a : Nat) : List Byte → Memory
  | [] => []
  | b :: t => if b = byteDflt a then cellsFrom (a + 1) t else (a, b) :: cellsFrom (a + 1) t

/-- Bytes written from `a` on. -/
def Memory.write (m : Memory) (a : Nat) (l : List Byte) : Memory :=
  let e := a + l.length
  (m.filter fun c => decide (c.1 < a)) ++ cellsFrom a l ++ m.filter fun c => decide (e ≤ c.1)

/-- Bytes written from `a` on where the enable of each is set (R430: a partial write is merged). -/
def Memory.writeWhere (m : Memory) (a : Nat) (l : List (Bool × Byte)) : Memory :=
  Memory.write m a (l.zipWith (fun x old => if x.1 then x.2 else old) (Memory.read m a l.length))

/-! ## Words (R429) -/

/-- The bytes of a word under one code. -/
def wordBytes (m : Nat) : Nat := if m < 2 then 32 else if m < 6 then 64 else 8

/-- Where a memory begins in its space. The stacks of HBM and the channels of DDR5 lie one after the other (PRESUMED: assumption log, entry 24). -/
def spaceBase (m : Nat) : Nat := if m < 2 then m * memoryBytes 0 else (m - 2) * memoryBytes 2

/-- The bytes of a space: HBM or DDR5. -/
def spaceBytes (hbm : Bool) : Nat := if hbm then 2 * memoryBytes 0 else 4 * memoryBytes 2

/-- The memory that holds byte `a` of a space. -/
def memoryAt (hbm : Bool) (a : Nat) : Nat := if hbm then a / memoryBytes 0 else 2 + a / memoryBytes 2

/-- Whether a word, by memory and byte address, has bytes among the `n` from `a` on of a space. -/
def wordHit (hbm : Bool) (a n : Nat) (p : Nat × Nat) : Bool :=
  decide (p.1 < 6) && (decide (p.1 < 2) == hbm) && decide (spaceBase p.1 + p.2 < a + n) && decide (a < spaceBase p.1 + p.2 + wordBytes p.1)

/-- Whether all of a word lies there. -/
def wordCovered (hbm : Bool) (a n : Nat) (p : Nat × Nat) : Bool :=
  decide (p.1 < 6) && (decide (p.1 < 2) == hbm) && decide (a ≤ spaceBase p.1 + p.2) && decide (spaceBase p.1 + p.2 + wordBytes p.1 ≤ a + n)

/-- The word of byte `a` of a space. -/
def wordOf (hbm : Bool) (a : Nat) : Nat × Nat :=
  let m := memoryAt hbm a
  (m, (a - spaceBase m) / wordBytes m * wordBytes m)

/-! ## Reading and writing -/

/-- The poisoned word met first by a read. -/
def Dev.poisonIn (d : Dev) (hbm : Bool) (a n : Nat) : Option (Nat × Nat) := d.mem.poison.find? (wordHit hbm a n)

/-- A poisoned word that is written whole is clean again (R430), and any write leaves valid check bits over a correctable pattern. -/
def Mem.cleaned (m : Mem) (hbm : Bool) (a n : Nat) : Mem :=
  { m with poison := m.poison.filter fun p => !(wordCovered hbm a n p), flipped := m.flipped.filter fun p => !(wordHit hbm a n p) }

/-- Whether a write from `a` on fills all of a word: every byte of it is written with its enable set. -/
def wordFilled (hbm : Bool) (a : Nat) (l : List (Bool × Byte)) (p : Nat × Nat) : Bool :=
  wordCovered hbm a l.length p && ((l.drop (spaceBase p.1 + p.2 - a)).take (wordBytes p.1)).all fun x => x.1

/-- Whether a write from `a` on writes some byte of a word. -/
def wordTouched (hbm : Bool) (a : Nat) (l : List (Bool × Byte)) (p : Nat × Nat) : Bool :=
  (List.range l.length).any fun i => (l.getD i (false, 0)).1 && wordHit hbm (a + i) 1 p

/-- The same for a write with byte enables: a word that is not filled is merged, and stays poisoned (R430). -/
def Mem.merged (m : Mem) (hbm : Bool) (a : Nat) (l : List (Bool × Byte)) : Mem :=
  { m with poison := m.poison.filter fun p => !(wordFilled hbm a l p), flipped := m.flipped.filter fun p => !(wordTouched hbm a l p) }

/-- An armed injection stores its pattern in the first word of the next write to its memory (MEM_INJ). -/
def Mem.injected (m : Mem) (hbm : Bool) (a : Nat) : Mem :=
  match m.inject with
  | none => m
  | some (i, double) =>
    if i ≠ memoryAt hbm a then m
    else if double then { m with inject := none, poison := wordOf hbm a :: m.poison.filter fun p => p != wordOf hbm a }
    else { m with inject := none, flipped := wordOf hbm a :: m.flipped }

/-- Bytes of a space. -/
def Dev.spaceRead (d : Dev) (hbm : Bool) (a n : Nat) : List Byte := Memory.read (if hbm then d.mem.hbm else d.mem.ddr) a n

/-- `d` with other memories. -/
def Dev.onMem (d : Dev) (f : Mem → Mem) : Dev := { d with mem := f d.mem }

/-- Bytes written to a space where their enables are set (R430). -/
def Dev.spaceWriteWhere (d : Dev) (hbm : Bool) (a : Nat) (l : List (Bool × Byte)) : Dev :=
  d.onMem fun m =>
    let m := if hbm then { m with hbm := Memory.writeWhere m.hbm a l } else { m with ddr := Memory.writeWhere m.ddr a l }
    if l.any fun x => x.1 then (m.merged hbm a l).injected hbm a else m

/-- Bytes written to a space. -/
def Dev.spaceWrite (d : Dev) (hbm : Bool) (a : Nat) (l : List Byte) : Dev :=
  d.onMem fun m =>
    let m := if hbm then { m with hbm := Memory.write m.hbm a l } else { m with ddr := Memory.write m.ddr a l }
    if l.isEmpty then m else (m.cleaned hbm a l.length).injected hbm a

/-- Bytes of HBM. -/
def Dev.hbmRead (d : Dev) (a n : Nat) : List Byte := d.spaceRead true a n

/-- Whether a poisoned word lies in `n` bytes of HBM from `a` on (R430). -/
def Dev.hbmPoisoned (d : Dev) (a n : Nat) : Bool := (d.poisonIn true a n).isSome

/-- Bytes written to HBM. -/
def Dev.hbmWrite (d : Dev) (a : Nat) (l : List Byte) : Dev := d.spaceWrite true a l

/-! ## Errors (R432 to R436) -/

/-- The memory controllers count (MEM_CNT_IDX): 0 CE, 1 UE, 2 WRITEBACKS, 3 WRITEBACK_DROPPED. -/
def Dev.countMem (d : Dev) (m item : Nat) : Dev := d.bump 0x0A m item 1

/-- A correctable error that a read found (R432): counted for its device, and written back unless a requester's write won. -/
def Dev.correctable (d : Dev) (m device : Nat) (overwritten : Bool) : Dev :=
  ((d.onMem fun x => { x with ceWindow := x.ceWindow ++ [(m, device)] }).countMem m 0).countMem m (if overwritten then 3 else 2)

/-- A read over words that hold an injected correctable pattern corrects each of them. -/
def Dev.correctIn (d : Dev) (hbm : Bool) (a n : Nat) : Dev :=
  let hit := d.mem.flipped.filter (wordHit hbm a n)
  let d := d.onMem fun m => { m with flipped := m.flipped.filter fun p => !(wordHit hbm a n p) }
  d.forEach hit fun d p => d.correctable p.1 0 false

/-- The event of an uncorrectable error in a memory (R434). -/
def ueSource (m : Nat) : Nat := if m < 2 then 0x062 else if m < 6 then 0x063 else 0x064

/-- An uncorrectable error that a read found (R434, R436): its record while none is latched, the count and the event. -/
def Dev.uncorrectable (d : Dev) (m a syndrome : Nat) : Dev :=
  let d := if d.flag Reg.memErr 8 then d
    else (((d.setRaw Reg.memUeAddrLo a).setRaw Reg.memUeAddrHi (a / 2 ^ 32 % 64 + m * 256)).setRaw Reg.memUeSyn syndrome).setFld Reg.memErr 8 1 1
  (d.countMem m 1).raise (ueSource m)

/-- A read that meets a poisoned word in `n` bytes from `a` on of a space; the raw syndrome of a poisoned word is not given (assumption
log, entry 3). -/
def Dev.notePoison (d : Dev) (hbm : Bool) (a n : Nat) : Dev :=
  match d.poisonIn hbm a n with
  | some p => let f := d.takeFree; f.2.uncorrectable p.1 p.2 (f.1 % 2 ^ 32)
  | none => d

end Sys2Proof.Machine
end

