-- ==== Sys2Proof/Machine/Stripe.lean ====
section
/-! DEFINITION. The blocks of a stripe: their protection fields (R253, R269), the
checks of R312, and the parity of a row (R241, R242). -/

namespace Sys2Proof.Machine

/-! ## Protection fields (R253, R269) -/

/-- The logical reference of a data block. -/
def dataRef (object lba : Nat) : Nat := object * 2 ^ 52 + lba

/-- The logical reference of a P or Q block. -/
def parityRef (row : Nat) : Nat := 0xFFF * 2 ^ 52 + row

/-- The role that a strip number implies (R312). -/
def ArrayGeo.role (g : ArrayGeo) (strip : Nat) : Nat := if strip < g.d then 0 else if strip = g.d then 1 else 2

/-- The logical reference that belongs at row `row` of strip `strip` of a logical stripe of an object. -/
def ArrayGeo.refAt (g : ArrayGeo) (object lstripe strip row : Nat) : Nat :=
  if strip < g.d then dataRef object (lstripe * g.lb + strip * g.b + row) else parityRef row

/-- A block as it is written at row `row` of strip `strip`: guard, reference, position, stamp and sequence; CV 0. -/
def ArrayGeo.block (g : ArrayGeo) (object lstripe psi strip row stamp wseq : Nat) (data : List Byte) : Block :=
  { data := data
    pf := { guard := crc64 (fit 4096 data), tag := 0, lref := g.refAt object lstripe strip row, psi := psi, strip := strip, stamp := stamp,
            wseq := wseq, keySlot := 0, cv := false, role := g.role strip, version := 0x10 } }

/-- Checks 1 to 4 of R312 on a block expected at a place. -/
def ArrayGeo.checks (g : ArrayGeo) (object lstripe psi strip row : Nat) (b : Block) : Bool :=
  b.pf.guard == crc64 (fit 4096 b.data) && b.pf.role == g.role strip && b.pf.lref == g.refAt object lstripe strip row
    && b.pf.psi == psi && b.pf.strip == strip

/-! ## Parity of a row (R241, R242) -/

/-- The sum of data blocks. -/
def sumBlocks (l : List (List Byte)) : List Byte := l.foldl xorBytes zeroBlock

/-- P over the data blocks of a row. -/
def parityP (data : List (List Byte)) : List Byte := sumBlocks data

/-- Q over the data blocks of a row. -/
def parityQ (data : List (List Byte)) : List Byte :=
  sumBlocks ((List.range data.length).map fun i => scaleBytes (pWeight i) (data.getD i []))

/-- The data blocks of a row of `fill` strips from what is known of it, by strip; P is at place `dp` and Q at `dp + 1`
(R242). `none` when they cannot be had. -/
def solveRow (fill dp : Nat) (have_ : Nat → Option (List Byte)) : Option (List (List Byte)) :=
  let known := (List.range fill).map fun i => (have_ i).getD zeroBlock
  let px := (have_ dp).map fun p => xorBytes p (parityP known)
  let qx := (have_ (dp + 1)).map fun q => xorBytes q (parityQ known)
  match (List.range fill).filter fun i => (have_ i).isNone with
  | [] => some known
  | [x] =>
    match px, qx with
    | some p, _ => some (known.set x p)
    | none, some q => some (known.set x (unscaleBytes (pWeight x) q))
    | none, none => none
  | [x, y] =>
    match px, qx with
    | some p, some q =>
      let dx := unscaleBytes (Nat.xor (pWeight x) (pWeight y)) (xorBytes (scaleBytes (pWeight y) p) q)
      some ((known.set x dx).set y (xorBytes p dx))
    | _, _ => none
  | _ => none

/-- The value of data strip `x` from P alone, and from Q alone, when every other data strip is known (R306, R314). -/
def solveBoth (fill dp x : Nat) (have_ : Nat → Option (List Byte)) : Option (List Byte × List Byte) :=
  let known := (List.range fill).map fun i => if i = x then zeroBlock else (have_ i).getD zeroBlock
  match have_ dp, have_ (dp + 1) with
  | some p, some q => some (xorBytes p (parityP known), unscaleBytes (pWeight x) (xorBytes q (parityQ known)))
  | _, _ => none

end Sys2Proof.Machine
end

