-- ==== Sys2Proof/Machine/RangeLocks.lean ====
section
/-! DEFINITION. The range lock table (R196, R197): requests, what conflicts, what may be granted, and releases. -/

namespace Sys2Proof.Machine

/-- `f` applied to the host queue engine. -/
def Dev.onHqe (d : Dev) (f : Hqe → Hqe) : Dev := { d with hqe := f d.hqe }

/-- Two entries conflict: the same object, overlapping ranges, at least one exclusive (R196). -/
def RangeLock.conflicts (a b : RangeLock) : Bool :=
  a.object == b.object && decide (a.first ≤ b.last) && decide (b.first ≤ a.last) && (a.exclusive || b.exclusive)

/-- Entries granted (RLT_STATUS.USED). -/
def Dev.locksUsed (d : Dev) : Nat := (d.hqe.locks.filter fun l => l.granted.isSome).length

/-- A lock request or entry by number. -/
def Dev.lock? (d : Dev) (id : Nat) : Option RangeLock := findAt RangeLock.id id d.hqe.locks

/-- Whether a request may be granted now (R197): it conflicts with no granted entry and no earlier request, and an entry is
free. Requests stand in the order they were taken, which their numbers give. -/
def Dev.grantable (d : Dev) (l : RangeLock) : Bool :=
  l.granted.isNone && decide (d.locksUsed < 8192)
    && !(d.hqe.locks.any fun x => x.id != l.id && x.conflicts l && (x.granted.isSome || decide (x.id < l.id)))

/-- A request joins the table (R197): one that must wait counts in STALLS, or in FULL_STALLS with RLT_FULL when every entry
is in use. The number is the request's. -/
def Dev.askLock (d : Dev) (object first last : Nat) (exclusive : Bool) (holder : LockHolder) : Dev × Nat :=
  let l : RangeLock :=
    { id := d.hqe.nextLock, object := object, first := first, last := last, exclusive := exclusive, holder := holder, granted := none,
      since := d.q }
  let d := d.onHqe fun h => { h with locks := h.locks ++ [l], nextLock := h.nextLock + 1 }
  if 8192 ≤ d.locksUsed then ((d.bump 0x23 0 2 1).raise 0x149, l.id)
  else if d.grantable l then (d, l.id)
  else (d.bump 0x23 0 1 1, l.id)

/-- The entry of a granted request: the lowest free one; GRANTS, STALL_CYCLES of the Turnpike core clock, and PEAK. -/
def Dev.grantLock (d : Dev) (l : RangeLock) : Dev :=
  let free := ((List.range 8192).find? fun i => !(d.hqe.locks.any fun x => x.granted == some i)).getD 0
  let d := d.onHqe fun h => { h with locks := modifyAt RangeLock.id l.id (fun x => { x with granted := some free }) h.locks }
  let d := (d.bump 0x23 0 0 1).bump 0x23 0 3 ((d.q - l.since) * 27 / 16)
  let d := d.sample 11 0 ((d.q - l.since) * 5 / 4)
  if d.fld Reg.rltStatus 16 14 < d.locksUsed then d.setFld Reg.rltStatus 16 14 d.locksUsed else d

/-- A release (R196). Requests that it lets through are granted in steps of their own. -/
def Dev.releaseLock (d : Dev) (id : Nat) : Dev := d.onHqe fun h => { h with locks := dropAt RangeLock.id id h.locks }

/-- The snapshot that a write of RLT_IDX takes. -/
def Dev.snapLock (d : Dev) : Dev :=
  let i := d.fld Reg.rltIdx 0 13
  d.onHqe fun h => { h with ent := (h.locks.find? fun l => l.granted == some i).map fun l => (i, l) }

end Sys2Proof.Machine
end

