-- ==== Sys2Proof/Machine/Nib.lean ====
section
/-! DEFINITION. Nib, the write path (R256 to R288): naming, descriptors and their states, closing, paths, the single-pass
drain, small writes, and when a stripe is durable, mapped and released. -/

namespace Sys2Proof.Machine

/-! ## Inkwells as Nib sees them (R162, R257, R258) -/

/-- An Inkwell by index. -/
def Dev.inkOf (d : Dev) (index : Nat) : Option Inkwell := findAt Inkwell.index index d.rae.inks

/-- The Inkwell that a key names while it is current (R162). -/
def Dev.inkAt (d : Dev) (key : Nat) : Option Inkwell :=
  if d.tagOf (key / 256) = key % 256 then d.inkOf (key / 256) else none

/-- An Inkwell's size in bytes: whole pages of 64 KiB (R166). -/
def Inkwell.size (k : Inkwell) : Nat := k.pages.length * 65536

/-- The HBM address of offset `o` of an Inkwell. -/
def Inkwell.addr (k : Inkwell) (o : Nat) : Nat := k.pages.getD (o / 65536) 0 * 65536 + o % 65536

/-- The placed mark and stamp of the 4 KiB block at an HBM address. -/
def Dev.placedAt (d : Dev) (a : Nat) : Option Placed := findAt Placed.block (a / 4096) d.rae.placed

/-- Whether a block's placed mark is set. -/
def Dev.isPlaced (d : Dev) (a : Nat) : Bool := match d.placedAt a with | some p => p.mark | none => false

/-- The placed mark of a block cleared (R257). -/
def Dev.clearMark (d : Dev) (a : Nat) : Dev :=
  { d with rae := { d.rae with placed := modifyAt Placed.block (a / 4096) (fun p => { p with mark := false }) d.rae.placed } }

/-! ## Descriptors and jobs -/

/-- `f` applied to Nib. -/
def Dev.onNib (d : Dev) (f : Nib → Nib) : Dev := { d with nib := f d.nib }

/-- A descriptor by index. -/
def Dev.desc? (d : Dev) (i : Nat) : Option Desc := findAt Desc.idx i d.nib.descs

/-- `f` applied to descriptor `i`. -/
def Dev.onDesc (d : Dev) (i : Nat) (f : Desc → Desc) : Dev := d.onNib fun n => { n with descs := modifyAt Desc.idx i f n.descs }

/-- A job by number. -/
def Dev.job? (d : Dev) (j : Nat) : Option WriteJob := findAt WriteJob.id j d.nib.jobs

/-- `f` applied to job `j`. -/
def Dev.onJob (d : Dev) (j : Nat) (f : WriteJob → WriteJob) : Dev := d.onNib fun n => { n with jobs := modifyAt WriteJob.id j f n.jobs }

/-- A counter of Nib. -/
def Dev.countNib (d : Dev) (item n : Nat) : Dev := d.bump 0x26 0 item n

/-- Nib cycles of 0.625 ns in a number of quanta. -/
def nibCycles (q : Nat) : Nat := 2 * q

/-- The OPEN descriptor of a logical stripe (R261). -/
def Dev.openDesc (d : Dev) (object ls : Nat) : Option Desc :=
  d.nib.descs.find? fun s => s.state == .opened && s.object == object && s.lstripe == ls

/-- A fresh descriptor. -/
def Desc.fresh (i object ls livery q : Nat) (lock : Option Nat) : Desc :=
  { idx := i, object := object, lstripe := ls, livery := livery, state := .opened, path := .none, named := [], stream := false,
    lastNamed := q, closeQ := q, fill := 0, psi := none, oldPsi := none, seq := 0, hasSlot := false, lock := lock, jobs := [],
    done := [], accP := [], accQ := [], old := [], reads := [], writes := [], intentRsn := 0, commitRsn := none, closeRsn := none,
    waitingSince := q, charged := false }

/-- A descriptor taken for a logical stripe: the lowest FREE one; the highest use is kept. -/
def Dev.newDesc (d : Dev) (object ls livery : Nat) (lock : Option Nat) : Dev × Nat :=
  let i := (freeKey Desc.idx d.nib.descs 16384 0).getD 0
  let d := (d.onNib fun n => { n with descs := n.descs ++ [Desc.fresh i object ls livery d.q lock] }).take 5 1
  (d.onNib fun n => { n with peak := max n.peak n.descs.length }, i)

/-- A block to be named: its logical block, its HBM address, its bytes of data, its stamp, and whether its placement is awaited. -/
structure NameReq where
  lba : Nat
  addr : Nat
  live : Nat
  stamp : Option Nat
  awaited : Bool
  deriving DecidableEq, Repr

/-- The distinct logical stripes that some blocks belong to. -/
def stripesOf (lb : Nat) (l : List NameReq) : List Nat := (l.map fun x => x.lba / max lb 1).dedup

/-- Whether a naming may have the descriptors it needs: a naming that takes a descriptor is fresh at level 3 (R261, R420). -/
def Dev.descRoom (d : Dev) (object : Nat) (l : List NameReq) (lock : Option Nat) : Bool :=
  let need := ((stripesOf d.geo.lb l).filter fun s => lock.isSome || (d.openDesc object s).isNone).length
  need == 0 || d.mayTake 5 need false

/-- One block is named into the descriptor of its stripe (R256 to R258). -/
def Dev.nameInto (d : Dev) (job i : Nat) (k : Nat) (x : NameReq) : Dev :=
  (d.onDesc i fun s =>
    { s with
      named := (s.named.filter fun n => n.block != k) ++ [⟨k, x.addr, x.live, x.stamp, x.awaited, job⟩]
      stream := s.stream || x.awaited
      lastNamed := d.q
      jobs := if job ∈ s.jobs then s.jobs else s.jobs ++ [job] }).onJob job fun j =>
    { j with waits := if i ∈ j.waits then j.waits else j.waits ++ [i], pending := if i ∈ j.pending then j.pending else j.pending ++ [i] }

/-- Blocks of an object are named for a job; the list gives the descriptors. -/
def Dev.nameAll (d : Dev) (job object livery : Nat) (l : List NameReq) (lock : Option Nat) : Dev × List Nat :=
  let lb := max d.geo.lb 1
  (stripesOf lb l).foldl (fun (acc : Dev × List Nat) ls =>
    let p := match (if lock.isSome then none else acc.1.openDesc object ls) with
      | some s => (acc.1, s.idx)
      | none => acc.1.newDesc object ls livery lock
    (p.1.forEach (l.filter fun x => x.lba / lb == ls) fun d x => d.nameInto job p.2 (x.lba % lb) x, acc.2 ++ [p.2])) (d, [])

/-! ## Failure of jobs (R284) -/

/-- A job fails with a status and detail, unless it has failed already; on a take, every later COMMIT that is not yet
durable fails with detail 0x0002 (R284). -/
def Dev.failJob (d : Dev) (j status detail : Nat) : Dev :=
  match d.job? j with
  | none => d
  | some w =>
    if w.failed.isSome then d
    else
      let d := d.onJob j fun w => { w with failed := some (status, detail) }
      if w.takeOrdinal = 0 then d
      else
        let later := d.nib.jobs.filter fun x =>
          x.object == w.object && decide (w.takeOrdinal < x.takeOrdinal) && x.failed.isNone
        d.forEach later fun d x => (d.onJob x.id fun x => { x with failed := some (status, 0x0002) }).raiseL 0x179 (some x.livery)

/-- Every job of a descriptor fails. -/
def Dev.failJobs (d : Dev) (s : Desc) (status detail : Nat) : Dev := d.forEach s.jobs fun d j => d.failJob j status detail

/-- A descriptor is durable for its jobs (R274, R277, R283). -/
def Dev.jobsDurable (d : Dev) (s : Desc) : Dev :=
  d.forEach s.jobs fun d j => d.onJob j fun w =>
    { w with waits := w.waits.erase s.idx, durable := some (max (w.durable.getD 0) d.q) }

/-- A descriptor has reached its jobs' reply point (R276, R277); `kind` says which count of the reply it adds to. -/
def Dev.jobsReached (d : Dev) (s : Desc) (kind : Nat) : Dev :=
  d.forEach s.jobs fun d j => d.onJob j fun w =>
    { w with pending := w.pending.erase s.idx, counts := w.counts.set kind (w.counts.getD kind 0 + 1) }

/-! ## Ends of a descriptor -/

/-- A descriptor is FREE again. -/
def Dev.freeDesc (d : Dev) (i : Nat) : Dev := (d.onNib fun n => { n with descs := dropAt Desc.idx i n.descs }).release 5 1

/-- A descriptor releases its range lock, unless another descriptor of the same write still needs it (R196), and is FREE. -/
def Dev.releaseDesc (d : Dev) (i : Nat) : Dev :=
  match d.desc? i with
  | none => d
  | some s =>
    let d := d.freeDesc i
    match s.lock with
    | some l => if d.nib.descs.any fun x => x.lock == some l then d else d.releaseLock l
    | none => d

/-- The descriptor leaves its jobs without having served them. -/
def Dev.dropFromJobs (d : Dev) (s : Desc) : Dev :=
  d.forEach s.jobs fun d j => d.onJob j fun w => { w with waits := w.waits.erase s.idx, pending := w.pending.erase s.idx }

/-- A drain fails (R263, R273): its physical stripe is FREE again, its intent is closed with outcome 1, and the lock goes
when that CLOSE is home-acknowledged (R298); without an intent the lock goes at once. -/
def Dev.failDesc (d : Dev) (i status detail : Nat) : Dev :=
  match d.desc? i with
  | none => d
  | some s =>
    let d := (d.failJobs s status detail).dropFromJobs s
    let d := match s.psi with | some p => d.setPhys p 0 | none => d
    let d := d.when (decide (status = 0x8009)) fun d => d.raiseL 0x178 (some s.livery)
    if s.intentRsn = 0 then d.releaseDesc i
    else
      let r := d.append (.close s.seq s.intentRsn 1)
      r.1.onDesc i fun s => { s with state := .failed, hasSlot := false, closeRsn := some r.2 }

/-- A drain fails for an uncorrectable error (R273). -/
def Dev.drainFail (d : Dev) (i : Nat) : Dev := (((d.countNib 9 1).raise 0x170).failDesc i 0x800D 0x0001)

/-! ## Physical stripes and write sequences (R246, R268) -/

/-- The lowest FREE physical stripe (DESIGN CHOICE: assumption log, entry 21). -/
def Dev.freePsi (d : Dev) : Option Nat := freeKey (·.1) d.lay.phys d.geo.p 0

/-- The next array-wide write sequence is taken. -/
def Dev.takeSeq (d : Dev) : Dev × Nat := (d.onNib fun n => { n with seq := n.seq + 1 }, d.nib.seq)

/-- A physical stripe goes to the descriptor; NO_PHYS when there is none (R268). -/
def Dev.allocFor (d : Dev) (i : Nat) : Dev × Bool :=
  match d.freePsi with
  | some p => ((d.setPhys p 1).onDesc i fun s => { s with psi := some p }, true)
  | none => (d.raise 0x174, false)

/-! ## Paths (R260, R278 to R281) -/

/-- The strips that hold named blocks. -/
def Desc.strips (s : Desc) (b : Nat) : List Nat := (s.named.map fun n => n.block / max b 1).dedup

/-- The rows that named blocks cover, in ascending order. -/
def Desc.rows (s : Desc) (b : Nat) : List Nat := (List.range b).filter fun r => s.named.any fun n => n.block % max b 1 == r

/-- One above the highest strip that holds a named block. -/
def Desc.top (s : Desc) (b : Nat) : Nat := (s.strips b).foldl (fun a i => max a (i + 1)) 0

/-- The path for a descriptor whose lock is granted (R260, R279). `none` stands for a LOST entry. -/
def Dev.pathOf (d : Dev) (s : Desc) : Option WritePath :=
  let g := d.geo
  let e := d.entry s.object s.lstripe
  if s.named.length = g.lb then some .full
  else match e.state with
    | .lost => none
    | .unmapped => some .fresh
    | _ =>
      if e.state = .short ∧ e.fill < s.top g.b then some .merge
      else if (s.strips g.b ++ [g.d, g.d + 1]).any fun i => d.unbuilt e.psi i then some .recon
      else some .small

/-- A strip, or one block of it at row `r`, is read for descriptor `i` in a COMMIT window (R277, R281). -/
def Dev.readOld (d : Dev) (i psi strip row n : Nat) : Dev :=
  match d.readPlace psi strip with
  | some p =>
    let c := d.submitTo p.1 .read (p.2 + row) n 0 (.oldRead i strip row n)
    c.1.onDesc i fun s => { s with reads := s.reads ++ [c.2], done := s.done ++ (List.range n).map fun k => (strip, row + k) }
  | none => d.onDesc i fun s => { s with done := s.done ++ (List.range n).map fun k => (strip, row + k) }

/-- The old blocks that a path needs: strips by row (R277, R279, R281). -/
def Dev.neededOld (d : Dev) (s : Desc) : List (Nat × Nat) :=
  let g := d.geo
  let e := d.entry s.object s.lstripe
  match s.path with
  | .merge => (List.range e.fill).flatMap fun i => (List.range g.b).map fun r => (i, r)
  | .small => (s.rows g.b).flatMap fun r =>
      ((s.named.filter fun n => n.block % g.b == r).map fun n => (n.block / g.b, r)) ++ [(g.d, r), (g.d + 1, r)]
  | .recon => (s.rows g.b).flatMap fun r =>
      ((List.range e.fill).filter fun i => !(s.named.any fun n => n.block == i * g.b + r)).map fun i => (i, r)
  | _ => []

/-- The old blocks of a MERGE, SMALL or RECON path are read. -/
def Dev.startOld (d : Dev) (i : Nat) : Dev :=
  match d.desc? i with
  | none => d
  | some s =>
    let e := d.entry s.object s.lstripe
    if s.path = .merge then d.forEach (List.range e.fill) fun d k => d.readOld i e.psi k 0 d.geo.b
    else d.forEach (d.neededOld s) fun d x => d.readOld i e.psi x.1 x.2 1

/-- User bytes that the limiter of R278 would count for a descriptor. -/
def Desc.userBytes (s : Desc) : Nat := 4096 * s.named.length

/-- Whether the limiter admits a descriptor now, and the module with its bytes charged: NIB_SUB.RATE MB/s over each 1 ms. A
descriptor above a whole millisecond's allowance is admitted alone. -/
def Dev.subAdmit (d : Dev) (s : Desc) : Dev × Bool :=
  let fresh := decide (d.nib.subFrom + quantaMs 1 ≤ d.q)
  let used := if fresh then 0 else d.nib.subBytes
  let cap := d.fld Reg.nibSub 0 14 * 1000
  if s.charged then (d, true)
  else if used + s.userBytes ≤ cap ∨ used = 0 then
    ((d.onNib fun n => { n with subBytes := used + s.userBytes, subFrom := if fresh then d.q - d.q % quantaMs 1 else n.subFrom }).onDesc
      s.idx fun s => { s with charged := true }, true)
  else (d.raise 0x175, false)

/-- A path of R278 starts when the limiter admits it: MERGE takes a physical stripe and reads the old strips; SMALL and RECON
read their old blocks. -/
def Dev.startSub (d : Dev) (i : Nat) : Dev :=
  match d.desc? i with
  | none => d
  | some s =>
    let a := d.subAdmit s
    if !a.2 then a.1
    else
      let d := (a.1.countNib 13 (nibCycles (a.1.q - s.waitingSince)))
      if s.path = .merge then
        let p := d.allocFor i
        if p.2 then (p.1.onDesc i fun s => { s with state := .reading, waitingSince := p.1.q }).startOld i else p.1
      else (d.onDesc i fun s => { s with state := .swRead }).startOld i

/-- Descriptors that wait for a drain slot: closed with their lock and a FULL or FRESH path, or read for a MERGE (R267). -/
def Desc.wantsSlot (s : Desc) : Bool :=
  !s.hasSlot && ((s.state == .closing && (s.path == .full || s.path == .fresh)) || (s.state == .reading && s.reads.isEmpty && s.path == .merge))

/-- SLOT_BACKLOG when more than 32 descriptors wait for a slot (R267). -/
def Dev.noteBacklog (d : Dev) : Dev := if 32 < (d.nib.descs.filter Desc.wantsSlot).length then d.raise 0x173 else d

/-- The lock of a descriptor is granted: its path is chosen and begins (R260, R263). -/
def Dev.choosePath (d : Dev) (i : Nat) : Dev :=
  match d.desc? i with
  | none => d
  | some s =>
    let g := d.geo
    let e := d.entry s.object s.lstripe
    if d.lookupHeld s.object s.lstripe then d
    else match d.pathOf s with
    | none => ((d.failJobs s 0x8009 0x0001).dropFromJobs s).releaseDesc i
    | some p =>
      let fill := match p with | .full => g.d | .fresh => s.top g.b | .merge => max e.fill (s.top g.b) | _ => e.fill
      let d := d.onDesc i fun s =>
        { s with path := p, fill := fill, oldPsi := if e.state = .unmapped then none else some e.psi, waitingSince := d.q }
      if p = .full ∨ p = .fresh then d.noteBacklog else d.startSub i

/-! ## Closing (R264 to R266) -/

/-- A descriptor closes: blocks still unplaced are written as zero, its stripe's stamp is taken, and it asks for its lock
over the whole data stripe (R196, R266). -/
def Dev.closeDesc (d : Dev) (i : Nat) : Dev :=
  match d.desc? i with
  | none => d
  | some s =>
    if s.state ≠ .opened then d
    else
      let missing := s.named.filter Named.awaited
      let now := d.now
      let d := d.onDesc i fun s =>
        { s with state := .closing, closeQ := d.q, waitingSince := d.q, named := s.named.map fun n => { n with stamp := some (n.stamp.getD now) } }
      let d := d.when (!missing.isEmpty) fun d => (d.countNib 10 missing.length).raise 0x172
      let d := d.forEach missing fun d n => d.onJob n.job fun w => { w with counts := w.counts.set 3 (w.counts.getD 3 0 + 1) }
      let lb := d.geo.lb
      match s.lock with
      | some _ => d.choosePath i
      | none =>
        let l := d.askLock s.object (s.lstripe * lb) (s.lstripe * lb + lb - 1) true (.nib i)
        l.1.onDesc i fun s => { s with lock := some l.2 }

/-- Whether the fill trigger of R264 holds. -/
def Desc.full (s : Desc) (lb : Nat) : Bool := s.named.length == lb && !(s.named.any Named.awaited)

/-- The last logical stripe of a take, at its accepted length. -/
def Obj.tailStripe (o : Obj) (lb : Nat) : Nat := (max o.accepted 1 - 1) / (4096 * max lb 1)

/-- Whether a descriptor stays OPEN after a naming: a take's last stripe, and one that awaits placements (R264). -/
def Dev.staysOpen (d : Dev) (s : Desc) : Bool :=
  (s.named.any Named.awaited) || (match d.obj? s.object with
    | some o => o.isTake && s.lstripe == o.tailStripe d.geo.lb
    | none => false)

/-- The close point of a descriptor (R265): the earliest due time among its jobs, less LEAD. -/
def Dev.closePoint (d : Dev) (s : Desc) : Option Nat :=
  let dues := s.jobs.filterMap fun j => (d.job? j).bind WriteJob.due
  let lead := quantaUs (d.fld Reg.nibCommit 0 16)
  (dues.map fun r => d.quantumOfRts r - lead).foldl (fun a q => match a with | some b => some (min b q) | none => some q) none

/-- The triggers that are judged at a naming (R264, R265): fill, the cycle after it, and a close point already reached. -/
def Dev.judgeClose (d : Dev) (i : Nat) : Dev :=
  match d.desc? i with
  | none => d
  | some s =>
    if s.full d.geo.lb || !(d.staysOpen s) then d.closeDesc i
    else match d.closePoint s with
      | some t => if t ≤ d.q then d.closeDesc i else d
      | none => d

/-- The OPEN descriptors of a take are closed (R264: CLOSE_TAIL, TAKE_CLOSE). -/
def Dev.closeTail (d : Dev) (object : Nat) : Dev :=
  d.forEach (d.nib.descs.filter fun s => s.state == .opened && s.object == object) fun d s => d.closeDesc s.idx

/-- The last byte of the 4 KiB block at HBM address `a` is placed (R257): its mark is set and its stamp taken; a STREAM block
that awaited it is named with that content, and a filled stripe closes (R264). -/
def Dev.blockPlaced (d : Dev) (a : Nat) : Dev :=
  let blk := a / 4096
  let now := d.now
  let waiting := d.nib.descs.find? fun s => s.state == .opened && s.named.any fun n => n.awaited && n.addr / 4096 == blk
  let placed := (dropAt Placed.block blk d.rae.placed) ++ [⟨blk, waiting.isNone, now⟩]
  let d := { d with rae := { d.rae with placed := placed } }
  match waiting with
  | none => d
  | some s =>
    let d := d.onDesc s.idx fun s =>
      { s with named := s.named.map fun n => if n.awaited && n.addr / 4096 == blk then { n with awaited := false, stamp := some now } else n }
    d.judgeClose s.idx

/-! ## The drain (R267 to R272) -/

/-- A strip of the stripe is submitted to its place, in a COMMIT window; one without a location is not written (R272). -/
def Dev.submitStrip (d : Dev) (i psi strip : Nat) : Dev :=
  match d.writePlace psi strip with
  | some p =>
    let c := d.submitTo p.1 .write p.2 d.geo.b 0 (.strip i strip)
    c.1.onDesc i fun s => { s with writes := s.writes ++ [⟨strip, c.2, false⟩] }
  | none => (d.countNib 15 1).raise 0x177

/-- What is written at block `k` of the logical stripe: a named block's bytes with its stamp, zero past its data (R251), an old block of
a MERGE, or zeros with the stamp of the close (R260, R269, R281). -/
def Dev.sourceOf (d : Dev) (s : Desc) (k : Nat) : List Byte × Nat :=
  match s.named.find? fun n => n.block == k with
  | some n => (if n.awaited then zeroBlock else fit 4096 (d.hbmRead n.addr n.live), n.stamp.getD 0)
  | none =>
    match sget (fun _ => []) s.old k with
    | [] => (zeroBlock, d.rul.rtsAt s.closeQ)
    | l => (l.take 4096, leNat (l.drop 4096))

/-- Whether the source of block `k` carries an uncorrectable error (R273). -/
def Dev.sourcePoisoned (d : Dev) (s : Desc) (k : Nat) : Bool :=
  match s.named.find? fun n => n.block == k with
  | some n => !n.awaited && d.hbmPoisoned n.addr 4096
  | none => false

/-- The uncorrectable error that a source read found is recorded, counted and raised (R434). -/
def Dev.noteSource (d : Dev) (s : Desc) (k : Nat) : Dev :=
  match s.named.find? fun n => n.block == k with
  | some n => d.notePoison true n.addr 4096
  | none => d

/-- A data block enters the accumulators, once (R269). -/
def Desc.accumulate (s : Desc) (strip row : Nat) (x : List Byte) : Desc :=
  if (strip, row) ∈ s.done then s
  else
    { s with done := s.done ++ [(strip, row)]
             accP := sput (fun _ => []) s.accP row (xorBytes (sget (fun _ => []) s.accP row) x)
             accQ := sput (fun _ => []) s.accQ row (xorBytes (sget (fun _ => []) s.accQ row) (scaleBytes (pWeight strip) x)) }

/-- Whether every data block is accumulated. -/
def Desc.allDone (s : Desc) (b : Nat) : Bool := (List.range s.fill).all fun i => (List.range b).all fun r => s.done.contains (i, r)

/-- Whether the drives have fetched the last byte of P and of Q, so far as they are written: the slot is free (R271). -/
def Desc.parityFetched (s : Desc) (dp b : Nat) : Bool :=
  [dp, dp + 1].all fun i => !(s.writes.any fun w => w.strip == i) || (List.range b).all fun r => s.done.contains (i, r)

/-- Every data block is accumulated: PARITY, and P and Q are submitted in the same quantum (R269). -/
def Dev.toParity (d : Dev) (i : Nat) : Dev :=
  match d.desc? i with
  | some s =>
    if s.state = .draining ∧ s.allDone d.geo.b then
      let d := d.onDesc i fun s => { s with state := .parity }
      let d := (d.submitStrip i (s.psi.getD 0) d.geo.d).submitStrip i (s.psi.getD 0) (d.geo.d + 1)
      match d.desc? i with
      | some s => if s.parityFetched d.geo.d d.geo.b then d.onDesc i fun s => { s with hasSlot := false } else d
      | none => d
    else d
  | none => d

/-- A strip without a location is read for its parity at once: no drive fetches it (R272). -/
def Dev.foldStrip (d : Dev) (i strip : Nat) : Dev :=
  d.onDesc i fun s => (List.range d.geo.b).foldl (fun s r => s.accumulate strip r (d.sourceOf s (strip * d.geo.b + r)).1) s

/-- The data strips of a stripe are submitted in ascending order (R269). -/
def Dev.submitData (d : Dev) (i psi fill : Nat) : Dev :=
  d.forEach (List.range fill) fun d k =>
    let d := d.submitStrip i psi k
    if (d.writePlace psi k).isNone then d.foldStrip i k else d

/-- DRAIN_SLOT_GRANT: the descriptor that has waited longest takes a free slot, a physical stripe, a write sequence and its
intent record, and its data strips are submitted (R267 to R269). -/
def execDrainSlotGrant (i : Nat) (s : State) : Host.Outcome State Fault Refusal :=
  s.run true fun d =>
    let waiting := d.nib.descs.filter Desc.wantsSlot
    let first := waiting.foldl (fun a x => min a x.waitingSince) d.q
    match d.desc? i with
    | some x =>
      if x.wantsSlot && x.waitingSince == first && decide ((d.nib.descs.filter Desc.hasSlot).length < d.drainSlots) && !d.blt.stopped then
        let p := if x.psi.isSome then (d, true) else d.allocFor i
        if p.2 then
          let d := (p.1.countNib 11 (nibCycles (p.1.q - x.waitingSince))).sampleUs 3 0 x.waitingSince
          let q := d.takeSeq
          let psi := (q.1.desc? i).bind Desc.psi |>.getD 0
          let code := match x.path with | .full => 1 | .fresh => 2 | _ => 3
          let r := q.1.append (.intentStripe q.2 psi x.lstripe x.object code x.fill)
          let d := r.1.onDesc i fun s =>
            { s with state := .draining, hasSlot := true, seq := q.2, intentRsn := r.2, done := [], accP := [], accQ := [] }
          (d.submitData i psi x.fill).toParity i
        else p.1
      else d
    | none => d

/-- A block leaves for a drive: through the check-value queue when the livery tags its blocks (R386, R388), as it is
otherwise. -/
def Dev.sendBlock (d : Dev) (livery slot strip row : Nat) (b : Block) : Dev :=
  match (if b.pf.role = 0 then d.writeSlot livery else none) with
  | some k => d.cveAsk ⟨true, k, .nib livery, slot, strip, row, b, d.q⟩
  | none => d.emit (.block slot b)

/-- DRIVE_BLOCK_FETCH: a drive fetches a block of a strip; Nib reads the source, protects it and accumulates parity (R269). A
fetch waits while the check-value queue has no room (R386). -/
def execDriveBlockFetch (i strip block : Nat) (s : State) : Host.Outcome State Fault Refusal :=
  s.run (decide (strip < 32) && decide (block < 256)) fun d =>
    match d.desc? i with
    | none => d
    | some x =>
      let out := x.writes.find? fun w => w.strip == strip && !w.acked
      let sent := match out.bind fun w => d.drvCmd? w.cmd with | some c => c.at_ | none => none
      let slot := match out.bind fun w => d.drvCmd? w.cmd with | some c => c.slot | none => 0
      let g := d.geo
      if sent.isNone || !(x.state == .draining || x.state == .parity) || decide (g.b ≤ block) || !d.cveRoom then d
      else if strip < g.d then
        if d.sourcePoisoned x (strip * g.b + block) then (d.noteSource x (strip * g.b + block)).drainFail i
        else
          let src := d.sourceOf x (strip * g.b + block)
          let fresh := !(x.done.contains (strip, block))
          let d := d.when fresh fun d => d.countNib 7 4096
          let d := d.onDesc i fun s => s.accumulate strip block src.1
          (d.sendBlock x.livery slot strip block (g.block x.object x.lstripe (x.psi.getD 0) strip block src.2 x.seq src.1)).toParity i
      else
        let acc := sget (fun _ => []) (if strip = g.d then x.accP else x.accQ) block
        let b := g.block x.object x.lstripe (x.psi.getD 0) strip block (d.rul.rtsAt x.closeQ) x.seq (fit 4096 acc)
        let d := (d.countNib 8 4096).onDesc i fun s => { s with done := if (strip, block) ∈ s.done then s.done else s.done ++ [(strip, block)] }
        let d := d.sendBlock x.livery slot strip block b
        match d.desc? i with
        | some y => if y.parityFetched g.d g.b then d.onDesc i fun s => { s with hasSlot := false } else d
        | none => d

/-! ## Old blocks have been read (R277, R279, R281) -/

/-- What is known of row `r` of a descriptor's stripe. -/
def Desc.known (s : Desc) (b : Nat) (r strip : Nat) : Option (List Byte) :=
  match sget (fun _ => []) s.old (strip * b + r) with
  | [] => none
  | l => some (l.take 4096)

/-- The rows and strips that are still wanting. -/
def Dev.wanting (d : Dev) (s : Desc) : List (Nat × Nat) :=
  (d.neededOld s).filter fun x => (s.known d.geo.b x.2 x.1).isNone && !(x.1 < d.geo.d && (d.entry s.object s.lstripe).fill ≤ x.1)

/-- The reads that a reconstruction of the wanting rows still has to try. -/
def Dev.untried (d : Dev) (s : Desc) : List (Nat × Nat) :=
  let rows := ((d.wanting s).map Prod.snd).dedup
  let e := d.entry s.object s.lstripe
  rows.flatMap fun r => ((List.range e.fill ++ [d.geo.d, d.geo.d + 1]).map fun i => (i, r)).filter fun x =>
    !(s.done.contains x) && (d.readPlace e.psi x.1).isSome

/-- A row's data put into the old blocks from what the survivors give (R242). The flag says whether it could be had. -/
def Dev.rebuildOld (d : Dev) (s : Desc) (r : Nat) : Desc × Bool :=
  let g := d.geo
  let e := d.entry s.object s.lstripe
  match solveRow e.fill g.d (s.known g.b r) with
  | some data =>
    let put (t : Table (List Byte)) (i : Nat) (x : List Byte) : Table (List Byte) :=
      if (s.known g.b r i).isSome then t else sput (fun _ => []) t (i * g.b + r) (fit 4096 x ++ leBytes 8 0)
    let t := (List.range e.fill).foldl (fun t i => put t i (data.getD i [])) s.old
    ({ s with old := put (put t g.d (parityP data)) (g.d + 1) (parityQ data) }, true)
  | none => (s, false)

/-- New parity of row `r` (R277 step 3, R279). -/
def Dev.newParity (d : Dev) (s : Desc) (r : Nat) : List Byte × List Byte :=
  let g := d.geo
  let e := d.entry s.object s.lstripe
  let new_ (i : Nat) : Option (List Byte) :=
    if s.named.any fun n => n.block == i * g.b + r then some (d.sourceOf s (i * g.b + r)).1 else none
  let old_ (i : Nat) : List Byte := (s.known g.b r i).getD zeroBlock
  if s.path = .recon then
    let data := (List.range e.fill).map fun i => (new_ i).getD (old_ i)
    (parityP data, parityQ data)
  else
    (List.range g.d).foldl (fun (pq : List Byte × List Byte) i =>
      match new_ i with
      | some x =>
        let δ := xorBytes (old_ i) x
        (xorBytes pq.1 δ, xorBytes pq.2 (scaleBytes (pWeight i) δ))
      | none => pq) (old_ g.d, old_ (g.d + 1))

/-- The data strips whose content a RECON write keeps as shadow blocks: not in the run, on a member whose strips are not
rebuilt (R290). -/
def Dev.shadowStrips (d : Dev) (s : Desc) : List Nat :=
  let e := d.entry s.object s.lstripe
  if s.path = .recon then
    (List.range e.fill).filter fun i => !((s.strips d.geo.b).contains i) && d.unbuilt e.psi i
  else []

/-- The named blocks in run order. -/
def Desc.run (s : Desc) : List Named := (List.mergeSort s.named fun a b => decide (a.block ≤ b.block))

/-- Payload blocks enter the log one after the other; the number is the first position. -/
def Dev.appendPayloads (d : Dev) (l : List (List Byte)) : Dev × Nat :=
  (d.forEach l fun d x => (d.appendPayload x).1, d.blt.head)

/-- SW_LOG (R277 step 4): the parity is computed and the payload and intent are logged, when the log has room. -/
def Dev.toSwLog (d : Dev) (i : Nat) : Dev :=
  match d.desc? i with
  | none => d
  | some s =>
    let g := d.geo
    let e := d.entry s.object s.lstripe
    let run := s.run
    match run.find? fun n => d.sourcePoisoned s n.block with
    | some n => (((d.noteSource s n.block).failJobs s 0x800D 0x0001).dropFromJobs s).releaseDesc i
    | none =>
    if !d.spanRoom then (if d.blt.stopped then d else d.spanIsFull)
    else
      let rows := s.rows g.b
      let par := rows.map fun r => (r, d.newParity s r)
      let shadow := d.shadowStrips s
      let shadowData := shadow.flatMap fun k => rows.map fun r => (s.known g.b r k).getD zeroBlock
      let p := d.appendPayloads ((run.map fun n => (d.sourceOf s n.block).1) ++ shadowData)
      let q := p.1.takeSeq
      let mask := shadow.foldl (fun a k => setBit a k) 0
      let r := q.1.append (.intentRmw q.2 e.psi s.lstripe s.object (if s.path = .recon then 5 else 4) false
        ((run.head?.map Named.block).getD 0) run.length mask shadowData.length p.2)
      r.1.onDesc i fun s =>
        { s with state := .swLog, seq := q.2, intentRsn := r.2
                 accP := par.foldl (fun t x => sput (fun _ => []) t x.1 x.2.1) []
                 accQ := par.foldl (fun t x => sput (fun _ => []) t x.1 x.2.2) [] }

/-- Old blocks have been read, as far as they could be: rows that want a block are read further or rebuilt; then the path goes
on. A row that cannot be had ends it with MEDIA_UNRECOVERED (R263). -/
def Dev.oldProgress (d : Dev) (i : Nat) : Dev :=
  match d.desc? i with
  | none => d
  | some s =>
    if !(s.reads.isEmpty) || !(s.state == .reading || s.state == .swRead) then d
    else
      let more := d.untried s
      if !((d.wanting s).isEmpty) && !(more.isEmpty) then d.forEach more fun d x => d.readOld i (d.entry s.object s.lstripe).psi x.1 x.2 1
      else
        let r := (((d.wanting s).map Prod.snd).dedup).foldl (fun (acc : Desc × Bool) row =>
          let t := d.rebuildOld acc.1 row
          (t.1, acc.2 && t.2)) (s, true)
        if !r.2 then d.failDesc i 0x8009 0x0001
        else
          let d := d.onDesc i fun _ => r.1
          if s.state = .swRead then d.toSwLog i else d.noteBacklog

/-- An old block that a drive returned for descriptor `i` (R312, checks 1 to 4). -/
def Dev.takeOld (d : Dev) (i strip row : Nat) (b : Block) : Dev :=
  match d.desc? i with
  | some s =>
    let g := d.geo
    let e := d.entry s.object s.lstripe
    if g.checks s.object s.lstripe e.psi strip row b then
      d.onDesc i fun s => { s with old := sput (fun _ => []) s.old (strip * g.b + row) (fit 4096 b.data ++ leBytes 8 b.pf.stamp) }
    else d
  | none => d

/-! ## Writes in place (R277 step 5) -/

/-- One block is written in place. -/
def Dev.writeInPlace (d : Dev) (i psi strip row : Nat) (b : Block) (livery : Nat) : Dev :=
  match d.writePlace psi strip with
  | some p =>
    let c := d.submitTo p.1 .write (p.2 + row) 1 0 (.inPlace i)
    let d := c.1.onDesc i fun s => { s with writes := s.writes ++ [⟨strip, c.2, false⟩] }
    d.sendBlock livery (d.memberSlot p.1) strip row b
  | none => d

/-- SW_WRITE: the intent is home-acknowledged, the descriptor is durable and its jobs may reply; the new data blocks and the
new parity are written in place (R277). A strip whose content is missing is not written (R279). -/
def Dev.toSwWrite (d : Dev) (i : Nat) : Dev :=
  match d.desc? i with
  | none => d
  | some s =>
    let g := d.geo
    let psi := (d.entry s.object s.lstripe).psi
    let d := (d.onDesc i fun s => { s with state := .swWrite }).countNib (if s.path = .recon then 4 else 3) 1
    let d := (d.jobsDurable s).jobsReached s 2
    let d := d.forEach (s.run.filter fun n => !(d.unbuilt psi (n.block / g.b))) fun d n =>
      let src := d.sourceOf s n.block
      d.writeInPlace i psi (n.block / g.b) (n.block % g.b)
        (g.block s.object s.lstripe psi (n.block / g.b) (n.block % g.b) src.2 s.seq src.1) s.livery
    d.forEach (s.rows g.b) fun d r =>
      let put (d : Dev) (strip : Nat) (acc : Table (List Byte)) : Dev :=
        if d.unbuilt psi strip then d
        else d.writeInPlace i psi strip r
          (g.block s.object s.lstripe psi strip r (d.rul.rtsAt s.closeQ) s.seq (fit 4096 (sget (fun _ => []) acc r))) s.livery
      put (put d g.d s.accP) (g.d + 1) s.accQ

/-! ## Durable and mapped (R274 to R276) -/

/-- The COMMITs that this stripe completes on its take: those whose every other descriptor has its record (R275). -/
def Dev.completes (d : Dev) (s : Desc) : List WriteJob :=
  (d.nib.jobs.filter fun j => j.takeOrdinal != 0 && s.jobs.contains j.id && j.failed.isNone && j.pending.all fun k =>
    k == s.idx || (match d.desc? k with | some x => x.commitRsn.isSome | none => true))

/-- The state of the entry that a fill gives. -/
def ArrayGeo.stateOf (g : ArrayGeo) (fill : Nat) : EntryState := if fill = g.d then .full else .short

/-- A code of an entry's state (R244). -/
def EntryState.code : EntryState → Nat
  | .unmapped => 0
  | .full => 1
  | .short => 2
  | .lost => 3
  | .suspect => 4

/-- The map-commit record of a stripe whose strips are all acknowledged, with the take's length and the frame entries of the
COMMITs that it completes (R274, R275, R290). -/
def Dev.writeCommit (d : Dev) (i : Nat) : Dev :=
  match d.desc? i with
  | none => d
  | some s =>
    let e := d.entry s.object s.lstripe
    let js := d.completes s
    let last := js.getLast?
    let framed := js.filter fun j => j.frame.isSome
    let r := d.append (.mapCommit s.seq (s.psi.getD 0) s.fill (d.geo.stateOf s.fill).code ((e.mgen + 1) % 2 ^ 18) s.lstripe s.object
      (s.oldPsi.getD 0) s.oldPsi.isSome (last.map WriteJob.lengthAfter) ((last.map WriteJob.takeOrdinal).getD 0) (!framed.isEmpty))
    let d := r.1.forEach framed fun d j => d.append' (.frame (j.frame.getD 0) j.first j.object j.takeOrdinal)
    (d.markCommitted s.seq).onDesc i fun s => { s with commitRsn := some r.2 }

/-- The stripe is durable (R274). -/
def Dev.toDurable (d : Dev) (i : Nat) : Dev :=
  match d.desc? i with
  | some s => ((d.onDesc i fun s => { s with state := .durable }).jobsDurable s).sampleUs 2 0 s.closeQ
  | none => d

/-- The map entry changes (R275), the old stripe is FREE, the lock goes, and the jobs may reply (R276). -/
def Dev.toMapped (d : Dev) (i : Nat) : Dev :=
  match d.desc? i with
  | none => d
  | some s =>
    let e := d.entry s.object s.lstripe
    let d := d.setEntry s.object s.lstripe ⟨s.psi.getD 0, s.fill, d.geo.stateOf s.fill, (e.mgen + 1) % 2 ^ 18⟩
    let d := d.setPhys (s.psi.getD 0) 2
    let d := match s.oldPsi with | some p => d.setPhys p 0 | none => d
    let d := match s.commitRsn with | some r => d.markApplied r | none => d
    let d := match d.mapSegment s.object s.lstripe with | some g => d.dirty g | none => d
    let full := decide (s.fill = d.geo.d)
    let d := (d.countNib (if full then 0 else 1) 1).when (s.path == .merge) fun d => d.countNib 2 1
    (d.jobsReached s (if full then 0 else 1)).releaseDesc i

/-- A descriptor goes as far as the acknowledgements let it (R263, R274 to R277, R298). -/
def Dev.advanceDesc (d : Dev) (i : Nat) : Dev :=
  match d.desc? i with
  | none => d
  | some s =>
    let acked := s.writes.all StripWrite.acked
    match s.state with
    | .closing => if s.path = .none ∧ (s.lock.bind d.lock?).any (fun l => l.granted.isSome) then d.choosePath i else d
    | .parity =>
      match s.commitRsn with
      | none => if acked then (if d.blt.stopped then d else d.writeCommit i) else d
      | some r =>
        if d.homeAcked r then (d.toDurable i).toMapped i
        else if d.mirrorAcked r then d.toDurable i else d
    | .durable => if s.commitRsn.any d.homeAcked then d.toMapped i else d
    | .failed => if s.closeRsn.any d.homeAcked then d.releaseDesc i else d
    | .swLog => if d.homeAcked s.intentRsn then d.toSwWrite i else d
    | .swRead => d.oldProgress i
    | .reading => d.oldProgress i
    | .swWrite =>
      match s.closeRsn with
      | none =>
        if acked && !d.blt.stopped then
          let r := d.append (.close s.seq s.intentRsn 0)
          r.1.onDesc i fun s => { s with closeRsn := some r.2 }
        else d
      | some r => if d.homeAcked r then d.releaseDesc i else d
    | _ => d

/-- Every descriptor goes as far as it can. -/
def Dev.advanceDescs (d : Dev) : Dev := d.forEach (d.nib.descs.map Desc.idx) fun d i => (d.advanceDesc i).advanceDesc i

/-! ## Members that fail with strips in flight (R272) -/

/-- The strips of descriptors that were in flight on the drive in `slot` are submitted again, once, to their new location; P and Q are
fetched again from the slot. -/
def Dev.resubmitStrips (d : Dev) (slot : Nat) : Dev :=
  d.forEach d.nib.descs fun d s =>
    let lost := s.writes.filter fun w => !w.acked && (match d.drvCmd? w.cmd with | some c => c.slot == slot | none => false)
    let d := d.onDesc s.idx fun s => { s with writes := s.writes.filter fun w => !(lost.contains w) }
    let d := d.forEach lost fun d w => d.dropDrvCmd w.cmd
    if s.state = .draining ∨ s.state = .parity then
      d.forEach lost fun d w =>
        let d := d.submitStrip s.idx (s.psi.getD 0) w.strip
        if w.strip < d.geo.d ∧ (d.writePlace (s.psi.getD 0) w.strip).isNone then (d.foldStrip s.idx w.strip).toParity s.idx else d
    else d

/-! ## Rows of the table -/

/-- DESCRIPTOR_CLOSE_POINT: an OPEN descriptor reaches its close point (R264, R265). -/
def execDescriptorClosePoint (i : Nat) (s : State) : Host.Outcome State Fault Refusal :=
  s.run true fun d =>
    match d.desc? i with
    | some x =>
      match (if x.state = .opened then d.closePoint x else none) with
      | some t => (d.upTo t).closeDesc i
      | none => d
    | none => d

/-- DESCRIPTOR_IDLE_CLOSE: a take's last stripe without a close point closes IDLE ms after its last naming (R264). -/
def execDescriptorIdleClose (i : Nat) (s : State) : Host.Outcome State Fault Refusal :=
  s.run true fun d =>
    match d.desc? i with
    | some x =>
      let tail : Bool := match d.obj? x.object with | some o => o.isTake && x.lstripe == o.tailStripe d.geo.lb | none => false
      if x.state = .opened ∧ (d.closePoint x).isNone ∧ tail ∧ d.flag Reg.nibCtl 0 then
        ((d.upTo (x.lastNamed + quantaMs (max 1 (d.fld Reg.nibCommit 16 16)))).countNib 14 1).closeDesc i
      else d
    | none => d

/-- SUB_STRIPE_ADMIT: the limiter admits a MERGE, SMALL or RECON path that waited for the next millisecond (R278). -/
def execSubStripeAdmit (i : Nat) (s : State) : Host.Outcome State Fault Refusal :=
  s.run true fun d =>
    match d.desc? i with
    | some x =>
      let waits := x.state == .closing && (x.path == .merge || x.path == .small || x.path == .recon)
      if waits then ((if x.charged then d else d.upTo (d.nib.subFrom + quantaMs 1)).startSub i).oldProgress i else d
    | none => d

/-- What a write of NIB_DIDX does: a snapshot for NIB_DINFO and NIB_DLS (R262). -/
def Dev.snapDesc (d : Dev) : Dev :=
  let i := d.fld Reg.nibDidx 0 14
  d.onNib fun n => { n with snap := (d.desc? i).map fun s => (s, (d.closePoint s).isSome) }

/-! ## COMMIT and FLUSH (R282, R285) -/

/-- Whether the durable quantum `q` of a deadline command lies after its due time (R46, R83): a due time is met in the first
quantum whose start is at or after it. -/
def Dev.isLate (d : Dev) (q rts : Nat) : Bool :=
  decide (0 < q) && decide (d.rul.geo.distance (d.rul.posAt (q - 1)) (d.rul.geo.pos rts) ≤ 0)

/-- Jobs of the same take that were accepted before. -/
def Dev.earlierJobs (d : Dev) (object : Nat) : List Nat := (d.nib.jobs.filter fun j => j.object == object && j.takeOrdinal != 0).map WriteJob.id

/-- A job begins. The number is the job's. -/
def Dev.newJob (d : Dev) (w : WriteJob) : Dev × Nat :=
  let j := d.nib.nextJob
  (d.onNib fun n => { n with jobs := n.jobs ++ [{ w with id := j }], nextJob := j + 1 }, j)

/-- The blocks that `bytes` of an Inkwell give, from logical block `lba` on: with STREAM they await placement. -/
def Dev.inkBlocks (d : Dev) (k : Inkwell) (off bytes lba : Nat) (stream : Bool) : List NameReq :=
  (List.range (ceilDiv bytes 4096)).map fun i =>
    let a := k.addr (off + 4096 * i)
    { lba := lba + i, addr := a, live := min 4096 (bytes - 4096 * i), stamp := if d.isPlaced a then (d.placedAt a).map Placed.stamp else none, awaited := stream }

/-- The placed marks of blocks that are named are cleared (R257, R282). -/
def Dev.clearMarks (d : Dev) (l : List NameReq) : Dev := d.forEach l fun d x => d.clearMark x.addr

/-- A take's space is grown to hold `bytes` (R246): the change to its record, or a refusal. -/
def Dev.growTake (d : Dev) (o : Obj) (bytes : Nat) : Option (Option MetaChange) :=
  let stripes := ceilDiv bytes (4096 * max d.geo.lb 1)
  if stripes ≤ o.reserved then some none
  else if d.geo.l < d.stripesReserved + (stripes - o.reserved) then none
  else some (some (.objReserve o.num o.blocks stripes (d.growRuns o stripes)))

/-- The last frame RTS of a take, that of accepted COMMITs included (R282; DEDUCED: assumption log, entry 25). -/
def Dev.lastFrame (d : Dev) (o : Obj) : Option Nat :=
  match ((d.nib.jobs.filter fun j => j.object == o.num && j.takeOrdinal != 0).filterMap WriteJob.frame).getLast? with
  | some f => some f
  | none => (o.frames.getLast?).map Prod.fst

/-- What a COMMIT asks for after its checks. -/
structure CommitReq where
  ink : Inkwell
  obj : Obj
  off : Nat
  len : Nat
  stream : Bool
  closeTail : Bool
  frame : Option Nat
  deriving DecidableEq, Repr

/-- The checks of R282, in order; the failure is a status and a detail. -/
def Dev.checkCommit (d : Dev) (c : Cmd) : Except (Nat × Nat) CommitReq :=
  let flags := c.par 24 1
  let off := c.par 8 8
  let len := c.par 16 8
  match (d.inkAt (c.par 0 4)).filter fun k => k.livery == c.livery with
  | none => .error (0x8008, 0x1000)
  | some k =>
    match (d.obj? k.target).filter fun o => o.livery == c.livery && (o.kind == .ns || o.kind == .openTake) with
    | none => .error (0x8008, 0x1000)
    | some o =>
      let ns := o.kind == .ns
      if off % 4096 ≠ 0 ∨ k.size ≤ off then .error (0x8008, 0x1008)
      else if len = 0 ∨ k.size - off < len ∨ ((ns ∨ bit flags 1) ∧ len % 4096 ≠ 0)
          ∨ (ns ∧ o.blocks < k.firstBlock + (off + len) / 4096) then .error (0x8008, 0x1010)
      else
        let wants := bit flags 0 && !ns
        let f := d.convertDue (c.par 32 8)
        if wants && f.2.1 == 0x0202 then .error (0x8008, 0x0202)
        else
          let late := match d.lastFrame o with
            | some l => decide (d.rul.geo.distance (d.rul.geo.pos l) (d.rul.geo.pos f.1) ≤ 0)
            | none => false
          if wants && late then .error (0x8008, 0x1020)
          else if !ns && (d.growTake o (ceilDiv o.accepted 4096 * 4096 + len)).isNone then .error (0x800B, 0x0120)
          else .ok ⟨k, o, off, len, bit flags 1, bit flags 2, if wants then some f.1 else none⟩

/-- The blocks that a checked COMMIT names (R258). -/
def Dev.commitBlocks (d : Dev) (r : CommitReq) : List NameReq :=
  let lba := if r.obj.kind = .ns then r.ink.firstBlock + r.off / 4096 else ceilDiv r.obj.accepted 4096
  d.inkBlocks r.ink r.off r.len lba r.stream

/-- A COMMIT that passed its checks and has its descriptors is accepted (R282): its blocks are named, its job begins, and the
close triggers are judged. -/
def Dev.acceptCommit (d : Dev) (c : Cmd) (r : CommitReq) : Dev :=
  let ns := r.obj.kind == .ns
  let start := ceilDiv r.obj.accepted 4096 * 4096
  let l := d.commitBlocks r
  let d := match (if ns then some none else d.growTake r.obj (start + r.len)) with
    | some (some m) => d.change m none
    | _ => d
  let d := d.onObj r.obj.num fun o => if ns then o else { o with accepted := start + r.len, ordinal := o.ordinal + 1 }
  let clamps := reservedParam c.pkt.params 24 3 5
  let d := d.onCmd c.id fun c => { c with phase := .running, aux := clampsToNats clamps }
  let j := d.newJob
    { id := 0, owner := .packet c.id, object := r.obj.num, livery := c.livery, accepted := d.q, due := c.due, dueFlag := hasDue c.pkt,
      takeOrdinal := if ns then 0 else r.obj.ordinal + 1, first := if ns then r.ink.firstBlock + r.off / 4096 else start,
      lengthAfter := if ns then 0 else start + r.len, frame := r.frame, waits := [], pending := [], counts := [0, 0, 0, 0],
      durable := none, failed := none, isFlush := false, after := if ns then [] else d.earlierJobs r.obj.num }
  let n := (j.1.clearMarks l).nameAll j.2 r.obj.num c.livery l none
  let d := (n.1.countLivery c.livery 6 r.len).forEach n.2 fun d i => d.judgeClose i
  if r.closeTail && !ns then d.closeTail r.obj.num else d

/-- COMMIT: one that finds too few descriptors waits at level 3 (R261). -/
def Dev.runCommit (d : Dev) (c : Cmd) : Dev :=
  match d.checkCommit c with
  | .error (st, det) => d.fail c st det
  | .ok r =>
    if d.descRoom r.obj.num (d.commitBlocks r) none then (d.endWait 5 c.id).acceptCommit c r
    else ((d.onCmd c.id fun c => { c with phase := .running, aux := [1] }).raise 0x176).waitFor 5 false c.id

/-- The placed-marked blocks of a livery's namespace-bound Inkwells, by object (R285). Blocks beyond the namespace's end are
not named (DEDUCED: assumption log, entry 25). -/
def Dev.flushBlocks (d : Dev) (livery : Nat) : List (Nat × List NameReq) :=
  (d.rae.inks.filter fun k => k.livery == livery && k.isNs).filterMap fun k =>
    match d.obj? k.target with
    | some o =>
      let l := (d.inkBlocks k 0 k.size k.firstBlock false).filter fun x => d.isPlaced x.addr && decide (x.lba < o.blocks)
      if l.isEmpty then none else some (k.target, l)
    | none => none

/-- FLUSH (R285): it names what is placed, closes every OPEN descriptor of the livery, and waits for every COMMIT and handed
Write accepted before it and for the stripes it closed. -/
def Dev.runFlush (d : Dev) (c : Cmd) : Dev :=
  let work := d.flushBlocks c.livery
  if work.all fun w => d.descRoom w.1 w.2 none then
    let d := d.endWait 5 c.id
    let before := (d.nib.jobs.filter fun j => j.livery == c.livery).map WriteJob.id
    let j := d.newJob
      { id := 0, owner := .packet c.id, object := 4096, livery := c.livery, accepted := d.q, due := c.due, dueFlag := hasDue c.pkt,
        takeOrdinal := 0, first := 0, lengthAfter := 0, frame := none, waits := [], pending := [], counts := [0, 0, 0, 0], durable := none,
        failed := none, isFlush := true, after := before }
    let d := j.1.forEach work fun d w => ((d.clearMarks w.2).nameAll j.2 w.1 c.livery w.2 none).1
    let open_ := d.nib.descs.filter fun s => s.state == .opened && s.livery == c.livery
    let d := d.onCmd c.id fun c => { c with phase := .running, aux := [(work.map fun w => w.2.length).sum, open_.length] }
    let d := d.forEach open_ fun d s =>
      (d.onDesc s.idx fun s => { s with jobs := if j.2 ∈ s.jobs then s.jobs else s.jobs ++ [j.2] }).onJob j.2 fun w =>
        { w with waits := if s.idx ∈ w.waits then w.waits else w.waits ++ [s.idx], pending := if s.idx ∈ w.pending then w.pending else w.pending ++ [s.idx] }
    d.forEach open_ fun d s => d.closeDesc s.idx
  else ((d.onCmd c.id fun c => { c with phase := .running, aux := [1] }).raise 0x176).waitFor 5 false c.id

/-! ## Reset of a livery (R286) -/

/-- A livery's OPEN descriptors are discarded; every later state runs to its end. COMMITs whose stripes were discarded, the later
ones of those takes, and FLUSHes that await them never become durable and are forgotten. -/
def Dev.discardDescs (d : Dev) (livery : Nat) : Dev :=
  let gone := d.nib.descs.filter fun s => s.state == .opened && s.livery == livery
  let jobs := (gone.flatMap Desc.jobs).dedup
  let takes := (d.nib.jobs.filter fun j => jobs.contains j.id && j.takeOrdinal != 0).map fun j => (j.object, j.takeOrdinal)
  let dead (j : WriteJob) : Bool := jobs.contains j.id || takes.any fun t => t.1 == j.object && decide (t.2 ≤ j.takeOrdinal)
  let ids := (d.nib.jobs.filter dead).map WriteJob.id
  let lost := d.nib.jobs.filter fun j => dead j || j.after.any ids.contains
  let d := d.forEach gone fun d s => d.freeDesc s.idx
  let d := d.onNib fun n => { n with jobs := n.jobs.filter fun j => !(lost.contains j) }
  d.forEach lost fun d j => match j.owner with | .packet id => d.dropCmd id | .nvme _ _ => d

end Sys2Proof.Machine
end

