-- ==== Sys2Proof/Machine/Switch.lean ====
section
/-! DEFINITION. Turnpike's shared memory: its lists of cells, what may enter them, XOFF and XON, fair-queuing tags, and the frames of
requester queues (R103, R112 to R117, R124, R129). -/

namespace Sys2Proof.Machine

/-! ## Links and lists -/

/-- `f` applied to Turnpike. -/
def Dev.onTpk (d : Dev) (f : Tpk → Tpk) : Dev := { d with tpk := f d.tpk }

/-- `f` applied to a port. -/
def Dev.onPort (d : Dev) (n : Nat) (f : EthPort → EthPort) : Dev := d.onTpk fun t => { t with ports := t.ports.modify n f }

/-- The links of a port in its mode (R102). -/
def EthPort.links (p : EthPort) : Nat := 2 ^ p.mode

/-- The rate of each of its links in Gb/s (R102). -/
def EthPort.rate (p : EthPort) : Nat := 800 / 2 ^ p.mode

/-- Whether a link number names a link of the current modes (R103). -/
def Dev.linkExists (d : Dev) (k : Nat) : Bool := decide (k < 96) && decide (k % 8 < (d.port (k / 8)).links)

/-- Whether a link is up. -/
def Dev.linkUp (d : Dev) (k : Nat) : Bool := d.linkExists k && (d.port (k / 8)).enabled && bit (d.port (k / 8)).up (k % 8)

/-- Whether a link has the tandem role. -/
def Dev.tandemRole (d : Dev) (k : Nat) : Bool := (d.port (k / 8)).role == 1

/-- The register of port `n` that stands at `r` for port 0. -/
def ethReg (r n : Nat) : Nat := r + n * 0x10000

/-- A counter of a link in its port's block. -/
def Dev.countEth (d : Dev) (link item n : Nat) : Dev := d.bump (0x10 + link / 8) (link % 8) item n

/-- A counter of the buffer manager for a link or port. -/
def Dev.countTbm (d : Dev) (inst item n : Nat) : Dev := d.bump 0x1D inst item n

/-- The number of a link-priority list. -/
def linkList (link prio : Nat) : Nat := 8 * link + prio

/-- The number of a link's control list. -/
def ctlList (link : Nat) : Nat := 768 + link

/-- The number of a livery-port list. -/
def liveryList (livery port : Nat) : Nat := 1024 + 12 * livery + port

/-- The frames of a list, oldest first. -/
def Dev.list (d : Dev) (l : Nat) : List QFrame := sget (fun _ => []) d.tpk.lists l

/-- A list with other frames. -/
def Dev.setList (d : Dev) (l : Nat) (fs : List QFrame) : Dev := d.onTpk fun t => { t with lists := sput (fun _ => []) t.lists l fs }

/-- The cells of frames. -/
def cellsSum (l : List QFrame) : Nat := (l.map fun f => cellsOf f.length).sum

/-- The free cells outside the control reservation (R113). -/
def Dev.generalCells (d : Dev) : Nat :=
  let resv := d.fld Reg.drlCtrl 0 15
  (shmCells - resv) - (d.cellsIn 0 768 + d.cellsIn 1024 0x10000 + d.cellsHeld) - (d.cellsIn 768 1024 - resv)

/-- The threshold test of R113 for a list and a priority, with α = 2^(v − 4). -/
def Dev.listAdmits (d : Dev) (l prio : Nat) : Bool :=
  decide (cellsSum (d.list l) * 16 < 2 ^ d.fld Reg.tbmAlpha (4 * prio) 3 * d.generalCells)

/-! ## XOFF and XON (R117) -/

/-- `t` pause quanta of 512 bit times at a rate in Gb/s, in Ruling quanta (R115). -/
def pauseQuanta (rate t : Nat) : Nat := ceilDiv (t * 2048) (5 * rate)

/-- A PFC frame of one priority. -/
def Dev.sendPfc (d : Dev) (link prio time : Nat) : Dev :=
  (d.emit (.pfcFrame link (2 ^ prio) ((List.range 8).map fun p => if p = prio then time else 0))).countEth link (16 + prio) 1

/-- Half of the pause time that an XOFF carries. -/
def Dev.xoffHalf (d : Dev) (link : Nat) : Nat := ceilDiv (pauseQuanta (d.port (link / 8)).rate 0xFFFF) 2

/-- XOFF on a priority of a link, once. -/
def Dev.raiseXoff (d : Dev) (link prio : Nat) (bulk : Bool) : Dev :=
  if d.tpk.xoffs.any fun x => x.link == link && x.prio == prio && x.bulk == bulk then d
  else (d.onTpk fun t => { t with xoffs := t.xoffs ++ [⟨link, prio, bulk, d.q + d.xoffHalf link⟩] }).sendPfc link prio 0xFFFF

/-- The bytes that an ingress link and priority hold in shared memory. -/
def Dev.ingressBytes (d : Dev) (link prio : Nat) : Nat :=
  d.tpk.lists.foldl (fun a l => a + 256 * cellsSum (l.2.filter fun f => f.inLink == some link && f.prio == prio)) 0

/-- Whether a priority of a port sends PFC. -/
def Dev.sendsPfc (d : Dev) (link prio : Nat) : Bool := bit (d.raw (ethReg Reg.ethPfc (link / 8))) (8 + prio)

/-- After a frame of an ingress link and priority entered: XOFF at TBM_SHM_XOFF. -/
def Dev.judgeXoff (d : Dev) (link prio : Nat) : Dev :=
  if d.sendsPfc link prio && decide (1024 * d.fld Reg.tbmShmXoff 0 16 ≤ d.ingressBytes link prio) then d.raiseXoff link prio false else d

/-- The overflow limit of a port in bytes (R110). -/
def Dev.ovfLimit (d : Dev) (n : Nat) : Nat :=
  let mib := 1048576
  let guar := d.fld Reg.tbmOvfGuar 0 10 * mib
  let above := (((List.range 12).filter fun k => k != n).map fun k => d.ovfUse k - guar).sum
  min (d.fld Reg.tbmOvfCap 0 14 * mib) (guar + (8192 * mib - 12 * guar - above))

/-- The bytes of a port's bulk FIFO. -/
def Dev.bulkBytes (d : Dev) (n : Nat) : Nat := ((d.port n).fifo.map BulkPkt.length).sum

/-- The occupancy at which a port's bulk FIFO sends XOFF. -/
def Dev.bulkPoint (d : Dev) (n : Nat) : Nat := 2048 * 1024 + d.ovfLimit n - 1024 * d.fld Reg.tbmPfcHdrm 0 16

/-- The occupancy and the XOFF point of an XOFF, in bytes. -/
def Dev.xoffLevel (d : Dev) (x : Xoff) : Nat × Nat :=
  if x.bulk then (d.bulkBytes (x.link / 8), d.bulkPoint (x.link / 8)) else (d.ingressBytes x.link x.prio, 1024 * d.fld Reg.tbmShmXoff 0 16)

/-- XON for every XOFF whose occupancy fell below its point less TBM_PFC_HYST. -/
def Dev.judgeXon (d : Dev) : Dev :=
  let low (x : Xoff) : Bool := decide ((d.xoffLevel x).1 < (d.xoffLevel x).2 - 1024 * d.fld Reg.tbmPfcHyst 0 16)
  let gone := d.tpk.xoffs.filter low
  d.forEach gone fun d x => (d.onTpk fun t => { t with xoffs := t.xoffs.filter fun y => y != x }).sendPfc x.link x.prio 0

/-! ## Entering a list -/

/-- A frame that found no room (R113). -/
def Dev.noBuffer (d : Dev) (link : Nat) : Dev := d.countTbm link 3 1

/-- SHM_LOW when fewer than a sixteenth of the cells are free (R134). -/
def Dev.judgeShm (d : Dev) : Dev := if 16 * d.cellsFree < shmCells then d.raise 0x102 else d

/-- A frame enters a link-priority list: its depth is sampled in cells, and the level's pool and the XOFF points are looked at. -/
def Dev.pushLink (d : Dev) (f : QFrame) : Dev :=
  let l := linkList f.outLink f.prio
  let fs := d.list l ++ [f]
  let d := (((d.setList l fs).sample 14 f.outLink (cellsSum fs)).notePool 14).judgeShm
  match f.inLink with | some k => d.judgeXoff k f.prio | none => d

/-- Whether a frame of an ingress link and priority that sent XOFF passes R113 by (R114). -/
def Dev.bypasses (d : Dev) (f : QFrame) : Bool :=
  match f.inLink with
  | some k => (d.tpk.xoffs.any fun x => !x.bulk && x.link == k && x.prio == f.prio) && d.sendsPfc k f.prio
      && decide (d.ingressBytes k f.prio < 1024 * (d.fld Reg.tbmShmXoff 0 16 + d.fld Reg.tbmPfcHdrm 0 16))
  | none => false

/-- Whether a link-priority list takes a frame. -/
def Dev.linkTakes (d : Dev) (f : QFrame) : Bool :=
  decide (cellsOf f.length ≤ d.generalCells) && (d.listAdmits (linkList f.outLink f.prio) f.prio || d.bypasses f)

/-- A frame for a link-priority list: it enters, or is dropped and counted. -/
def Dev.toLink (d : Dev) (f : QFrame) : Dev := if d.linkTakes f then d.pushLink f else d.noBuffer f.outLink

/-- A frame for a link's control list: it draws on the reservation first, then on free cells (R113). -/
def Dev.toControl (d : Dev) (f : QFrame) : Dev :=
  let resv := d.fld Reg.drlCtrl 0 15
  if d.cellsIn 768 1024 + cellsOf f.length ≤ resv + d.generalCells then (d.setList (ctlList f.outLink) (d.list (ctlList f.outLink) ++ [f])).noteControl
  else d.noBuffer f.outLink

/-! ## Storage-originated frames (R124, R129) -/

/-- The fair-queuing weight of a livery. -/
def Dev.wfqWeight (d : Dev) (livery : Nat) : Nat := max 1 (d.fld (bank Reg.tssWfqWt livery) 0 10)

/-- The virtual time and tags of a port. -/
def Dev.wfq (d : Dev) (port : Nat) : Wfq := sget (fun _ => ⟨0, []⟩) d.tpk.wfq port

/-- The finish tag of a frame that starts at `s`. -/
def Dev.finishTag (d : Dev) (livery s length : Nat) : Nat := (s + ceilDiv (length * 1024) (d.wfqWeight livery)) % 2 ^ 48

/-- A port with other tags for a livery. -/
def Dev.setTag (d : Dev) (port v livery s length : Nat) : Dev :=
  let w := d.wfq port
  d.onTpk fun t => { t with wfq := sput (fun _ => ⟨0, []⟩) t.wfq port ⟨v, sput (fun _ => (0, 0)) w.tags livery (s, d.finishTag livery s length)⟩ }

/-- A frame for its livery-port list: an empty list wakes at the port's virtual time. -/
def Dev.toLivery (d : Dev) (f : QFrame) : Dev :=
  let port := f.outLink / 8
  let l := liveryList f.livery port
  if decide (cellsOf f.length ≤ d.generalCells) && d.listAdmits l f.prio then
    let d := if (d.list l).isEmpty then d.setTag port (d.wfq port).v f.livery (d.wfq port).v f.length else d
    (((d.setList l (d.list l ++ [f])).notePool 14)).judgeShm
  else d.noBuffer f.outLink

/-- The bytes of a RoCE v2 packet on the wire around its payload (PRESUMED: assumption log, entry 36). -/
abbrev roceOverhead : Nat := 82

/-- The frames of a message of `n` bytes of a requester queue, at the path MTU that RAE_MTU allows, on the link that leads to its peer. -/
def Dev.egress (d : Dev) (qp livery prio n : Nat) : Dev :=
  let mtu := 256 * 2 ^ (d.fld Reg.raeMtu 0 3 - 1)
  let link := Config.egressLink qp % 96
  d.forEach (List.range (max 1 (ceilDiv n mtu))) fun d i =>
    let f : QFrame :=
      { length := min mtu (n - i * mtu) + roceOverhead, prio := prio, colour := 0, ect := true, ce := false, inLink := none, livery := livery,
        outLink := link, frame := none, tandem := none }
    d.toLivery f

end Sys2Proof.Machine
end

