-- ==== Sys2Proof/Machine/Requester.lean ====
section
/-! DEFINITION. Requester queues (R173 to R179): queue pairs by number, posting and starting work requests, completions, and
what leaves a queue. -/

namespace Sys2Proof.Machine

/-! ## Queue pairs -/

/-- `f` applied to the remote access engine. -/
def Dev.onRae (d : Dev) (f : Rae → Rae) : Dev := { d with rae := f d.rae }

/-- A counter of the RAE. -/
def Dev.countRae (d : Dev) (item n : Nat) : Dev := d.bump 0x20 0 item n

/-- A queue pair that is not CLOSED, by number. -/
def Dev.qp? (d : Dev) (n : Nat) : Option Qp := findAt Qp.num n d.rae.qps

/-- `f` applied to queue pair `n`. -/
def Dev.onQp (d : Dev) (n : Nat) (f : Qp → Qp) : Dev := d.onRae fun r => { r with qps := modifyAt Qp.num n f r.qps }

/-- The requester queue of queue pair `n`. -/
def Dev.rq? (d : Dev) (n : Nat) : Option ReqQueue := (d.qp? n).bind Qp.rq

/-- `f` applied to the requester queue of queue pair `n`. -/
def Dev.onRq (d : Dev) (n : Nat) (f : ReqQueue → ReqQueue) : Dev := d.onQp n fun q => { q with rq := q.rq.map f }

/-- Whether queue pair `n` carries an open requester queue of a livery: its QP is READY and the queue does not end. -/
def Dev.rqOpen (d : Dev) (n livery : Nat) : Bool :=
  match d.qp? n with
  | some q => q.state == .ready && q.livery == some livery && (match q.rq with | some r => r.ending.isNone | none => false)
  | none => false

/-- Whether a requester queue has room for one more work request (its depth). -/
def Dev.rqRoom (d : Dev) (n : Nat) : Bool :=
  match d.rq? n with
  | some r => decide (r.reqs.length < 2 ^ r.depth)
  | none => false

/-! ## Posting and starting (R174, R175) -/

/-- What a started work request sends. -/
def WorkOp.sends (qp : Nat) : WorkOp → Output
  | .write a k l => .rdmaWrite qp a k l
  | .read a k n => .rdmaReadRequest qp a k n
  | .flush n => .placementRequest qp n

/-- Serial comparison over 32 bits: whether `a` equals `b` or lies after it (R175). -/
def reached32 (a b : Nat) : Bool := decide ((a + 2 ^ 32 - b % 2 ^ 32) % 2 ^ 32 < 2 ^ 31)

/-- Whether the wait of a work request is over (R175). -/
def Dev.waitOver (d : Dev) (w : WorkReq) : Bool :=
  match w.waitQp with
  | none => true
  | some n => match d.rq? n with
    | some r => reached32 r.done w.waitCount
    | none => false

/-- The requests of a queue that start now, in posting order, up to the first whose wait is not over. -/
def Dev.startable (d : Dev) (r : ReqQueue) : List WorkReq := (r.reqs.filter fun w => !w.started).takeWhile d.waitOver

/-- What a request that starts sends: a flush of kind 1 is an RDMA FLUSH (R177). -/
def ReqQueue.output (r : ReqQueue) (qp : Nat) (w : WorkReq) : Output :=
  match w.op with
  | .flush n => if r.flushKind = 1 then .rdmaFlush qp else .placementRequest qp n
  | o => o.sends qp

/-- The bytes that a request sends. -/
def WorkReq.sendBytes (w : WorkReq) : Nat := match w.op with | .write _ _ l => l.length | _ => 0

/-- The frames of a request that starts go to the livery-port list of its link (R124). -/
def Dev.egressWork (d : Dev) (qp : Nat) (r : ReqQueue) (w : WorkReq) : Dev :=
  d.egress qp (match d.qp? qp with | some q => q.livery.getD 0 | none => 0) r.prio w.sendBytes

/-- The requests that may start do, in posting order. -/
def Dev.startWork (d : Dev) (qp : Nat) : Dev :=
  match d.rq? qp with
  | none => d
  | some r =>
    let k := (d.startable r).length
    let waiting := (r.reqs.filter fun w => !w.started).drop k
    let begun := (d.startable r).map fun w => { w with started := true, sentAt := d.q }
    let d := d.onRq qp fun r => { r with reqs := (r.reqs.filter WorkReq.started) ++ begun ++ waiting }
    (d.forEach begun fun d w => (d.egressWork qp r w).emit (r.output qp w)).countRae 1 k

/-- A work request is posted. -/
def Dev.postWork (d : Dev) (qp : Nat) (w : WorkReq) : Dev :=
  (d.onRq qp fun r => { r with reqs := r.reqs ++ [w], posted := (r.posted + 1) % 2 ^ 32 }).startWork qp

/-- A work request without a wait. -/
def WorkReq.plain (op : WorkOp) (read cmd : Option Nat) : WorkReq := ⟨op, none, 0, false, 0, read, cmd⟩

/-- A flush is posted (R177); it takes the next flush number. -/
def Dev.postFlush (d : Dev) (qp : Nat) (read cmd : Option Nat) : Dev :=
  let n := match d.rq? qp with | some r => r.flushes | none => 0
  (d.onRq qp fun r => { r with flushes := (r.flushes + 1) % 2 ^ 32 }).postWork qp (.plain (.flush n) read cmd)

/-! ## Completions (R176) -/

/-- Whether a flush that only its Placement Flush reply completes (R177, flush kind 0). -/
def ReqQueue.byReply (r : ReqQueue) (w : WorkReq) : Bool := r.flushKind == 0 && (match w.op with | .flush _ => true | _ => false)

/-- The oldest `n` started requests that an acknowledgement can complete, and the requests that stay. -/
def splitAcked (r : ReqQueue) : Nat → List WorkReq → List WorkReq × List WorkReq
  | _, [] => ([], [])
  | 0, l => ([], l)
  | n + 1, w :: t =>
    if w.started && !(r.byReply w) then
      let p := splitAcked r n t
      (w :: p.1, p.2)
    else
      let p := splitAcked r (n + 1) t
      (p.1, w :: p.2)

/-- Queues whose first waiting request waits for queue `qp` go on (R175). -/
def Dev.releaseWaits (d : Dev) (qp : Nat) : Dev :=
  d.forEach (d.rae.qps.filter fun q => match q.rq with | some r => r.reqs.any fun w => w.waitQp == some qp | none => false) fun d q => d.startWork q.num

/-- Requests of a queue are complete: its count rises by their number, and its retry counts start again. -/
def Dev.completeWork (d : Dev) (qp : Nat) (gone rest : List WorkReq) : Dev :=
  ((d.onRq qp fun r => { r with reqs := rest, done := (r.done + gone.length) % 2 ^ 32, retries := 0, rnrRetries := 0, rnrAt := none }).startWork
    qp).releaseWaits qp

end Sys2Proof.Machine
end

