-- ==== Sys2Proof/Machine/ReadPath.lean ====
section
/-! DEFINITION. The read side of Nib (R309 to R321): what a read covers, verification, reconstruction, staging granules,
delivery and replies, and the frame index. -/

namespace Sys2Proof.Machine

/-! ## Reads by number -/

/-- `f` applied to the read side. -/
def Dev.onRd (d : Dev) (f : Rd → Rd) : Dev := { d with rd := f d.rd }

/-- A read in flight by number. -/
def Dev.read? (d : Dev) (id : Nat) : Option ReadReq := findAt ReadReq.id id d.rd.reads

/-- `f` applied to read `id`. -/
def Dev.onRead (d : Dev) (id : Nat) (f : ReadReq → ReadReq) : Dev := d.onRd fun r => { r with reads := modifyAt ReadReq.id id f r.reads }

/-- A counter of the read side (NIB_RD_CNT_IDX). -/
def Dev.countRead (d : Dev) (item n : Nat) : Dev := d.bump 0x26 1 item n

/-- Outrider applied. -/
def Dev.onOtr (d : Dev) (f : Otr → Otr) : Dev := { d with otr := f d.otr }

/-! ## What a block of a read is (R309) -/

/-- Where a block of a read comes from: zeros, a lost stripe, or a strip's row with the stripe's fill. -/
inductive BlockPlan where
  | zero
  | lost
  | stored (psi fill strip row : Nat) (suspect : Bool)
  deriving DecidableEq, Repr

/-- The source of logical block `lba` of an object, as its map entry stands (R309). -/
def Dev.planOf (d : Dev) (object lba : Nat) : BlockPlan :=
  let g := d.geo
  let e := d.entry object (lba / max g.lb 1)
  let off := lba % max g.lb 1
  match e.state with
  | .unmapped => .zero
  | .lost => .lost
  | st => if e.fill ≤ off / max g.b 1 then .zero else .stored e.psi e.fill (off / max g.b 1) (off % max g.b 1) (st == .suspect)

/-- A run of a read's blocks that lie one after the other in one strip: the index of the first, its place, and how many. -/
structure ReadRun where
  at_ : Nat
  psi : Nat
  strip : Nat
  row : Nat
  n : Nat
  deriving DecidableEq, Repr

/-- A stored block joins the runs. -/
def addRun (l : List ReadRun) (k psi strip row : Nat) : List ReadRun :=
  match l with
  | r :: t => if r.psi = psi ∧ r.strip = strip ∧ r.at_ + r.n = k ∧ r.row + r.n = row then { r with n := r.n + 1 } :: t
    else ⟨k, psi, strip, row, 1⟩ :: l
  | [] => [⟨k, psi, strip, row, 1⟩]

/-- The runs of a read, in ascending order. -/
def Dev.readRuns (d : Dev) (r : ReadReq) : List ReadRun :=
  ((List.range r.blocks).foldl (fun l k =>
    match d.planOf r.object (r.first + k) with
    | .stored p _ s row _ => addRun l k p s row
    | _ => l) []).reverse

/-! ## The repair queue (R316) -/

/-- A stripe enters the repair queue of 1,024 entries, once. -/
def Dev.queueRepair (d : Dev) (psi : Nat) : Dev :=
  if psi ∈ d.otr.repair then d
  else if 1024 ≤ d.otr.repair.length then (d.countRead 10 1).raise 0x1A9
  else (d.onOtr fun o => { o with repair := o.repair ++ [psi] }).countRead 9 1

/-- A row is reported to Outrider while REPAIR_Q_EN is set. -/
def Dev.reportRow (d : Dev) (psi : Nat) : Dev := if d.flag Reg.nibRdCtl 0 then d.queueRepair psi else d

/-! ## Missing blocks (R313, R314) -/

/-- A strip's block of a row is missing for a read; `member` says that its only cause is its member. -/
def ReadReq.addMissing (r : ReadReq) (psi fill strip row : Nat) (member : Bool) : ReadReq :=
  if r.rows.any fun w => w.psi == psi && w.row == row then
    { r with rows := r.rows.map fun w =>
        if w.psi = psi ∧ w.row = row then
          { w with missing := if strip ∈ w.missing then w.missing else w.missing ++ [strip], memberOnly := w.memberOnly && member
                   have_ := w.have_.filter fun x => x.1 != strip }
        else w }
  else { r with rows := r.rows ++ [⟨psi, fill, row, [strip], member, [], []⟩] }

/-- A block of a read fails R312: it is missing, its row is reported, and READ_VERIFY_FAIL is raised. -/
def Dev.readBad (d : Dev) (id psi fill strip row : Nat) : Dev :=
  ((d.onRead id fun r => r.addMissing psi fill strip row false).reportRow psi).raise 0x1A6

/-- Checks 1 to 4 of R312 with their counters: GUARD_FAIL for the first, REF_FAIL for the others. -/
def Dev.checkRead (d : Dev) (object lstripe psi strip row : Nat) (b : Block) : Dev × Bool :=
  if b.pf.guard != crc64 (fit 4096 b.data) then (d.countRead 3 1, false)
  else if d.geo.checks object lstripe psi strip row b then (d, true)
  else (d.countRead 4 1, false)

/-- Whether check 5 applies to a block of a livery (R312). -/
def Dev.verifies (d : Dev) (livery : Nat) (b : Block) : Bool := b.pf.cv && bit (d.raw (Reg.nibRdCvmask + 4 * (livery / 32))) (livery % 32)

/-- A request for check 5 of a read's block. -/
def Dev.askVerify (d : Dev) (asker : CveAsker) (strip row : Nat) (b : Block) : Dev := d.cveAsk ⟨false, b.pf.keySlot, asker, 0, strip, row, b, d.q⟩

/-- A block of a read itself arrived: index `k` within the read (R312). -/
def Dev.readBlock (d : Dev) (id k : Nat) (b : Block) : Dev :=
  match d.read? id with
  | none => d
  | some r =>
    match d.planOf r.object (r.first + k) with
    | .stored psi fill strip row _ =>
      let c := d.checkRead r.object ((r.first + k) / max d.geo.lb 1) psi strip row b
      if c.2 then
        let d := c.1.onRead id fun r => { r with data := sput (fun _ => []) r.data k (fit 4096 b.data) }
        if d.verifies r.livery b then d.askVerify (.read id) strip row b else d
      else c.1.readBad id psi fill strip row
    | _ => d

/-- A survivor of a row arrived (R314). -/
def Dev.readSurvivor (d : Dev) (id psi strip row : Nat) (b : Block) : Dev :=
  match d.read? id with
  | none => d
  | some r =>
    match r.rows.find? fun w => w.psi == psi && w.row == row with
    | none => d
    | some w =>
      let ls := (List.range r.blocks).find? fun k => match d.planOf r.object (r.first + k) with | .stored p _ _ _ _ => p == psi | _ => false
      let c := d.checkRead r.object ((r.first + ls.getD 0) / max d.geo.lb 1) psi strip row b
      if c.2 then
        let put (x : RowWork) : RowWork :=
          if x.psi = psi ∧ x.row = row then { x with have_ := sput (fun _ => []) x.have_ strip (fit 4096 b.data) } else x
        let d := c.1.onRead id fun r => { r with rows := r.rows.map put }
        if d.verifies r.livery b then d.askVerify (.read id) strip row b else d
      else c.1.readBad id psi w.fill strip row

/-- A drive gave no block for a strip's row: `member` says that its member failed or left, else the drive reported an error
(R313). -/
def Dev.readLost (d : Dev) (id psi fill strip row : Nat) (member : Bool) : Dev := d.onRead id fun r => r.addMissing psi fill strip row member

/-- Check 5 of a read's block ended (R389): one that failed is missing. -/
def Dev.readVerified (d : Dev) (id strip row : Nat) (b : Block) (ok : Bool) : Dev :=
  match d.read? id with
  | none => d
  | some r =>
    if ok then d
    else
      let lba := b.pf.lref % 2 ^ 52
      let fill := match d.planOf r.object lba with | .stored _ f _ _ _ => f | _ => 0
      let d := (d.countRead 5 1).onRead id fun r =>
        { r with data := if r.first ≤ lba ∧ lba < r.first + r.blocks then r.data.filter fun x => x.1 != lba - r.first else r.data }
      d.readBad id b.pf.psi fill strip row

/-! ## Reconstruction (R314, R315) -/

/-- The strips that a row's work needs: every other data strip below FILL and P, with Q too when another cause than the
member or a second block is missing; nothing further when three are missing. -/
def RowWork.needs (w : RowWork) (dp : Nat) : List Nat :=
  let all := (List.range w.fill ++ [dp, dp + 1]).filter fun i => !(w.missing.contains i)
  if 3 ≤ w.missing.length then []
  else if w.missing.length = 1 ∧ w.memberOnly then all.filter fun i => i != dp + 1
  else all

/-- What is known of a row. -/
def RowWork.known (w : RowWork) (strip : Nat) : Option (List Byte) :=
  match sget (fun _ => []) w.have_ strip with
  | [] => none
  | l => some l

/-- The data of the row, when R314 accepts the result. -/
def RowWork.solve (w : RowWork) (dp : Nat) : Option (List (List Byte)) :=
  match w.missing with
  | [x] =>
    if w.memberOnly then solveRow w.fill dp w.known
    else match solveBoth w.fill dp x w.known with
      | some p => if p.1 == p.2 then solveRow w.fill dp w.known else none
      | none => none
  | [_, _] => solveRow w.fill dp w.known
  | _ => none

/-- Whether reads or verifications of a row are outstanding. -/
def Dev.rowBusy (d : Dev) (id : Nat) (w : RowWork) : Bool :=
  (d.drv.cmds.any fun c => match c.purpose with | .reconRead i p _ r => i == id && p == w.psi && r == w.row | _ => false)
    || d.cve.queue.any fun r => r.asker == .read id && r.block.pf.psi == w.psi && r.row == w.row

/-- A survivor is asked for: by a drive read in a PLAY window, or it is missing too. -/
def Dev.askSurvivor (d : Dev) (id : Nat) (w : RowWork) (strip : Nat) : Dev :=
  let note (x : RowWork) : RowWork := if x.psi = w.psi ∧ x.row = w.row then { x with wanted := x.wanted ++ [strip] } else x
  let d := d.onRead id fun r => { r with rows := r.rows.map note }
  match d.readPlace w.psi strip with
  | some p => d.submit' p.1 .read (p.2 + w.row) 1 1 (.reconRead id w.psi strip w.row)
  | none => d.readLost id w.psi w.fill strip w.row true

/-- The index within the read of the block at a row of a data strip, if the read holds it. -/
def Dev.indexIn (d : Dev) (r : ReadReq) (w : RowWork) (strip : Nat) : Option Nat :=
  (List.range r.blocks).find? fun k => match d.planOf r.object (r.first + k) with
    | .stored p _ s row _ => p == w.psi && s == strip && row == w.row
    | _ => false

/-- A row's work ends: its missing blocks are rebuilt, or unrecovered (R314, R315). -/
def Dev.endRow (d : Dev) (id : Nat) (r : ReadReq) (w : RowWork) : Dev :=
  let d := d.onRead id fun r => { r with rows := r.rows.filter fun x => !(x.psi == w.psi && x.row == w.row) }
  let here := w.missing.filterMap fun s => if s < d.geo.d then (d.indexIn r w s).map fun k => (s, k) else none
  match w.solve d.geo.d with
  | some l =>
    ((d.onRead id fun r =>
      { r with data := here.foldl (fun t x => sput (fun _ => []) t x.2 (fit 4096 (l.getD x.1 []))) r.data, recon := r.recon + here.length }).countRead 2
      here.length).raise 0x1A5
  | none =>
    let d := (d.onRead id fun r => { r with unrec := r.unrec ++ (here.map Prod.snd).filter fun k => !(r.unrec.contains k) }).countRead 6 here.length
    (if w.memberOnly then d else d.reportRow w.psi).raise 0x1A7

/-- Every row of a read goes as far as it can: survivors still wanting are read, and a row that has all it needs ends. -/
def Dev.advanceRows (d : Dev) (id : Nat) : Dev :=
  match d.read? id with
  | none => d
  | some r =>
    d.forEach r.rows fun d w =>
      let wanting := (w.needs d.geo.d).filter fun i => !(w.wanted.contains i)
      if !wanting.isEmpty then d.forEach wanting fun d i => d.askSurvivor id w i
      else if d.rowBusy id w then d
      else d.endRow id r w

/-! ## Granules (R317) -/

/-- Granules of 64 KiB that a read holds. -/
def ReadReq.granules (r : ReadReq) : Nat := ceilDiv (4096 * r.blocks) 65536

/-- Granules of a read up to `g` are free again: SRAM granules come first in a read. -/
def Dev.freeGranules (d : Dev) (id g : Nat) : Dev :=
  match d.read? id with
  | none => d
  | some r =>
    let g := max r.freed (min g (r.sram + r.spill))
    let n := g - r.freed
    let s := min g r.sram - min r.freed r.sram
    ((d.onRd fun x => { x with sramUsed := x.sramUsed - s, spillUsed := x.spillUsed - (n - s) }).onRead id fun r => { r with freed := g }).release 7 n

/-- The drive reads of a read are submitted, in PLAY windows (R311); zeros and lost blocks need none. -/
def Dev.submitReads (d : Dev) (id : Nat) : Dev :=
  match d.read? id with
  | none => d
  | some r =>
    let plans := (List.range r.blocks).map fun k => (k, d.planOf r.object (r.first + k))
    let zeros := plans.filterMap fun x => if x.2 = .zero then some x.1 else none
    let lost := plans.filterMap fun x => if x.2 = .lost then some x.1 else none
    let sus := (plans.filter fun x => match x.2 with | .stored _ _ _ _ s => s | _ => false).length
    let d := (d.onRead id fun r =>
      { r with submitted := true, suspect := sus, unrec := lost
               data := zeros.foldl (fun t k => sput (fun _ => []) t k zeroBlock) r.data }).countRead 11 sus
    let d := d.when (!lost.isEmpty) fun d => (d.countRead 6 lost.length).raise 0x1A7
    d.forEach (d.readRuns r) fun d x =>
      match d.readPlace x.psi x.strip with
      | some p => d.submit' p.1 .read (p.2 + x.row) x.n 1 (.read id x.strip x.at_)
      | none =>
        let fill := match d.planOf r.object (r.first + x.at_) with | .stored _ f _ _ _ => f | _ => 0
        d.forEach (List.range x.n) fun d j => d.readLost id x.psi fill x.strip (x.row + j) true

/-- A read asks for its granules, from SRAM first and from spill when SRAM has none; with neither it waits at level 3 and
SPILL_FULL is raised (R317). -/
def Dev.askGranules (d : Dev) (id : Nat) : Dev :=
  match d.read? id with
  | none => d
  | some r =>
    let lb := max 1 d.geo.lb
    if (List.range ((r.first + r.blocks - 1) / lb + 1 - r.first / lb)).any fun k => d.lookupHeld r.object (r.first / lb + k) then d else
    let since := match d.drl.waits.find? fun w => w.pool == 7 && w.who == id with | some w => w.since | none => d.q
    let a := d.request 7 r.granules false id
    if a.2 then
      let s := min r.granules (512 - d.rd.sramUsed)
      let d := (a.1.onRd fun x => { x with sramUsed := x.sramUsed + s, spillUsed := x.spillUsed + (r.granules - s) }).onRead id fun r =>
        { r with sram := s, spill := r.granules - s }
      (((d.countRead 7 (65536 * (r.granules - s))).countRead 8 (nibCycles (d.q - since))).submitReads id).advanceRows id
    else a.1.raise 0x1A8

/-- A read's lock is granted: it looks at the map and takes its granules (R309). -/
def Dev.readGranted (d : Dev) (id : Nat) : Dev := (d.onRead id fun r => { r with granted := true }).askGranules id

/-- READ_GRANULE_GRANT: a read that waits at level 3 takes its granules, when the rules of the ladder let it. -/
def execReadGranuleGrant (id : Nat) (s : State) : Host.Outcome State Fault Refusal :=
  s.run true fun d =>
    match d.read? id with
    | some r => if r.granted && !r.submitted then d.askGranules id else d
    | none => d

/-- A read begins: it takes a shared lock over its blocks before it looks at the map (R309). -/
def Dev.startRead (d : Dev) (owner : ReadOwner) (livery object mode first blocks startByte bytes qp addr key : Nat) (place : Bool) (at_ : Nat) : Dev :=
  let id := d.rd.nextId
  let l := d.askLock object first (first + blocks - 1) false (.read id)
  let x : ReadReq :=
    { id := id, owner := owner, livery := livery, object := object, mode := mode, first := first, blocks := blocks, startByte := startByte,
      bytes := bytes, qp := qp, addr := addr, key := key, place := place, lock := some l.2, granted := false, sram := 0, spill := 0,
      submitted := false, data := [], rows := [], recon := 0, suspect := 0, unrec := [], delivered := 0, ends := [], acked := 0, freed := 0,
      flushOut := false, poisoned := none, startedAt := at_ }
  (l.1.onRd fun r => { r with nextId := id + 1, reads := r.reads ++ [x] }).countRead 0 1

/-! ## Delivery (R318, R319) -/

/-- Whether a block of a read waits for check 5. -/
def Dev.verifying (d : Dev) (r : ReadReq) (k : Nat) : Bool :=
  d.cve.queue.any fun x => x.asker == .read r.id && x.block.pf.lref == dataRef r.object (r.first + k)

/-- Whether block `k` of a read is ready. -/
def Dev.blockReady (d : Dev) (r : ReadReq) (k : Nat) : Bool :=
  decide (k < r.blocks) && !(sget (fun _ => []) r.data k).isEmpty && !(d.verifying r k)

/-- The first block at or after `k` that is not unrecovered. -/
def ReadReq.skip (r : ReadReq) : Nat → Nat → Nat
  | 0, k => k
  | fuel + 1, k => if k < r.blocks ∧ k ∈ r.unrec ∧ (sget (fun _ => []) r.data k).isEmpty then r.skip fuel (k + 1) else k

/-- How many blocks from `k` on are ready. -/
def Dev.readyRun (d : Dev) (r : ReadReq) (k : Nat) : Nat := ((List.range (r.blocks - k)).takeWhile fun i => d.blockReady r (k + i)).length

/-- The bytes before the first one of a read within its first block. -/
def ReadReq.head (r : ReadReq) : Nat := r.startByte - 4096 * r.first

/-- The bytes of blocks `k` to `k + n - 1` that belong to the read, as offsets within the read. -/
def ReadReq.span (r : ReadReq) (k n : Nat) : Nat × Nat := (4096 * k - r.head, min r.bytes (4096 * (k + n) - r.head))

/-- The data of blocks `k` to `k + n - 1` of a read. -/
def ReadReq.payload (r : ReadReq) (k n : Nat) : List Byte :=
  let s := r.span k n
  let all := (List.range n).flatMap fun i => sget (fun _ => []) r.data (k + i)
  (all.drop (s.1 + r.head - 4096 * k)).take (s.2 - s.1)

/-- Bytes of a read that were delivered: all but those of its unrecovered blocks. -/
def ReadReq.bytesDelivered (r : ReadReq) : Nat :=
  r.bytes - (r.unrec.map fun k => (r.span k 1).2 - (r.span k 1).1).sum

/-- The read is over: its granules and its lock are free. -/
def Dev.dropRead (d : Dev) (r : ReadReq) : Dev :=
  let d := ((d.freeGranules r.id r.granules).endWait 7 r.id).onRd fun x => { x with reads := dropAt ReadReq.id r.id x.reads }
  match r.lock with | some l => d.releaseLock l | none => d

/-- The reply payload of READ_TO (R320). -/
def ReadReq.reply (r : ReadReq) : List Byte :=
  leBytes 8 r.bytesDelivered ++ leBytes 8 (if r.mode = 0 then r.first else r.startByte) ++ leBytes 4 r.recon ++ leBytes 4 r.suspect
    ++ leBytes 4 r.unrec.length ++ leBytes 4 (r.unrec.foldl min 0xFFFFFFFF)

/-- The detail of MEDIA_UNRECOVERED: 0x0001 when the first unrecovered block lies in a lost stripe (R309), 0x0002 otherwise
(R315). -/
def Dev.unrecDetail (d : Dev) (r : ReadReq) : Nat :=
  if d.planOf r.object (r.first + r.unrec.foldl min r.blocks) = .lost then 1 else 2

/-- A READ_TO ends with a status and a detail; the lock goes before the reply (R319). -/
def Dev.finishRead (d : Dev) (r : ReadReq) (status detail : Nat) : Dev :=
  match r.owner with
  | .nvme _ _ => d.dropRead r
  | .packet id =>
    let d := ((d.dropRead r).countRead 1 r.bytesDelivered).countLivery r.livery 7 r.bytesDelivered
    match d.cmd? id with
    | some c => (d.sampleUs 7 r.livery r.startedAt).finishWith c status detail r.reply (natsToClamps c.aux)
    | none => d

/-- Whether everything of a read was delivered and completed. -/
def ReadReq.complete (r : ReadReq) : Bool := r.submitted && r.delivered == r.blocks && r.ends.isEmpty && r.rows.isEmpty

/-- A read that packet `id` asked for goes on: unrecovered blocks are passed over, and when its last byte has left it ends, with
PLACE after a flush (R319). -/
def Dev.readProgress (d : Dev) (id : Nat) : Dev :=
  let d := (d.advanceRows id).advanceRows id
  let d := d.onRead id fun r => if r.rows.isEmpty ∧ r.submitted then { r with delivered := r.skip r.blocks r.delivered } else r
  match d.read? id with
  | none => d
  | some r =>
    match r.owner with
    | .nvme _ _ => d
    | .packet cid =>
      if r.poisoned.isSome && r.ends.isEmpty then d.finishRead r 0x800D (r.poisoned.getD 0)
      else if !r.complete || r.flushOut then d
      else if r.place ∧ r.bytesDelivered ≠ 0 then
        if d.rqRoom r.qp then (d.onRead id fun r => { r with flushOut := true }).postFlush r.qp (some id) none else d
      else if r.unrec.isEmpty then
        let late := match (d.cmd? cid).bind Cmd.due with | some t => d.isLate d.q t | none => false
        d.finishRead r (if late then 3 else 0) 0
      else d.finishRead r 0x8009 (d.unrecDetail r)

/-- A write of a read's data is completed (R176): the granules it covered are free. -/
def Dev.readWriteDone (d : Dev) (id : Nat) : Dev :=
  match d.read? id with
  | none => d
  | some r =>
    let e := r.ends.headD r.acked
    let d := d.onRead id fun r => { r with ends := r.ends.drop 1, acked := e }
    (d.freeGranules id (if e = r.blocks then r.granules else e * 4096 / 65536)).readProgress id

/-- The flush of a read is completed: it may reply. -/
def Dev.readFlushed (d : Dev) (id : Nat) : Dev := (d.onRead id fun r => { r with flushOut := false, place := false }).readProgress id

/-- A completed work request of a queue serves a read (R176, R177). -/
def Dev.readWork (d : Dev) (w : WorkReq) : Dev :=
  match w.read with
  | none => d
  | some id => match w.op with
    | .flush _ => d.readFlushed id
    | _ => d.readWriteDone id

/-- A requester queue ended: every read that delivers on it completes with QUEUE_RESET (R179, R319). -/
def Dev.readsOfQueue (d : Dev) (qp detail : Nat) : Dev :=
  d.forEach (d.rd.reads.filter fun r => r.qp == qp && (match r.owner with | .packet _ => true | _ => false)) fun d r => d.finishRead r 0x800C detail

/-- The next ready run of a READ_TO leaves as one RDMA Write on its requester queue, in ascending order (R318). -/
def Dev.deliverRead (d : Dev) (r : ReadReq) : Dev :=
  let k := r.skip r.blocks r.delivered
  let n := d.readyRun r k
  let d := d.onRead r.id fun r => { r with delivered := k }
  if n = 0 ∨ r.poisoned.isSome then d.readProgress r.id
  else if d.rqRoom r.qp then
    let s := r.span k n
    (d.onRead r.id fun r => { r with delivered := k + n, ends := r.ends ++ [k + n] }).postWork r.qp
      (.plain (.write (r.addr + s.1) r.key (r.payload k n)) (some r.id) none)
  else d

/-! ## READ_TO (R320) -/

/-- What READ_TO reads: the first byte, the bytes, and the clamps of its count; or the failing field. -/
def readExtent (o : Obj) (p : List Byte) (mode : Nat) : Except Nat (Nat × Nat × List ClampEntry) :=
  let start := fieldAt p 8 8
  let count := fieldAt p 16 8
  let region := min (256 * 1048576) (fieldAt p 40 8)
  let entry (l : List (Nat × Nat)) : List ClampEntry := match l.getLast? with
    | some x => if x.2 = count then [] else [⟨16, 0, 64, x.1, count, x.2⟩]
    | none => []
  let low := max 1 count
  let tag (n k : Nat) (before : List (Nat × Nat)) : List (Nat × Nat) := if (before.getLast?.map Prod.snd).getD count = n then before else before ++ [(k, n)]
  if mode = 2 then
    match o.frames.findIdx? fun f => f.1 == start with
    | none => .error 8
    | some j =>
      let ends (i : Nat) : Nat := match o.frames[i]? with | some f => f.2 | none => o.length
      let from_ := ends j
      let n := min low (o.frames.length - j)
      let fits := ((List.range' 1 n).filter fun k => decide (ends (j + k) - from_ ≤ region)).length
      if fits = 0 then .error 40
      else .ok (from_, ends (j + fits) - from_, entry (tag fits 6 (tag n 2 (tag low 1 []))))
  else
    let unit := if mode = 0 then 4096 else 1
    let size := if mode = 0 then o.size else o.length
    if size ≤ start then .error 8
    else
      let n := min low (size - start)
      let m := min n (region / unit)
      .ok (start * unit, m * unit, entry (tag m 6 (tag n 2 (tag low 1 []))))

/-- READ_TO (R320). -/
def Dev.runReadTo (d : Dev) (c : Cmd) : Dev :=
  let p := c.pkt.params
  let mode := if 2 < c.par 2 1 then 0 else c.par 2 1
  match d.objOf c with
  | none => d.rangeFault c 0
  | some o =>
    if mode ≠ 0 ∧ !o.isTake then d.rangeFault c 0
    else if !(d.rqOpen (c.par 4 4) c.livery) then d.rangeFault c 4
    else match readExtent o p mode with
      | .error off => d.rangeFault c off
      | .ok (from_, bytes, l) =>
        let clamps := replaceParam p 2 0 8 3 mode ++ reservedParam p 3 1 7 ++ l
        if bytes = 0 then d.doneClamped c (leBytes 8 0 ++ leBytes 8 (if mode = 0 then from_ / 4096 else from_) ++ leBytes 12 0 ++ leBytes 4 0xFFFFFFFF) clamps
        else
          let first := from_ / 4096
          let blocks := ceilDiv (from_ + bytes) 4096 - first
          let d := d.onCmd c.id fun c => { c with phase := .running, aux := clampsToNats clamps }
          d.startRead (.packet c.id) c.livery o.num mode first blocks from_ bytes (c.par 4 4) (c.par 24 8) (c.par 32 4) (bit (c.par 3 1) 0) d.q

/-- FRAME_INDEX_QUERY (R321). -/
def Dev.runFrameIndexQuery (d : Dev) (c : Cmd) : Dev :=
  match (d.objOf c).filter Obj.isTake with
  | none => d.rangeFault c 0
  | some o =>
    let i := c.par 4 4
    let part := (o.frames.drop i).take 500
    let next := if i + part.length < o.frames.length then i + part.length else 0xFFFFFFFF
    d.done c (leBytes 4 o.frames.length ++ leBytes 4 next ++ (part.map fun f => leBytes 8 f.1 ++ leBytes 8 f.2).flatten)

/-- A livery's reads are over without replies (R71, R286). -/
def Dev.discardReads (d : Dev) (livery : Nat) : Dev := d.forEach (d.rd.reads.filter fun r => r.livery == livery) fun d r => d.dropRead r

end Sys2Proof.Machine
end

