-- ==== Sys2Proof/Machine/Outrider.lean ====
section
/-! DEFINITION. Outrider (R322 to R331): its pace, stripe checks, the classes of a row, correction in place, the suspect
list, and its commands; with what Relay shares of it: references, MAP_COMMITs of a state, and the lists of R330 and R349. -/

namespace Sys2Proof.Machine

/-- A counter of Outrider (OTR_CNT_IDX). -/
def Dev.countOtr (d : Dev) (item n : Nat) : Dev := d.bump 0x28 0 item n

/-- `f` applied to the check in progress. -/
def Dev.onCheck (d : Dev) (f : OtrCheck → OtrCheck) : Dev := d.onOtr fun o => { o with check := o.check.map f }

/-! ## State of a stripe (R327, R330, R346, R349) -/

/-- A MAP_COMMIT with the entry's PSI and FILL, a new state and MGEN advanced (R327). The number is its RSN. -/
def Dev.commitState (d : Dev) (object lstripe : Nat) (st : EntryState) : Dev × Nat :=
  let e := d.entry object lstripe
  let q := d.takeSeq
  q.1.append (.mapCommit q.2 e.psi e.fill st.code ((e.mgen + 1) % 2 ^ 18) lstripe object 0 false none 0 false)

/-- That MAP_COMMIT is home-acknowledged: the entry changes (R275). -/
def Dev.applyState (d : Dev) (object lstripe : Nat) (st : EntryState) (rsn : Nat) : Dev :=
  let e := d.entry object lstripe
  let d := (d.setEntry object lstripe { e with state := st, mgen := (e.mgen + 1) % 2 ^ 18 }).markApplied rsn
  match d.mapSegment object lstripe with | some g => d.dirty g | none => d

/-- A SUSPECT entry joins the suspect list of 65,536; the oldest goes when it is full (R330). -/
def Dev.addSuspect (d : Dev) (psi object lstripe reason : Nat) : Dev :=
  let full := decide (65536 ≤ d.otr.suspects.length)
  let d := (d.onOtr fun o =>
    { o with suspects := (if full then o.suspects.drop 1 else o.suspects) ++ [⟨psi, object, lstripe, reason, d.now⟩] }).dirty (d.metaSegment 8451)
  if full then d.raise 0x1A4 else d

/-- A lost stripe joins the lost-stripe list of 1,048,576 entries, or is counted as unlisted (R349). -/
def Dev.addLost (d : Dev) (psi object : Nat) : Dev :=
  if (psi, object) ∈ d.lay.lost then d
  else if 1048576 ≤ d.lay.lost.length then (d.bump 0x29 0 7 1).raise 0x1B5
  else (d.onLay fun l => { l with lost := l.lost ++ [(psi, object)] }).dirty (d.metaSegment 8451)

/-! ## Rows (R326) -/

/-- What a row turns out to be: clean, lost, suspect with a reason, or corrected strips with their data; `erasure` says that
blocks failed checks 1 to 4. -/
inductive RowClass where
  | clean
  | lost
  | suspect (reason : Nat)
  | fixed (l : List (Nat × List Byte)) (erasure : Bool)
  deriving DecidableEq, Repr

/-- Whether every byte is zero. -/
def allZero (l : List Byte) : Bool := l.all fun b => b == 0

/-- The strip that the syndromes locate (R243): P is at place `dp`, Q at `dp + 1`. -/
def locateStrip (fill dp : Nat) (sp sq : List Byte) : Option Nat :=
  if allZero sp then (if allZero sq then none else some (dp + 1))
  else if allZero sq then some dp
  else
    let zs := (sp.zip sq).map fun x =>
      if x.1 = 0 ∧ x.2 = 0 then none
      else if x.1 = 0 ∨ x.2 = 0 then some 255
      else some ((pLog x.2.toNat + 255 - pLog x.1.toNat) % 255)
    match (zs.filterMap id).dedup with
    | [z] => if z < fill then some z else none
    | _ => none

/-- The data of strip `s` of row `row` among the blocks that were read, when it passed checks 1 to 4. -/
def gotData (got : List GotBlock) (row s : Nat) : Option (List Byte) :=
  match got.find? fun b => b.strip == s && b.row == row with
  | some b => if b.ok then b.block.map fun x => fit 4096 x.data else none
  | none => none

/-- The value that a single erased strip takes, when P and Q agree on it: a parity strip agrees when the other parity is that
of the data. -/
def solveOne (fill dp x : Nat) (have_ : Nat → Option (List Byte)) : Option (List Byte) :=
  let data := (List.range fill).map fun i => (have_ i).getD zeroBlock
  if x < dp then
    match solveBoth fill dp x have_ with
    | some p => if p.1 == p.2 then some p.1 else none
    | none => none
  else if x = dp then (if have_ (dp + 1) = some (parityQ data) then some (parityP data) else none)
  else (if have_ dp = some (parityP data) then some (parityQ data) else none)

/-- The value of strip `s` of a row whose data is known. -/
def rowValue (dp : Nat) (data : List (List Byte)) (s : Nat) : List Byte :=
  if s < dp then data.getD s zeroBlock else if s = dp then parityP data else parityQ data

/-- The class of row `row` (R326). -/
def classifyRow (fill dp : Nat) (got : List GotBlock) (row : Nat) : RowClass :=
  let strips := List.range fill ++ [dp, dp + 1]
  let have_ := gotData got row
  let bad := strips.filter fun s => (have_ s).isNone
  let cv := strips.filter fun s => got.any fun b => b.strip == s && b.row == row && b.cvBad
  if 3 ≤ (bad ++ cv).dedup.length then .lost
  else match bad with
    | [] =>
      let data := (List.range fill).map fun i => (have_ i).getD zeroBlock
      let sp := xorBytes ((have_ dp).getD zeroBlock) (parityP data)
      let sq := xorBytes ((have_ (dp + 1)).getD zeroBlock) (parityQ data)
      if allZero sp && allZero sq then (if cv.isEmpty then .clean else .suspect 2)
      else match locateStrip fill dp sp sq with
        | some z => .fixed [(z, if z < dp then xorBytes (data.getD z zeroBlock) sp else rowValue dp data z)] false
        | none => .suspect 1
    | [x] => (match solveOne fill dp x have_ with | some v => .fixed [(x, v)] true | none => .suspect 1)
    | _ => match solveRow fill dp have_ with
      | some data => .fixed (bad.map fun s => (s, rowValue dp data s)) true
      | none => .lost

/-- The class of a row with OTR_CTL.CORRECT taken into account (R326). -/
def Dev.otrClass (d : Dev) (c : OtrCheck) (row : Nat) : RowClass :=
  match classifyRow (d.entry c.object c.lstripe).fill d.geo.d c.got row with
  | .fixed l e => if d.flag Reg.otrCtl 2 then .fixed l e else .suspect 3
  | x => x

/-! ## Beginning a check (R322 to R325) -/

/-- The counts of a running OTR_PASS (checked, corrected, SUSPECT, LOST, erasures) rise. -/
def Dev.countPass (d : Dev) (i n : Nat) : Dev :=
  if d.otr.pass.isSome then d.onOtr fun o => { o with passCounts := o.passCounts.set i (o.passCounts.getD i 0 + n) } else d

/-- The check ends. -/
def Dev.endCheck (d : Dev) : Dev :=
  match d.otr.check with
  | some c =>
    let d := match c.lock with | some l => d.releaseLock l | none => d
    d.onOtr fun o => { o with check := none }
  | none => d

/-- The stripe is skipped (R324, R325). -/
def Dev.skipCheck (d : Dev) : Dev := (d.countOtr 1 1).endCheck

/-- The lowest strip from `k` on whose block 0 can be read. -/
def Dev.readableFrom (d : Dev) (psi k : Nat) : Option Nat := (List.range' k (d.geo.d - k)).find? fun i => (d.readPlace psi i).isSome

/-- Block 0 of the next readable data strip is read for its reference; without one the stripe is skipped (R325, step 1). -/
def Dev.otrFindRef (d : Dev) : Dev :=
  match d.otr.check with
  | none => d
  | some c =>
    match (d.readableFrom c.psi c.tryStrip).bind fun i => (d.readPlace c.psi i).map fun p => (i, p) with
    | some (i, p) =>
      let r := d.submitTo p.1 .read p.2 1 3 (.patrol i 0)
      r.1.onCheck fun c => { c with tryStrip := i, reads := [r.2] }
    | none => d.skipCheck

/-- Whether Outrider skips physical stripe `psi` (R324): not MAPPED, or with a strip that has no written location. -/
def Dev.otrSkips (d : Dev) (psi : Nat) : Bool := d.phys psi != 2 || (List.range d.geo.w).any fun i => d.unbuilt psi i

/-- A check of stripe `psi` begins, unless it is skipped. The flag says whether it began. -/
def Dev.otrBegin (d : Dev) (psi : Nat) (forPass : Option Nat) : Dev × Bool :=
  if d.otrSkips psi then (d.countOtr 1 1, false)
  else
    let c : OtrCheck :=
      { psi := psi, object := 0, lstripe := 0, stage := 1, tryStrip := 0, lock := none, got := [], recorded := [], reads := [], writes := [],
        fixes := [], reason := 0, lost := false, clean := false, intents := [], rsn := none, forPass := forPass }
    ((d.onOtr fun o => { o with check := some c }).otrFindRef, true)

/-- The cursor moves on (R323): a wrap counts in PASSES and raises OTR_PASS_DONE; every 65,536 stripes it is recorded. -/
def Dev.otrMove (d : Dev) : Dev :=
  let n := d.otr.cursor + 1
  let wrap := decide (d.geo.p ≤ n)
  let d := d.onOtr fun o => { o with cursor := if wrap then 0 else n }
  let d := if wrap then (d.countOtr 10 1).raise 0x1A3 else d
  if n % 65536 = 0 ∧ !wrap then d.change (.otrCursor n) none else d

/-- Whether background patrol may start a check now (R322, R331, R348). -/
def Dev.otrMayStart (d : Dev) : Bool :=
  d.flag Reg.otrCtl 0 && d.classOpen 3 && d.otr.check.isNone && d.otr.pass.isNone && d.lay.state == 3
    && decide (d.otr.frameUsed < max 1 (d.fld Reg.otrRate 0 16)) && !(d.rly.raised && d.flag Reg.rlyCtl 1)

/-- OTR_CHECK_START: the next stripe of the repair queue, else of the cursor, is checked or skipped (R322 to R325). -/
def execOtrCheckStart (s : State) : Host.Outcome State Fault Refusal :=
  s.run true fun d =>
    if !d.otrMayStart then d
    else
      let p := match d.otr.repair with
        | psi :: t => ((d.onOtr fun o => { o with repair := t }).otrBegin psi none)
        | [] => d.otrMove.otrBegin d.otr.cursor none
      if p.2 then p.1.onOtr fun o => { o with frameUsed := o.frameUsed + 1 } else p.1

/-! ## What the drives return -/

/-- The reference of a stripe from block 0 of a strip, checked by checks 1, 2 and 4 (R325): object and logical stripe. -/
def ArrayGeo.reference (g : ArrayGeo) (psi strip : Nat) (b : Block) : Option (Nat × Nat) :=
  if b.pf.guard == crc64 (fit 4096 b.data) && b.pf.role == g.role strip && b.pf.psi == psi && b.pf.strip == strip then
    some (b.pf.lref / 2 ^ 52, b.pf.lref % 2 ^ 52 / max g.lb 1)
  else none

/-- A block that was read, with checks 1 to 4. -/
def Dev.gotBlock (d : Dev) (object lstripe psi strip row : Nat) (b : Option Block) : GotBlock :=
  ⟨strip, row, b, match b with | some x => d.geo.checks object lstripe psi strip row x | none => false, false⟩

/-- The blocks a read returned, from row `row` on; those of a read that gave nothing are absent. -/
def blocksFrom (n : Nat) (l : List Block) : List (Option Block) := (List.range n).map fun i => l[i]?

/-- The stripe's lock is asked for (R325, R327). -/
def Dev.otrLock (d : Dev) (exclusive : Bool) : Dev :=
  match d.otr.check with
  | some c =>
    let lb := d.geo.lb
    let l := d.askLock c.object (c.lstripe * lb) (c.lstripe * lb + lb - 1) exclusive .outrider
    l.1.onCheck fun c => { c with lock := some l.2 }
  | none => d

/-- A drive read of Outrider's ended: the blocks of strip `strip` from row `row` on. -/
def Dev.otrTook (d : Dev) (cmd strip row n : Nat) (l : List Block) : Dev :=
  match d.otr.check with
  | none => d
  | some c =>
    if !(c.reads.contains cmd) then d
    else
      let d := (d.onCheck fun c => { c with reads := c.reads.erase cmd }).countOtr 11 (4096 * l.length)
      if c.stage = 1 then
        match l.head?.bind (d.geo.reference c.psi strip) with
        | some (o, ls) => (d.onCheck fun c => { c with object := o, lstripe := ls, stage := 2 }).otrLock false
        | none => (d.onCheck fun c => { c with tryStrip := strip + 1 }).otrFindRef
      else
        let new_ := (List.range n).map fun i => d.gotBlock c.object c.lstripe c.psi strip (row + i) ((blocksFrom n l).getD i none)
        let d := d.onCheck fun c => { c with got := c.got ++ new_ }
        d.forEach new_ fun d x =>
          match x.block with
          | some b => if x.ok && b.pf.cv && d.flag Reg.otrCtl 1 then d.askVerify .outrider strip x.row b else d
          | none => d

/-- The strips of the stripe are read: whole, or the rows given (R325 step 3, R327 step 3). -/
def Dev.otrRead (d : Dev) (rows : Option (List Nat)) : Dev :=
  match d.otr.check with
  | none => d
  | some c =>
    let g := d.geo
    let parts := match rows with | none => [(0, g.b)] | some l => l.map fun r => (r, 1)
    let d := d.onCheck fun c => { c with got := [] }
    d.forEach ((List.range (d.entry c.object c.lstripe).fill ++ [g.d, g.d + 1]).flatMap fun s => parts.map fun p => (s, p)) fun d x =>
      match d.readPlace c.psi x.1 with
      | some p =>
        let r := d.submitTo p.1 .read (p.2 + x.2.1) x.2.2 3 (.patrol x.1 x.2.1)
        r.1.onCheck fun c => { c with reads := c.reads ++ [r.2] }
      | none =>
        d.onCheck fun c => { c with got := c.got ++ (List.range x.2.2).map fun i => ⟨x.1, x.2.1 + i, none, false, false⟩ }

/-- Whether the map entry names the stripe that is checked. -/
def Dev.otrNamed (d : Dev) (c : OtrCheck) : Bool :=
  let e := d.entry c.object c.lstripe
  e.psi == c.psi && e.state != .unmapped && e.state != .lost

/-- The rows that need action. -/
def OtrCheck.rows (c : OtrCheck) : List Nat := (c.recorded.map fun x => x.2.1).dedup

/-- A lock of Outrider's is granted (R325 step 2, R327 step 2). -/
def Dev.otrGranted (d : Dev) : Dev :=
  match d.otr.check with
  | none => d
  | some c =>
    if c.stage = 2 then (if d.otrNamed c then (d.onCheck fun c => { c with stage := 3 }).otrRead none else d.skipCheck)
    else if c.stage = 4 then
      if d.otrNamed c then (d.onCheck fun c => { c with stage := 5 }).otrRead (some c.rows) else (d.countOtr 6 1).endCheck
    else d

/-! ## Decisions (R325 to R329) -/

/-- The check ends with its stripe counted. -/
def Dev.otrChecked (d : Dev) : Dev := (d.countOtr 0 1).countPass 0 1

/-- The rows are classified, the shared lock is released, and the check ends or goes on to correction (R325, steps 4 and 5). -/
def Dev.otrJudge (d : Dev) (c : OtrCheck) : Dev :=
  let classes := (List.range d.geo.b).map fun r => (r, d.otrClass c r)
  let count (f : RowClass → Bool) : Nat := (classes.filter fun x => f x.2).length
  let erased := count fun x => match x with | .fixed _ e => e | _ => false
  let located := count fun x => match x with | .fixed _ e => !e | _ => false
  let d := (((d.countOtr 2 (count (· == .clean))).countOtr 3 erased).countOtr 4 located).countPass 4 erased
  let d := d.otrChecked
  let d := match c.lock with | some l => (d.releaseLock l).onCheck fun c => { c with lock := none } | none => d
  let act := (classes.filter fun x => x.2 != .clean).map Prod.fst
  let suspectRow := classes.any fun x => match x.2 with | .suspect _ => true | _ => false
  let mild := classes.all fun x => match x.2 with | .lost => false | .fixed _ e => !e | _ => true
  let marked := (d.entry c.object c.lstripe).state == .suspect
  if (act.isEmpty && !marked) || (suspectRow && mild && marked) then d.endCheck
  else
    let seqs := (c.got.filter fun b => act.contains b.row).filterMap fun b => b.block.map fun x => (b.strip, b.row, x.pf.wseq)
    (d.onCheck fun c => { c with stage := 4, recorded := seqs, clean := act.isEmpty }).otrLock true

/-- The block that corrects strip `s` of row `row` (R328), with the next write sequence. -/
def Dev.otrFix (d : Dev) (c : OtrCheck) (row s : Nat) (data : List Byte) : Dev × Block :=
  let g := d.geo
  let q := d.takeSeq
  let old := (c.got.find? fun b => b.strip == s && b.row == row).bind GotBlock.block
  let pStamp := match (c.got.find? fun b => b.strip == g.d && b.row == row).bind GotBlock.block with | some b => b.pf.stamp | none => 0
  let fresh := g.block c.object c.lstripe c.psi s row (if s < g.d then pStamp else d.now) q.2 data
  if g.d ≤ s then (q.1, fresh)
  else match old with
    | some b =>
      if b.pf.lref == g.refAt c.object c.lstripe s row && b.pf.psi == c.psi && b.pf.strip == s then
        (q.1, { fresh with pf := { fresh.pf with stamp := b.pf.stamp, keySlot := b.pf.keySlot, cv := b.pf.cv, tag := b.pf.tag } })
      else (q.1.countOtr 13 1, fresh)
    | none => (q.1.countOtr 13 1, fresh)

/-- The corrected block as its kept tag vouches for it: with the write sequence it was read with (R328). -/
def OtrCheck.asTagged (c : OtrCheck) (strip row : Nat) (b : Block) : Block :=
  match (c.got.find? fun x => x.strip == strip && x.row == row).bind GotBlock.block with
  | some o => { b with pf := { b.pf with wseq := o.pf.wseq } }
  | none => b

/-- The corrections and the outcome of a stripe are settled: corrections with CV 1 have their tags verified (R327, R328). -/
def Dev.otrDecide (d : Dev) (c : OtrCheck) (classes : List (Nat × RowClass)) : Dev :=
  let lost := classes.any fun x => x.2 == .lost
  let reason := classes.foldl (fun a x => match x.2 with | .suspect r => if a = 0 then r else a | _ => a) 0
  let wants := if lost then [] else classes.flatMap fun x => match x.2 with | .fixed l _ => l.map fun y => (x.1, y.1, y.2) | _ => []
  let p := wants.foldl (fun (acc : Dev × List (Nat × Nat × Block)) w =>
    let f := acc.1.otrFix c w.1 w.2.1 w.2.2
    (f.1, acc.2 ++ [(w.2.1, w.1, f.2)])) (d, [])
  let now := (classes.filter fun x => x.2 == .clean).length
  let d := (p.1.countOtr 6 now).onCheck fun c => { c with stage := 6, fixes := p.2, reason := reason, lost := lost }
  d.forEach (p.2.filter fun f => f.2.2.pf.cv) fun d f => d.askVerify .outrider f.1 f.2.1 (c.asTagged f.1 f.2.1 f.2.2)

/-- The re-read is complete (R327 step 3, R329). -/
def Dev.otrRecheck (d : Dev) (c : OtrCheck) : Dev :=
  let changed := c.recorded.any fun x =>
    match (c.got.find? fun b => b.strip == x.1 && b.row == x.2.1).bind GotBlock.block with
    | some b => b.pf.wseq != x.2.2
    | none => false
  if changed then (d.countOtr 6 1).onCheck fun c => { c with stage := 6, reason := 4, fixes := [] }
  else d.otrDecide c (c.rows.map fun r => (r, d.otrClass c r))

/-- The intents of the corrections are written, one for each block (R327 step 4). -/
def Dev.otrIntents (d : Dev) (c : OtrCheck) : Dev :=
  let g := d.geo
  let d := d.forEach c.fixes fun d f =>
    let w := f.2.2.pf.wseq
    let r :=
      if f.1 < g.d then
        let p := d.appendPayload (fit 4096 f.2.2.data)
        p.1.append (.intentRmw w c.psi c.lstripe c.object 6 false (f.1 * g.b + f.2.1) 1 0 0 p.2)
      else d.append (.intentRmw w c.psi c.lstripe c.object 6 true f.2.1 0 0 0 0)
    r.1.onCheck fun c => { c with intents := c.intents ++ [r.2] }
  d.onCheck fun c => { c with stage := 7 }

/-- The corrected blocks are written in place in OUTR windows (R327 step 5). -/
def Dev.otrWrite (d : Dev) (c : OtrCheck) : Dev :=
  let d := d.forEach c.fixes fun d f =>
    let d := ((d.countOtr 5 1).countPass 1 1).raise 0x1A0
    match d.writePlace c.psi f.1 with
    | some p =>
      let r := d.submitTo p.1 .write (p.2 + f.2.1) 1 3 .patrolWrite
      (r.1.emit (.block (d.memberSlot p.1) f.2.2)).onCheck fun c => { c with writes := c.writes ++ [r.2] }
    | none => d
  d.onCheck fun c => { c with stage := 8 }

/-- The state that the outcome gives the entry (R327, R330); none where it stays. -/
def Dev.otrOutcome (d : Dev) (c : OtrCheck) : Option EntryState :=
  let e := d.entry c.object c.lstripe
  if c.lost then some .lost
  else if c.reason ≠ 0 then (if e.state = .suspect then none else some .suspect)
  else if c.clean ∧ e.state = .suspect then some (d.geo.stateOf e.fill)
  else none

/-- CLOSE records and the MAP_COMMIT of the outcome are written (R327 step 6). -/
def Dev.otrClose (d : Dev) (c : OtrCheck) : Dev :=
  let d := d.forEach c.intents fun d i =>
    let w := ((d.record? i).bind fun r => intentSeq r.body).getD 0
    let r := d.append (.close w i 0)
    r.1.onCheck fun c => { c with rsn := some r.2 }
  let d := match d.otrOutcome c with
    | some st =>
      let r := d.commitState c.object c.lstripe st
      r.1.onCheck fun c => { c with rsn := some r.2 }
    | none => d
  d.onCheck fun c => { c with stage := 9 }

/-- The records are home-acknowledged: the entry changes, the lists follow, and the lock goes. -/
def Dev.otrEnd (d : Dev) (c : OtrCheck) : Dev :=
  let d := match d.otrOutcome c with
    | some st =>
      let d := d.applyState c.object c.lstripe st (c.rsn.getD 0)
      match st with
      | .lost => (((d.addLost c.psi c.object).countOtr 9 1).countPass 3 1).raise 0x1A2
      | .suspect => (((d.addSuspect c.psi c.object c.lstripe c.reason).countOtr 7 1).countPass 2 1).raise 0x1A1
      | _ => d.countOtr 8 1
    | none => d
  d.endCheck

/-- Whether the check waits for drives or lanes. -/
def Dev.otrBusy (d : Dev) (c : OtrCheck) : Bool := !(c.reads.isEmpty) || d.cve.queue.any fun r => r.asker == .outrider

/-- The check goes as far as it can. -/
def Dev.otrProgress (d : Dev) : Dev :=
  match d.otr.check with
  | none => d
  | some c =>
    if d.otrBusy c then d
    else match c.stage with
      | 3 => d.otrJudge c
      | 5 => d.otrRecheck c
      | 6 => if c.fixes.isEmpty then d.onCheck fun c => { c with stage := 8 } else if d.spanRoom then d.otrIntents c else d
      | 7 => if c.intents.all d.homeAcked then d.otrWrite c else d
      | 8 => if c.writes.isEmpty && !d.blt.stopped then d.otrClose c else d
      | 9 => if c.rsn.all d.homeAcked then d.otrEnd c else d
      | _ => d

/-- A correction's write is acknowledged. -/
def Dev.otrWrote (d : Dev) (cmd : Nat) : Dev := d.onCheck fun c => { c with writes := c.writes.erase cmd }

/-- Check 5 of a block of Outrider's ended (R326, R328): a correction whose kept tag fails asks for a new one. -/
def Dev.otrVerified (d : Dev) (slot strip row : Nat) (ok : Bool) : Dev :=
  match d.otr.check with
  | none => d
  | some c =>
    if ok then d
    else if c.stage = 6 then
      match c.fixes.find? fun f => f.1 == strip && f.2.1 == row with
      | some f => d.cveAsk ⟨true, slot, .outrider, 0, strip, row, f.2.2, d.q⟩
      | none => d
    else d.onCheck fun c => { c with got := c.got.map fun b => if b.strip = strip ∧ b.row = row then { b with cvBad := true } else b }

/-- A correction has its new tag: it counts in CV_REISSUED and the stripe is SUSPECT reason 2 (R328). -/
def Dev.otrTagged (d : Dev) (strip row : Nat) (b : Block) : Dev :=
  (d.countOtr 12 1).onCheck fun c =>
    { c with reason := if c.reason = 0 then 2 else c.reason
             fixes := c.fixes.map fun f => if f.1 = strip ∧ f.2.1 = row then (strip, row, b) else f }

/-! ## Commands (R331) -/

/-- OTR_CONFIGURE. -/
def Dev.runOtrConfigure (d : Dev) (c : Cmd) : Dev :=
  let p := c.pkt.params
  let n := clampParam p 0 0 16 1 65535
  (((d.setFld Reg.otrRate 0 16 n.1).setFld Reg.otrCtl 0 3 (c.par 2 1 % 8))).doneClamped c [] (n.2 ++ reservedParam p 2 3 5)

/-- OTR_SUSPECT_QUERY. -/
def Dev.runOtrSuspectQuery (d : Dev) (c : Cmd) : Dev :=
  let i := c.par 0 8
  let part := (d.otr.suspects.drop i).take 300
  let next := if i + part.length < d.otr.suspects.length then i + part.length else 0xFFFFFFFF
  d.done c (leBytes 4 d.otr.suspects.length ++ leBytes 4 next ++ (part.map fun s =>
    leBytes 8 (s.psi + s.object * 2 ^ 36) ++ leBytes 8 (s.lstripe + s.reason * 2 ^ 48) ++ leBytes 8 s.rts).flatten)

/-- OTR_PASS is accepted: its first stripe, the count clamped, and its progress (next PSI, end). -/
def Dev.runOtrPass (d : Dev) (c : Cmd) : Dev :=
  let first := c.par 0 8
  if d.geo.p ≤ first then d.rangeFault c 0
  else
    let n := clampParam c.pkt.params 8 0 64 1 (d.geo.p - first)
    d.acceptLong c 0 n.2 [first, first + n.1]

/-- The reply payload of OTR_PASS. -/
def Dev.otrPassReply (d : Dev) (next : Nat) : List Byte :=
  let k (i : Nat) : Nat := d.otr.passCounts.getD i 0
  leBytes 8 (k 0) ++ leBytes 4 (k 1) ++ leBytes 4 (k 2) ++ leBytes 4 (k 3) ++ leBytes 4 (k 4) ++ leBytes 8 next

/-- The pass is over: background patrol goes on. -/
def Dev.otrPassOver (d : Dev) : Dev := d.onOtr fun o => { o with pass := none, passCounts := [] }

/-- A step of OTR_PASS in slot `slot`: one stripe is checked to its end (R331); it waits for OUTR to be open and for a check
in progress. -/
def Dev.otrPassStep (d : Dev) (slot : Nat) (prog : List Nat) : Dev × StepEnd :=
  let next := prog.headD 0
  let stop := prog.getD 1 0
  let begun := prog.getD 2 0
  let d := if d.otr.pass.isSome then d else d.onOtr fun o => { o with pass := some (slot, next, stop), passCounts := [0, 0, 0, 0, 0] }
  let after (d : Dev) : Dev × StepEnd :=
    if stop ≤ next + 1 then (d.otrPassOver, .done 0 0 (d.otrPassReply (next + 1))) else (d, .more [next + 1, stop, 0])
  if d.otr.check.isSome then (d, .waits [next, stop, begun])
  else if begun = 1 then after d
  else if !(d.classOpen 3) then (d, .waits [next, stop, 0])
  else
    let p := d.otrBegin next (some slot)
    if p.2 then (p.1, .waits [next, stop, 1]) else after p.1

end Sys2Proof.Machine
end

