-- ==== Sys2Proof/Machine/Relay.lean ====
section
/-! DEFINITION. Relay (R333 to R356): declarations and label writes, rebuild work and its order, rebuilding a stripe,
replacement and copy-back, ordinals, and Relay's commands. -/

namespace Sys2Proof.Machine

/-- A counter of Relay (RLY_CNT_IDX). -/
def Dev.countRly (d : Dev) (item n : Nat) : Dev := d.bump 0x29 0 item n

/-- `f` applied to Relay. -/
def Dev.onRly (d : Dev) (f : Rly → Rly) : Dev := { d with rly := f d.rly }

/-- `f` applied to the stripe in work. -/
def Dev.onWork (d : Dev) (f : RelayStripe → RelayStripe) : Dev := d.onRly fun r => { r with work := r.work.map f }

/-! ## Rebuild work (R339) -/

/-- Relay's credits brought up to the present quantum (R347). -/
def Dev.relayTick (d : Dev) : Dev :=
  let r := d.creditNow d.rly.readCredit
  let w := d.creditNow d.rly.writeCredit
  d.onRly fun x => { x with readCredit := r, writeCredit := w, creditAt := d.q }

/-- The raised priority as it now stands (R348). -/
def Dev.judgeRaised (d : Dev) : Dev :=
  let up := decide (2 ≤ d.workMembers)
  if up = d.rly.raised then d
  else
    let d := d.relayTick.onRly fun r => { r with raised := up }
    if up then d.raise 0x1B3 else d

/-! ## Records of Relay (R342) -/

/-- A RELAY_CURSOR record. The number is its RSN. -/
def Dev.writeCursor (d : Dev) (cursor ordinal phase : Nat) : Dev × Nat :=
  let r := d.append (.relayCursor cursor ordinal phase)
  (r.1.onRly fun x => { x with lastRsn := sput (fun _ => 0) x.lastRsn ordinal r.2, headAtCursor := r.1.blt.head }, r.2)

/-- The record of the rebuild in progress. -/
def Dev.recordRebuild (d : Dev) : Dev :=
  if d.rly.phase = 0 then d
  else (d.writeCursor (if d.rly.phase = 1 then d.remirrorLow else d.rly.cursor) d.rly.ordinal d.rly.phase).1

/-- A record for every rebuild and copy-back in progress each time the Blotter head has advanced by 65,536 positions. -/
def Dev.recordByHead (d : Dev) : Dev :=
  if d.blt.head < d.rly.headAtCursor + 65536 ∨ d.blt.stopped then d
  else
    let d := d.recordRebuild
    let d := d.forEach (d.rly.copyback.filter fun x => x.2 != 0) fun d x => (d.writeCursor (x.2 - 1) (d.ordinal x.1) 4).1
    d.onRly fun r => { r with headAtCursor := d.blt.head }

/-! ## Label writes (R335, R351, R354, R559) -/

/-- The label members: present drives of members that are LIVE, RETURNING or RETURNED, without those whose trigger was taken. -/
def Dev.labelMembers (d : Dev) : List Nat :=
  (List.range d.members).filter fun m => d.memberState m != 1 && (d.slotAt (d.memberSlot m)).present && !(d.rly.triggers.contains m)

/-- `f` applied to the run of label writes in progress. -/
def Dev.onJobHead (d : Dev) (f : Declaration → Declaration) : Dev :=
  d.onRly fun r => { r with jobs := match r.jobs with | j :: t => f j :: t | [] => [] }

/-- The label that a run writes: a declaration's shows its member's new ordinal and slot byte before they are in force. -/
def Dev.labelImage (d : Dev) (j : Declaration) (m copy : Nat) : Block :=
  match j.kind with
  | .declare => (d.onLay fun l => { l with slots := l.slots.set j.member 0xFF, ordinals := l.ordinals.set j.member j.value }).labelBlock m copy
  | _ => d.labelBlock m copy

/-- A label copy of a run goes to a member. -/
def Dev.putLabel (d : Dev) (j : Declaration) (m copy : Nat) : Dev :=
  let p := d.submitTo m .write (128 * copy) 1 2 (.label m copy true)
  (p.1.emit (.block (d.memberSlot m) (d.labelImage j m copy))).onJobHead fun j => { j with writes := j.writes ++ [p.2] }

/-- A copy goes to every label member, and the run is at step `n`. -/
def Dev.putLabels (d : Dev) (j : Declaration) (copy n : Nat) : Dev :=
  let d := d.onJobHead fun j => { j with step := n }
  d.forEach d.labelMembers fun d m => d.putLabel j m copy

/-- The label sequence advances. -/
def Dev.nextLabel (d : Dev) : Dev := d.onLay fun l => { l with labelSeq := l.labelSeq + 1 }

/-- A new drive's Blotter home and checkpoint regions are cleared (R351). -/
def Dev.clearRegions (d : Dev) (j : Declaration) : Dev :=
  let d := (d.nextLabel.onLay fun l => { l with slots := l.slots.set j.member j.value }).onJobHead fun j => { j with step := 1 }
  let p := d.submit j.value .deallocate 256 (1048576 + d.geo.ckptBlocks) 6 (.clear j.member)
  p.1.onJobHead fun j => { j with writes := [p.2] }

/-- A run of label writes begins. -/
def Dev.beginJob (d : Dev) (j : Declaration) : Dev :=
  match j.kind with
  | .declare =>
    let j' := { j with value := d.nextOrdinal j.member }
    (d.nextLabel.onJobHead fun _ => j').putLabels j' 0 3
  | .replace => d.clearRegions j
  | .release => d.nextLabel.putLabels j 0 3

/-- The rebuild that a declaration starts (R335 step 5, R341). -/
def Dev.startRebuild (d : Dev) (ordinal : Nat) : Dev :=
  let d := d.onRly fun r => { r with phase := 1, cursor := 0, ordinal := ordinal, stripeIn := 0 }
  d.recordRebuild.raise 0x1B1

/-- The run in progress is done. -/
def Dev.endJob (d : Dev) (j : Declaration) : Dev :=
  let d := d.onRly fun r => { r with jobs := r.jobs.drop 1 }
  match j.kind with
  | .declare => d.startRebuild j.value
  | .replace =>
    let d := d.onRly fun r => { r with copyback := sput (fun _ => 0) r.copyback j.member 1 }
    match j.cmd.bind d.cmd? with
    | some c => d.done c []
    | none => d
  | .release => d

/-- The run of label writes goes on once its writes have ended. A declaration's step 3 waits for DECLARATION_EFFECT. -/
def Dev.labelProgress (d : Dev) : Dev :=
  match d.rly.jobs with
  | [] => d
  | j :: _ =>
    if !j.writes.isEmpty then d
    else match j.step with
      | 0 => d.beginJob j
      | 1 => (([0, 1] : List Nat).foldl (fun d c => d.putLabel j j.member c) d).onJobHead fun j => { j with step := 2 }
      | 2 => d.putLabels j 0 3
      | 3 => if j.kind = .declare then d else d.putLabels j 1 4
      | _ => d.endJob j

/-- A label write, or the clearing of a new drive, has ended (R559). -/
def Dev.labelEnded (d : Dev) (cmd : Nat) : Dev :=
  (d.onJobHead fun j => { j with writes := j.writes.erase cmd }).labelProgress.labelProgress

/-! ## Declarations (R333 to R336) -/

/-- A trigger of R333 is taken for a member that is LIVE or RETURNED; for any other it is ignored. -/
def Dev.failTrigger (d : Dev) (m : Nat) (cmd : Option Nat) : Dev :=
  if d.isLive m && !(d.rly.triggers.contains m) then
    ((d.onRly fun r => { r with triggers := r.triggers ++ [m], jobs := r.jobs ++ [⟨.declare, m, 0, 0, [], cmd⟩] }).labelProgress).judgeRaised
  else d

/-- The units whose bits are set in a mask. -/
def unitsOf (a mask : Nat) : List Nat := if mask = 0 then [] else (List.range a).filter fun u => mask.testBit u

/-- Strips of other failed members whose spare location lies on member `m`: ordinal and units (R336). -/
def Dev.sparesOn (d : Dev) (m : Nat) : List (Nat × Nat) :=
  ((List.range d.members).filter fun f => f != m && d.memberState f == 1 && decide (d.ordinal f ≤ d.geo.s)).map fun f =>
    (d.ordinal f, d.spareUnits (d.ordinal f) m)

/-- Built bits of an ordinal go at once, and by META records (R338, R340). -/
def Dev.clearBuilt (d : Dev) (x mask : Nat) : Dev :=
  let here := Nat.land mask (d.builtOf x)
  (d.setBuiltMask x (Nat.xor (d.builtOf x) here)).forEach (unitsOf d.geo.a here) fun d u => d.change (.built x u false) none

/-- A whole map goes at once, and by a META record. -/
def Dev.clearMap (d : Dev) (ordinal : Nat) : Dev := (d.setBuiltMask ordinal 0).change (.mapClear ordinal) none

/-- The copies of home positions on member `m` stand lost, and the positions with fewer than three copies are to be
re-mirrored, those with one copy first (R301). -/
def Dev.loseCopies (d : Dev) (m : Nat) : Dev :=
  let had := d.blt.positions.any fun p => p.copies.contains m
  let d := d.onBlt fun b => { b with positions := b.positions.map fun p => { p with copies := p.copies.erase m, acked := p.acked.erase m } }
  let low := d.blt.positions.filter fun p => decide (p.copies.length < 3)
  let order := (low.filter fun p => decide (p.copies.length ≤ 1)) ++ low.filter fun p => decide (1 < p.copies.length)
  let d := d.onBlt fun b => { b with remirror := order.map HomePos.h, remirrorFrom := d.q, remirrorOpen := 0, remirrorLate := false }
  if had then d.raise 0x183 else d

/-- Checkpoint copies on a member that is no longer live are skipped (R353): segments that waited for them are written. -/
def Dev.skipCkpt (d : Dev) (seg copy : Nat) : Dev := (d.onSegment seg fun s => { s with copies := s.copies.erase copy }).ckptDone seg

/-- Step 3 of a declaration takes effect, its drive commands apart (R335, R336, R340, R350). -/
def Dev.declareNow (d : Dev) (j : Declaration) : Dev :=
  let m := j.member
  let slot := d.memberSlot m
  let d := if d.memberState m = 3 then d.clearMap (d.ordinal m) else d
  let d := (d.onLay fun l => { l with slots := l.slots.set m 0xFF, ordinals := l.ordinals.set m j.value }).replan
  let d := d.onRly fun r =>
    { r with returned := r.returned.erase m, triggers := r.triggers.erase m, declaredAt := d.now, copyback := sput (fun _ => 0) r.copyback m 0 }
  let lostSpares := d.sparesOn m
  let d := (d.forEach lostSpares fun d x => d.clearBuilt x.1 x.2).countRly 13 ((lostSpares.map fun x => (unitsOf d.geo.a x.2).length).sum)
  let d := (d.onSlot slot fun s => { s with attn := 2 }).loseCopies m
  let d := (d.countRly 15 1).raise 0x1B0
  let d := d.when (decide (d.geo.s < j.value)) fun d => d.raise 0x1B6
  let d := match j.cmd.bind d.cmd? with
    | some c => d.done c (leBytes 1 j.value ++ leBytes 1 (b2n (decide (j.value ≤ d.geo.s))) ++ leBytes 6 0)
    | none => d
  (d.putLabels j 1 4).labelProgress

/-! ## Phases (R341) -/

/-- The stripe's strips that a rebuild fills: work of FAILED members; RETURNING ones are skipped (R351). -/
def Dev.phaseStrips (d : Dev) (psi : Nat) : List Nat :=
  (List.range d.geo.w).filter fun i => d.rebuildable psi i && d.memberState (d.geo.home psi i).1 == 1

/-- The next stripe of period `k`, from the `from_`-th on, that holds at least `least` strips of work: its place there. -/
def Dev.nextStripe (d : Dev) (k from_ least : Nat) : Option Nat :=
  (List.range' from_ (d.geo.n - from_)).find? fun j => decide (least ≤ (d.phaseStrips (k * d.geo.n + j)).length)

/-- The bits of strips are set by META records (R338, R343). -/
def Dev.setBuilt (d : Dev) (psi : Nat) (strips : List Nat) : Dev :=
  d.forEach strips fun d i =>
    let h := d.geo.home psi i
    d.change (.built (d.ordinal h.1) (h.2 - d.geo.mu) true) none

/-- Whether a change of a stripe's bits is still to come in force. -/
def Dev.bitsPending (d : Dev) (psi : Nat) (strips : List Nat) : Bool :=
  strips.any fun i =>
    let h := d.geo.home psi i
    d.lay.metas.any fun m => match m.change with | .built o u _ => o == d.ordinal h.1 && u == h.2 - d.geo.mu | _ => false

/-- The counts of a running RLY_PASS rise (strips rebuilt, marked, stripes lost, sectors). -/
def Dev.countRlyPass (d : Dev) (w : RelayStripe) (i n : Nat) : Dev :=
  if w.pass then d.onRly fun r => { r with passCounts := r.passCounts.set i (r.passCounts.getD i 0 + n) } else d

/-- The counts of a running RLY_COPYBACK rise (strips copied, rebuilt, stripes lost). -/
def Dev.countCopy (d : Dev) (i n : Nat) : Dev := d.onRly fun r => { r with copyCounts := r.copyCounts.set i (r.copyCounts.getD i 0 + n) }

/-- The bits of a stripe's strips are set without drive access (R343 steps 1 and 2). -/
def Dev.markStrips (d : Dev) (w : RelayStripe) : Dev :=
  if w.copyback.isSome then d else ((d.setBuilt w.psi w.strips).countRly 2 w.strips.length).countRlyPass w 1 w.strips.length

/-- The stripe in work ends; a copy-back keeps its lock until the period is over (R352). -/
def Dev.endWork (d : Dev) : Dev :=
  match d.rly.work with
  | none => d
  | some w =>
    let d := d.onRly fun r => { r with work := none }
    match w.lock, w.copyback with
    | some l, none => d.releaseLock l
    | some l, some _ => d.onRly fun r => { r with copyLocks := r.copyLocks ++ [l] }
    | none, _ => d

/-- Block 0 of the next readable data strip is read for the reference (R343 step 2). -/
def Dev.relayFindRef (d : Dev) : Dev :=
  match d.rly.work with
  | none => d
  | some w =>
    match (d.readableFrom w.psi w.tryStrip).bind fun i => (d.readPlace w.psi i).map fun p => (i, p) with
    | some (i, p) =>
      let r := d.submitTo p.1 .read p.2 1 4 (.relay i 0)
      r.1.onWork fun w => { w with tryStrip := i, reads := [r.2] }
    | none => d.endWork

/-- Relay begins to work on a stripe: one that is not MAPPED costs no drive access (R343 step 1). -/
def Dev.relayBegin (d : Dev) (psi : Nat) (strips : List Nat) (copyback : Option Nat) (pass : Bool) : Dev :=
  let w : RelayStripe :=
    { psi := psi, object := 0, lstripe := 0, stage := 1, tryStrip := 0, lock := none, strips := strips, got := [], reads := [], writes := [],
      fixes := [], suspect := false, lost := false, sector := false, rsn := none, copyback := copyback, pass := pass }
  if d.phys psi = 2 then (d.onRly fun r => { r with work := some w }).relayFindRef else d.markStrips w

/-- The rebuild's phase ends and the next begins (R341); a record is written. -/
def Dev.nextPhase (d : Dev) : Dev :=
  if d.rly.phase = 3 then
    let d := (d.writeCursor (d.periods) d.rly.ordinal 5).1
    (d.onRly fun r => { r with phase := 0, cursor := 0, stripeIn := 0 }).raise 0x1B2
  else
    let p := if d.rly.phase = 1 ∧ 2 ≤ d.workMembers then 2 else 3
    (d.onRly fun r => { r with phase := p, cursor := 0, stripeIn := 0 }).recordRebuild

/-- Member `m`'s home block that holds position `h`. -/
def Dev.homeBlockOf (d : Dev) (m h : Nat) : Option Nat :=
  (List.range 1048576).find? fun b => sget (fun _ => 0) d.blt.homeAt (homeKey m b) == h + 1

/-- A surviving copy of a position is read in RELAY windows (R301). -/
def Dev.remirrorRead (d : Dev) (h : Nat) : Dev :=
  let asked := d.drv.cmds.any fun c => match c.purpose with | .remirrorRead x => x == h | .remirrorWrite x _ => x == h | _ => false
  if asked then d
  else match d.blt.positions.find? fun p => p.h == h with
    | none => d.onBlt fun b => { b with remirror := b.remirror.erase h }
    | some p =>
      match p.copies.find? d.memberReads with
      | some m => match d.homeBlockOf m h with
        | some b => d.submit' m .read (256 + b) 1 4 (.remirrorRead h)
        | none => d.onBlt fun b => { b with remirror := b.remirror.erase h }
      | none => d

/-- A surviving copy was read: it is written to the first member of the order of R301 that holds none; the block leaves as it
was read. -/
def Dev.remirrorCopy (d : Dev) (h : Nat) (b : Option Block) : Dev :=
  match d.blt.positions.find? fun p => p.h == h with
  | none => d
  | some p =>
    let l := d.liveMembers
    let order := (List.range l.length).map fun c => l.getD ((3 * h + 3 + c) % max l.length 1) 0
    match b, order.find? fun m => !(p.copies.contains m) with
    | some b, some m =>
      let blk := d.freeHome m 1048576 (sget (fun _ => 0) d.blt.homeNext m)
      let d := d.onBlt fun x =>
        { x with homeNext := sput (fun _ => 0) x.homeNext m ((blk + 1) % 1048576)
                 homeAt := sput (fun _ => 0) x.homeAt (homeKey m blk) (h + 1) }
      (d.submit' m .write (256 + blk) 1 4 (.remirrorWrite h m)).emit (.block (d.memberSlot m) b)
    | _, _ => d.onBlt fun b => { b with remirror := b.remirror.erase h }

/-- A re-mirrored copy is acknowledged; REMIRROR_DONE when none is left (R302). -/
def Dev.remirrored (d : Dev) (h m : Nat) : Dev :=
  let d := ((d.ackCopy h m).bump 0x27 0 7 1).onBlt fun b => { b with remirror := b.remirror.erase h }
  if d.blt.remirror.isEmpty then d.raise 0x184 else d

/-- RELAY_STEP: Relay begins the next piece of work of its phase: the re-mirror, or the next stripe of the period at the
cursor; a period without work moves the cursor on (R341, R343). -/
def execRelayStep (s : State) : Host.Outcome State Fault Refusal :=
  s.run true fun d =>
    let d := if d.rly.phase = 0 then d else d.relayTick.judgeRaised
    if d.lay.state ≠ 3 ∨ d.rly.work.isSome ∨ d.blt.stopped then d
    else match d.rly.phase with
      | 0 => d
      | 1 => if d.blt.remirror.isEmpty then d.nextPhase else d.forEach d.blt.remirror fun d h => d.remirrorRead h
      | ph =>
        if !(d.flag Reg.rlyCtl 0) || d.rly.pass.isSome then d
        else if d.periods ≤ d.rly.cursor then d.nextPhase
        else match d.nextStripe d.rly.cursor d.rly.stripeIn (if ph = 2 then 2 else 1) with
          | some j =>
            let psi := d.rly.cursor * d.geo.n + j
            (d.onRly fun r => { r with stripeIn := j + 1 }).relayBegin psi (d.phaseStrips psi) none false
          | none => (d.onRly fun r => { r with cursor := r.cursor + 1, stripeIn := 0 }).recordRebuild

/-! ## Rebuilding a stripe (R343 to R346) -/

/-- The strips that Relay reads: those with a location whose content it needs (R343 step 3); a copy-back first reads the spare
copy of its strip. -/
def Dev.relayRead (d : Dev) (only : Option (List Nat)) : Dev :=
  match d.rly.work with
  | none => d
  | some w =>
    let g := d.geo
    let all := List.range (d.entry w.object w.lstripe).fill ++ [g.d, g.d + 1]
    d.forEach (only.getD all) fun d s =>
      if w.got.any fun b => b.strip == s then d
      else match d.readPlace w.psi s with
        | some p =>
          let r := d.submitTo p.1 .read p.2 g.b 4 (.relay s 0)
          (r.1.countRly 3 (4096 * g.b)).onWork fun w => { w with reads := w.reads ++ [r.2] }
        | none => d

/-- The lock is granted (R343 step 2): an entry that does not name the stripe, or is LOST already, ends the work with the bits
set. -/
def Dev.relayGranted (d : Dev) : Dev :=
  match d.rly.work with
  | none => d
  | some w =>
    let e := d.entry w.object w.lstripe
    if w.stage ≠ 2 then d
    else if e.psi ≠ w.psi ∨ e.state = .unmapped then ((d.markStrips w).countRly 14 1).endWork
    else if e.state = .lost then (d.markStrips w).endWork
    else
      let d := d.onWork fun w => { w with stage := 3 }
      match w.copyback, w.strips with
      | some _, [s] => if (d.readPlace w.psi s).isSome then d.relayRead (some [s]) else d.relayRead none
      | _, _ => d.relayRead none

/-- A drive read of Relay's ended: the blocks of strip `strip` from row `row` on. -/
def Dev.relayTook (d : Dev) (cmd strip row n : Nat) (l : List Block) : Dev :=
  match d.rly.work with
  | none => d
  | some w =>
    if !(w.reads.contains cmd) then d
    else
      let d := d.onWork fun w => { w with reads := w.reads.erase cmd }
      if w.stage = 1 then
        match l.head?.bind (d.geo.reference w.psi strip) with
        | some (o, ls) =>
          let lb := d.geo.lb
          let k := d.askLock o (ls * lb) (ls * lb + lb - 1) true .relay
          k.1.onWork fun w => { w with object := o, lstripe := ls, stage := 2, lock := some k.2 }
        | none => (d.onWork fun w => { w with tryStrip := strip + 1 }).relayFindRef
      else
        let new_ := (List.range n).map fun i => d.gotBlock w.object w.lstripe w.psi strip (row + i) ((blocksFrom n l).getD i none)
        d.onWork fun w => { w with got := w.got ++ new_ }

/-- The block of a row that was read. -/
def RelayStripe.blockAt (w : RelayStripe) (row s : Nat) : Option Block :=
  match w.got.find? fun b => b.strip == s && b.row == row with
  | some b => if b.ok then b.block else none
  | none => none

/-- What a row's solution is (R344): the missing strips with their values, and whether two parities agreed on it; none for a
lost row. -/
def RelayStripe.solve (w : RelayStripe) (fill dp row : Nat) : Option (List (Nat × List Byte) × Bool) :=
  let have_ := gotData w.got row
  let missing := (List.range fill ++ [dp, dp + 1]).filter fun s => (have_ s).isNone
  match missing with
  | [] => some ([], true)
  | [x] =>
    match solveOne fill dp x have_ with
    | some v => some ([(x, v)], true)
    | none => (solveRow fill dp have_).map fun data => ([(x, rowValue dp data x)], false)
  | [x, y] => (solveRow fill dp have_).map fun data => ([(x, rowValue dp data x), (y, rowValue dp data y)], false)
  | _ => none

/-- Whether the single missing block of a row disagreed between its two parities (R344). -/
def RelayStripe.disagrees (w : RelayStripe) (fill dp row : Nat) : Bool :=
  match (List.range fill ++ [dp, dp + 1]).filter fun s => (gotData w.got row s).isNone with
  | [x] => (solveOne fill dp x (gotData w.got row)).isNone
  | _ => false

/-- The rebuilt block at a row (R345): its sequence and stamp come from a surviving block of the row; a tag is due when two
parities agreed on a data block and a surviving data block has CV 1. -/
def RelayStripe.rebuilt (w : RelayStripe) (g : ArrayGeo) (fill row s : Nat) (data : List Byte) (agreed : Bool) : Block :=
  let at_ (i : Nat) : Option Block := w.blockAt row i
  let lowest := ((List.range fill).filterMap at_).head?
  let src :=
    if s < g.d then (match at_ g.d with | some b => some b | none => at_ (g.d + 1))
    else match at_ (if s = g.d then g.d + 1 else g.d) with | some b => some b | none => lowest
  let b := g.block w.object w.lstripe w.psi s row ((src.map fun b => b.pf.stamp).getD 0) ((src.map fun b => b.pf.wseq).getD 0) data
  match (if agreed ∧ s < g.d then ((List.range fill).filterMap at_).find? fun b => b.pf.cv else none) with
  | some k => { b with pf := { b.pf with keySlot := k.pf.keySlot, cv := true } }
  | none => b

/-- The rows are solved (R344 to R346), and tags are asked for. -/
def Dev.relaySolve (d : Dev) (w : RelayStripe) : Dev :=
  let g := d.geo
  let fill := (d.entry w.object w.lstripe).fill
  let rows := List.range g.b
  let solved := rows.map fun r => (r, w.solve fill g.d r)
  if solved.any fun x => x.2.isNone then d.onWork fun w => { w with stage := 5, lost := true }
  else
    let mine (s : Nat) : Bool := w.strips.contains s
    let fixes := solved.flatMap fun x => match x.2 with
      | some y => (y.1.filter fun v => mine v.1).map fun v => (v.1, x.1, w.rebuilt g fill x.1 v.1 v.2 y.2)
      | none => []
    let kept := if w.copyback.isSome then w.got.filterMap fun b => if mine b.strip && b.ok then b.block.map fun x => (b.strip, b.row, x) else none else []
    let unsure := (solved.flatMap fun x => match x.2 with | some y => if y.2 then [] else y.1.filter fun v => mine v.1 | none => []).length
    let sector := solved.any fun x => match x.2 with | some y => decide (y.1.length = 2) && y.1.any fun v => !(mine v.1) | none => false
    let d := (d.countRly 9 unsure).onWork fun w =>
      { w with stage := 4, fixes := kept ++ fixes, suspect := rows.any fun r => w.disagrees fill g.d r, sector := sector }
    let d := if sector then (((d.countRly 5 1).countRlyPass w 3 1).raise 0x1B9).queueRepair w.psi else d
    d.forEach (fixes.filter fun f => f.2.2.pf.cv) fun d f => d.cveAsk ⟨true, f.2.2.pf.keySlot, .relay, 0, f.1, f.2.1, f.2.2, d.q⟩

/-- A rebuilt block has its tag, or was refused one and carries CV 0 (R345). -/
def Dev.relayTagged (d : Dev) (strip row : Nat) (b : Block) : Dev :=
  (if b.pf.cv then d.countRly 8 1 else d).onWork fun w =>
    { w with fixes := w.fixes.map fun f => if f.1 = strip ∧ f.2.1 = row then (strip, row, b) else f }

/-- Where Relay writes a strip: its spare location, or its home in a copy-back. -/
def Dev.relayTarget (d : Dev) (w : RelayStripe) (s : Nat) : Option (Nat × Nat) :=
  let h := d.geo.home w.psi s
  if w.copyback.isSome then some (h.1, h.2 * d.geo.b)
  else (d.spare (d.ordinal h.1) (h.2 - d.geo.mu)).map fun q => (q.1, q.2 * d.geo.b)

/-- The strips are written in RELAY windows (R343 step 5); strips at or above FILL are zero and are not. -/
def Dev.relayWrite (d : Dev) (w : RelayStripe) : Dev :=
  let g := d.geo
  let d := d.onWork fun w => { w with stage := 5 }
  d.forEach (w.strips.filter fun s => w.fixes.any fun f => f.1 == s) fun d s =>
    match d.relayTarget w s with
    | some p =>
      let r := d.submitTo p.1 .write p.2 g.b 4 .relayWrite
      let d := (r.1.onWork fun w => { w with writes := w.writes ++ [r.2] }).countRly 4 (4096 * g.b)
      d.emitAll ((w.fixes.filter fun f => f.1 == s).map fun f => .block (d.memberSlot p.1) f.2.2)
    | none => d

/-- The writes are acknowledged: counts, the MAP_COMMIT of a lost or suspect stripe, and the META records (R343 step 6,
R346). -/
def Dev.relayRecord (d : Dev) (w : RelayStripe) : Dev :=
  let st := if w.lost then some EntryState.lost
    else if w.suspect ∧ (d.entry w.object w.lstripe).state ≠ .suspect then some EntryState.suspect else none
  let d := match st with
    | some s =>
      let r := d.commitState w.object w.lstripe s
      r.1.onWork fun w => { w with rsn := some r.2 }
    | none => d
  let n := w.strips.length
  let built := if w.lost then 0 else n
  let d := d.onWork fun w => { w with stage := 6 }
  match w.copyback with
  | some _ =>
    let copied := w.got.any (fun b => w.strips.contains b.strip) && w.strips.all fun s => (w.got.filter fun b => b.strip == s).all GotBlock.ok
    if w.lost then d.countCopy 2 1
    else if copied then (d.countRly 10 n).countCopy 0 n
    else (d.countRly 11 n).countCopy 1 n
  | none =>
    let d := ((d.countRly 0 built).countRlyPass w 0 built).when (d.rly.phase == 2 && !w.pass) fun d => d.countRly 1 built
    d.setBuilt w.psi w.strips

/-- The records are home-acknowledged: the entry and the lists follow, and the lock goes. -/
def Dev.relayEnd (d : Dev) (w : RelayStripe) : Dev :=
  let d := match w.rsn with
    | some r =>
      if w.lost then
        (((d.applyState w.object w.lstripe .lost r).addLost w.psi w.object).countRly 6 1).countRlyPass w 2 1 |>.raise 0x1B4
      else ((d.applyState w.object w.lstripe .suspect r).addSuspect w.psi w.object w.lstripe 1).raise 0x1A1
    | none => d
  d.endWork.judgeRaised

/-- Whether a copy-back that read a spare copy needs the rest of the stripe: a block of it failed (R352 step 2). -/
def Dev.needsRest (d : Dev) (w : RelayStripe) : Bool :=
  w.copyback.isSome && (w.got.any fun b => w.strips.contains b.strip && !b.ok)
    && (List.range (d.entry w.object w.lstripe).fill ++ [d.geo.d, d.geo.d + 1]).any fun s =>
      !(w.got.any fun b => b.strip == s) && (d.readPlace w.psi s).isSome

/-- Whether a copy-back's spare copy is whole. -/
def RelayStripe.spareWhole (w : RelayStripe) (b : Nat) : Bool :=
  w.copyback.isSome && w.strips.all fun s => (List.range b).all fun r => (w.blockAt r s).isSome

/-- The work on a stripe goes as far as it can. -/
def Dev.relayProgress (d : Dev) : Dev :=
  match d.rly.work with
  | none => d
  | some w =>
    if !w.reads.isEmpty then d
    else match w.stage with
      | 3 =>
        if w.spareWhole d.geo.b then
          d.onWork fun w => { w with stage := 4, fixes := w.got.filterMap fun b => if w.strips.contains b.strip then b.block.map fun x => (b.strip, b.row, x) else none }
        else if d.needsRest w then d.relayRead none else d.relaySolve w
      | 4 => if d.cve.queue.any fun r => r.asker == .relay then d else d.relayWrite w
      | 5 => if w.writes.isEmpty && !d.blt.stopped then d.relayRecord w else d
      | 6 => if w.rsn.all d.homeAcked && (w.copyback.isSome || !(d.bitsPending w.psi w.strips)) then d.relayEnd w else d
      | _ => d

/-- A write of Relay's is acknowledged. -/
def Dev.relayWrote (d : Dev) (cmd : Nat) : Dev := d.onWork fun w => { w with writes := w.writes.erase cmd }

/-! ## RLY_PASS and RLY_COPYBACK (R352 to R356) -/

/-- A step of RLY_PASS: one period of its range (R356); the rebuild's cursor is left as it is. -/
def Dev.relayPassStep (d : Dev) (slot : Nat) (prog : List Nat) : Dev × StepEnd :=
  let next := prog.headD 0
  let stop := prog.getD 1 0
  let d := if d.rly.pass.isSome then d else d.onRly fun r => { r with pass := some (slot, next, stop), passIn := 0, passCounts := [0, 0, 0, 0] }
  if d.rly.work.isSome then (d, .waits [next, stop])
  else match d.nextStripe next d.rly.passIn 1 with
    | some j =>
      let psi := next * d.geo.n + j
      ((d.onRly fun r => { r with passIn := j + 1 }).relayBegin psi (d.phaseStrips psi) none true, .waits [next, stop])
    | none =>
      let d := d.onRly fun r => { r with passIn := 0 }
      if stop ≤ next + 1 then
        let k (i : Nat) : Nat := d.rly.passCounts.getD i 0
        (d.onRly fun r => { r with pass := none, passCounts := [] },
          .done 0 0 (leBytes 8 (k 0) ++ leBytes 8 (k 1) ++ leBytes 4 (k 2) ++ leBytes 4 (k 3) ++ leBytes 8 (next + 1)))
      else (d, .more [next + 1, stop])

/-- Ordinals are released from the top while the highest is held by a RETURNED member (R354). -/
def Dev.releaseOrdinals (d : Dev) : Nat → Dev
  | 0 => d
  | fuel + 1 =>
    let top := ((List.range d.members).map d.ordinal).foldl max 0
    match (List.range d.members).find? fun m => decide (0 < top) && d.ordinal m == top && d.memberState m == 3 with
    | some m =>
      let d := ((d.clearMap top).onLay fun l => { l with ordinals := l.ordinals.set m 0 }).replan
      let d := d.onRly fun r => { r with returned := r.returned.erase m, jobs := r.jobs ++ [⟨.release, m, 0, 0, [], none⟩] }
      Dev.releaseOrdinals (d.labelProgress.raise 0x1B8) fuel
    | none => d

/-- The copy-back of a member is complete (R353): it is RETURNED, its checkpoint copies are written again, and ordinals are
released. -/
def Dev.copyDone (d : Dev) (m : Nat) : Dev :=
  let d := (d.onRly fun r => { r with copyback := sput (fun _ => 0) r.copyback m 0, returned := r.returned ++ [m] }).raise 0x1B7
  let segs := (List.range d.geo.segs).filter fun g => (List.range 2).any fun b => (List.range 3).any fun c => (d.geo.ckptPlace g b c).1 == m
  (d.forEach segs fun d g => d.dirty g).releaseOrdinals d.members

/-- The copied, rebuilt and lost counts of a copy-back as its reply payload. -/
def Dev.copyReply (d : Dev) : List Byte :=
  leBytes 8 (d.rly.copyCounts.getD 0 0) ++ leBytes 8 (d.rly.copyCounts.getD 1 0) ++ leBytes 4 (d.rly.copyCounts.getD 2 0) ++ leBytes 4 0

/-- RLY_COPYBACK no longer runs. -/
def Dev.copyOver (d : Dev) : Dev := d.onRly fun r => { r with copy := none, copyCounts := [], copyRow := 0 }

/-- A step of RLY_COPYBACK: one period of the member in slot order of its strips, the RELAY_CURSOR of phase 4, and the release
of the period's locks (R352). -/
def Dev.copyStep (d : Dev) (slot m : Nat) : Dev × StepEnd :=
  let d := if d.rly.copy.isSome then d else d.onRly fun r => { r with copy := some (slot, m), copyRow := 0, copyCounts := [0, 0, 0] }
  let k := d.cursorOf m - 1
  if d.rly.work.isSome then (d, .waits [m])
  else if d.rly.copyRow < d.geo.w then
    let s := d.geo.stripAt m (k * d.geo.w + d.rly.copyRow)
    let d := d.onRly fun r => { r with copyRow := r.copyRow + 1 }
    (if d.phys s.1 = 2 then d.relayBegin s.1 [s.2] (some m) false else d, .waits [m])
  else match d.rly.copyRsn with
    | none =>
      if d.blt.stopped then (d, .waits [m])
      else
        let r := d.writeCursor (k + 1) (d.ordinal m) 4
        (r.1.onRly fun x => { x with copyRsn := some r.2 }, .waits [m])
    | some r =>
      if !(d.homeAcked r) then (d, .waits [m])
      else
        let d := d.forEach d.rly.copyLocks fun d l => d.releaseLock l
        let d := d.onRly fun x => { x with copyLocks := [], copyRsn := none, copyRow := 0, copyback := sput (fun _ => 0) x.copyback m (k + 2) }
        if d.periods ≤ k + 1 then
          let pay := d.copyReply
          ((d.copyDone m).copyOver, .done 0 0 pay)
        else (d, .more [m])

/-! ## Commands (R351, R356) -/

/-- MEMBER_FAIL: it replies at step 3 of the declaration (R356). -/
def Dev.runMemberFail (d : Dev) (c : Cmd) : Dev :=
  let m := c.par 0 1
  if !(d.isLive m) || d.rly.triggers.contains m then d.rangeFault c 0
  else if 2 ≤ d.workMembers ∧ !(bit (c.par 1 1) 0) then d.rangeFault c 1
  else (d.onCmd c.id fun c => { c with phase := .running }).failTrigger m (some c.id)

/-- MEMBER_REPLACE (R351). -/
def Dev.runMemberReplace (d : Dev) (c : Cmd) : Dev :=
  let m := c.par 0 1
  let k := c.par 1 1
  let s := d.slotAt k
  let need := d.geo.u * d.geo.b
  if d.members ≤ m ∨ d.memberState m ≠ 1 ∨ (d.rly.jobs.any fun j => j.member == m) then d.rangeFault c 0
  else if 48 ≤ k ∨ !s.usable ∨ s.capacity < need ∨ (d.memberAt k).isSome then d.rangeFault c 1
  else
    ((d.onCmd c.id fun c => { c with phase := .running }).onRly fun r => { r with jobs := r.jobs ++ [⟨.replace, m, k, 0, [], some c.id⟩] }).labelProgress

/-- RLY_CONFIGURE. -/
def Dev.runRlyConfigure (d : Dev) (c : Cmd) : Dev :=
  let p := c.pkt.params
  let rate := clampParam p 0 0 16 1 400
  let up := clampParam p 2 0 16 1 400
  let up' := if up.1 < rate.1 then (rate.1, replaceParam p 2 0 16 5 rate.1) else up
  let d := d.relayTick
  ((d.setRaw Reg.rlyBudget (rate.1 + up'.1 * 2 ^ 16)).setFld Reg.rlyCtl 0 2 (c.par 4 1 % 4)).doneClamped c []
    (rate.2 ++ up'.2 ++ reservedParam p 4 2 6)

/-- RLY_QUERY. -/
def Dev.runRlyQuery (d : Dev) (c : Cmd) : Dev :=
  let unb := ((List.range d.members).map d.unbuiltOf).sum
  let cur := if d.rly.phase = 1 then d.remirrorLow else d.rly.cursor
  d.done c (leBytes 1 d.rly.phase ++ leBytes 1 d.rly.ordinal ++ leBytes 1 (b2n d.rly.raised) ++ leBytes 1 d.workMembers ++ leBytes 4 0
    ++ leBytes 8 cur ++ leBytes 8 d.periods ++ leBytes 8 unb ++ leBytes 4 d.lay.lost.length ++ leBytes 4 0 ++ leBytes 8 d.rly.declaredAt)

/-- RLY_PASS is accepted. -/
def Dev.runRlyPass (d : Dev) (c : Cmd) : Dev :=
  let first := c.par 0 8
  if d.periods ≤ first then d.rangeFault c 0
  else
    let n := clampParam c.pkt.params 8 0 64 1 (d.periods - first)
    d.acceptLong c 0 n.2 [first, first + n.1]

/-- RLY_COPYBACK is accepted for a RETURNING member. -/
def Dev.runRlyCopyback (d : Dev) (c : Cmd) : Dev :=
  let m := c.par 0 1
  if d.members ≤ m ∨ d.memberState m ≠ 2 then d.rangeFault c 0 else d.acceptLong c 0 [] [m]

/-! ## Resuming (R355) -/

/-- Replay hands Relay the last RELAY_CURSOR of each rebuild and copy-back: ordinal, phase, cursor. -/
def Dev.relayResume (d : Dev) (cursors : List (Nat × Nat × Nat)) : Dev :=
  let d := d.forEach (cursors.filter fun x => x.2.1 == 4) fun d x =>
    match (List.range d.members).find? fun m => d.ordinal m == x.1 && decide (d.memberSlot m < 48) with
    | some m => d.onRly fun r => { r with copyback := sput (fun _ => 0) r.copyback m (x.2.2 + 1) }
    | none => d
  match (cursors.filter fun x => decide (1 ≤ x.2.1 ∧ x.2.1 ≤ 3)).getLast? with
  | some x => (d.onRly fun r => { r with phase := x.2.1, cursor := x.2.2, ordinal := x.1, stripeIn := 0 }).raise 0x1BA
  | none =>
    if 0 < d.workMembers ∧ d.rly.phase = 0 then
      (d.onRly fun r => { r with phase := 1, cursor := 0, ordinal := ((List.range d.members).map d.ordinal).foldl max 0, stripeIn := 0 }).raise 0x1BA
    else if cursors.isEmpty then d else d.raise 0x1BA

end Sys2Proof.Machine
end

