-- ==== Sys2Proof/Machine/Blotter.lean ====
section
/-! DEFINITION. The Blotter beside its log (R299 to R307): the mirror and what a partner receives, power failure, replay at start-up and at
takeover, and the labels that map load reads (R237). -/

namespace Sys2Proof.Machine

/-- A counter of the Blotter. -/
def Dev.countBlt (d : Dev) (item n : Nat) : Dev := d.bump 0x27 0 item n

/-! ## The mirror (R299, R300) -/

/-- The highest RSN in use. -/
def Dev.lastRsn (d : Dev) : Nat := d.blt.nextRsn - 1

/-- RESYNC ends when the partner's checkpoint is loaded and every unretired record has been acknowledged (R300). -/
def Dev.judgeMirror (d : Dev) : Dev :=
  if d.blt.mirror = .resync ∧ d.blt.partnerLoaded = true ∧ d.blt.records.all (fun r => decide (r.rsn ≤ d.blt.mirrored)) = true then
    (d.onBlt fun b => { b with mirror := .live, mirrorAt := none }).raise 0x181
  else d

/-- The partner's in-order acknowledgement covers every RSN up to `rsn` (R299). The 1 ms starts again while records wait. -/
def Dev.mirrorAcks (d : Dev) (rsn : Nat) : Dev :=
  (d.onBlt fun b =>
    let m := max b.mirrored (min rsn b.mirrorSent)
    { b with mirrored := m, mirrorAt := if b.mirrorSent ≤ m then none else b.mirrorAt.map fun _ => d.q + quantaMs 1 }).judgeMirror

/-- A LIVE mirror becomes LOST (R300). -/
def Dev.loseMirror (d : Dev) : Dev :=
  if d.blt.mirror = .live then (d.onBlt fun b => { b with mirror := .lost, mirrorAt := none }).raise 0x180 else d

/-- The unretired records as records of the mirror. -/
def Dev.unretired (d : Dev) : List BltRecord := d.blt.records.map fun r => ⟨r.rsn, true, r.body⟩

/-- RESYNC begins (R300): every unretired record from the tail on, and every payload block, goes to the partner. -/
def Dev.enterResync (d : Dev) : Dev :=
  let rs := d.unretired
  let d := d.onBlt fun b => { b with mirror := .resync, partnerLoaded := false, mirrored := 0, mirrorSent := b.nextRsn - 1, mirrorAt := none }
  ((d.emitAll (d.blt.payloads.map fun p => .partnerPayload p.1 p.2)).emit (.partnerRecords rs)).countBlt 3 rs.length

/-- The highest version that a range and the module's own share (R80). -/
def commonVersion (lo hi myLo myHi : Nat) : Option Nat := if max lo myLo ≤ min hi myHi then some (min hi myHi) else none

/-- Partner discovery (R80, R300): the link's version is settled, then the mirror enters RESYNC; without a common version the link does
not come up. Record and map formats have one served version each. -/
def Dev.partnerFound (d : Dev) (low high recordV mapV : Nat) : Dev :=
  match commonVersion low high 0x10 0x11 with
  | none => ({ d with fov := { d.fov with partnerVersion := 0 } }).raise 0x0B3
  | some v =>
    let d := { d with fov := { d.fov with partnerVersion := v } }
    if recordV ≠ 0x10 then d.raise 0x189
    else if mapV ≠ 0x10 then d.raise 0x162
    else if !(d.flag Reg.bltCtl 0) || d.lay.state != 3 then d
    else if d.isActive then (d.sendKeys).enterResync
    else if d.fov.role = .standby then d.onBlt fun b => { b with mirror := .resync }
    else d

/-- The partner reports its checkpoint loaded (R300). -/
def Dev.partnerLoads (d : Dev) : Dev :=
  if d.blt.mirror = .resync then (d.onBlt fun b => { b with partnerLoaded := true }).judgeMirror else d

/-- BLT_CTL.MIRROR_EN = 0 holds the mirror in NONE. -/
def Dev.mirrorOff (d : Dev) : Dev :=
  if d.flag Reg.bltCtl 0 then d else d.onBlt fun b => { b with mirror := .none, mirrorAt := none, partnerLoaded := false }

/-! ## Applying records -/

/-- The map entry state with a given code. -/
def EntryState.ofCode (n : Nat) : EntryState :=
  match n with
  | 1 => .full
  | 2 => .short
  | 3 => .lost
  | 4 => .suspect
  | _ => .unmapped

/-- Whether map generation `a` is later than `b` as serial numbers over 18 bits (R305). -/
def laterGen (a b : Nat) : Bool :=
  let x := (a + 2 ^ 18 - b % 2 ^ 18) % 2 ^ 18
  decide (0 < x) && decide (x < 2 ^ 17)

/-- A MAP_COMMIT's entry, when its generation is later than the one in the map (R305). The flag says whether it was. -/
def Dev.applyEntry (d : Dev) (object lstripe : Nat) (e : MapEntry) : Dev × Bool :=
  if laterGen e.mgen (d.entry object lstripe).mgen then (d.setEntry object lstripe e, true) else (d, false)

/-- A record applied to the map as a standby receives it (R299). The payload of a META record stands with the others; the manual gives
no layout for it (DESIGN CHOICE: assumption log, entry 31). -/
def Dev.applyWarm (d : Dev) (r : BltRecord) : Dev :=
  match r.body with
  | .mapCommit _ psi fill st mgen ls object oldPsi oldValid len ordinal _ =>
    let p := d.applyEntry object ls ⟨psi, fill, .ofCode st, mgen⟩
    let d := if p.2 then (if oldValid then (p.1.setPhys oldPsi 0).setPhys psi 2 else p.1.setPhys psi 2) else p.1
    match len with
    | some n => d.onObj object fun o => { o with length := n, accepted := max o.accepted n, ordinal := max o.ordinal ordinal }
    | none => d
  | .frame rts off object _ => d.onObj object fun o => { o with frames := o.frames ++ [(rts, off)] }
  | _ => d

/-- Mirrored records reach a standby (R299): they are stored and applied in RSN order, and acknowledged. A standby that has its checkpoint
and takes a batch in RESYNC is LIVE. -/
def Dev.mirrorReceived (d : Dev) (records : List BltRecord) (payload : List (Nat × List Byte)) (a ra : Nat) : Dev :=
  if d.fov.role ≠ .standby then d
  else
    let last := (d.blt.warm.map fun x => x.2.rsn).foldl max 0
    let new_ := (List.mergeSort (records.filter fun r => r.crcOk && decide (last < r.rsn)) fun x y => decide (x.rsn ≤ y.rsn))
    let d := d.forEach new_ fun d r => d.applyWarm r
    let d := d.onBlt fun b =>
      { b with warm := b.warm ++ new_.map fun r => (a, r)
               warmPayloads := payload.foldl (fun t p => sput (fun _ => []) t p.1 p.2) b.warmPayloads
               warmRa := max b.warmRa ra, warmA := max b.warmA a }
    let top := (d.blt.warm.map fun x => x.2.rsn).foldl max 0
    let d := d.emit (.partnerMirrorAck top)
    if d.blt.mirror = .resync ∧ d.lay.state = 3 then (d.onBlt fun b => { b with mirror := .live }).raise 0x181 else d

/-! ## Batches (R294) -/

/-- BATCH µs after its first record, the open record block is issued. -/
def Dev.batchExpires (d : Dev) : Dev := if d.blt.open_.isEmpty then d else (d.upTo d.batchEnd).issueBlock

/-! ## Re-mirroring is late (R302) -/

/-- The quanta of open RELAY class since the declaration. -/
def Dev.remirrorTime (d : Dev) : Nat := d.openQuanta [4] d.blt.remirrorFrom d.q

/-! ## Replay phase 1 (R304) -/

/-- The home position's newest kept record block: the one at the highest position. -/
def newestRecord (l : List HomeBlock) : Option HomeBlock :=
  (l.filter fun b => !b.isPayload).foldl (fun (acc : Option HomeBlock) b =>
    match acc with
    | some x => if x.position < b.position then some b else acc
    | none => some b) none

/-- Whether a position lies in one of the VOID ranges. -/
def inVoid (voids : List (Nat × Nat)) (h : Nat) : Bool := voids.any fun v => decide (v.1 ≤ h) && decide (h ≤ v.2)

/-- The VOID ranges of the kept record blocks from `t` up. -/
def voidsOf (l : List HomeBlock) (t : Nat) : List (Nat × Nat) :=
  (l.filter fun b => decide (t ≤ b.position) && !b.isPayload).flatMap fun b =>
    b.records.filterMap fun r => match r.body with | .void x y => if r.crcOk then some (x, y) else none | _ => none

/-- The first position from `t` that no kept block covers (E). -/
def firstMissing (l : List HomeBlock) (t h : Nat) : Nat :=
  ((List.range' t (h + 1 - t)).find? fun p => !(l.any fun b => b.position == p) && !(inVoid (voidsOf l t) p)).getD (h + 1)

/-- Whether replay can use a record. -/
def knownRecord (r : BltRecord) : Bool := r.crcOk && (match r.body with | .reserved _ => false | _ => true)

/-- Blocks of the log by position, one copy of each. -/
def keepOne (l : List HomeBlock) : List HomeBlock :=
  List.mergeSort (l.foldl (fun acc b => if acc.any fun x => x.position == b.position then acc else acc ++ [b]) []) fun x y =>
    decide (x.position ≤ y.position)

/-- The write sequence that a record carries. -/
def seqOf : RecordBody → Nat
  | .intentStripe w _ _ _ _ _ => w
  | .intentRmw w _ _ _ _ _ _ _ _ _ _ => w
  | .mapCommit w _ _ _ _ _ _ _ _ _ _ _ => w
  | .close w _ _ => w
  | _ => 0

/-- The window of the log is fixed from the blocks that were kept (R304). -/
def Dev.fixWindow (d : Dev) (l : List HomeBlock) : Dev :=
  match newestRecord l with
  | none => d.onBlt fun b => { b with replay := 1, window := [], windowPayloads := [], windowH := 0, windowSeq := 0, windowT := 0, rplE := 0 }
  | some hb =>
    let e := firstMissing l hb.tail hb.position
    let inside := l.filter fun b => decide (hb.tail ≤ b.position) && decide (b.position < e)
    let all := inside.flatMap fun b => if b.isPayload then [] else b.records.map fun r => (b.position, r)
    let good := List.mergeSort (all.filter fun x => knownRecord x.2) fun x y => decide (x.2.rsn ≤ y.2.rsn)
    let bad := all.length - good.length
    let seq := good.foldl (fun a x => max a (seqOf x.2.body)) hb.nextSeq
    let top := (l.flatMap HomeBlock.records).foldl (fun a r => max a r.rsn) 0
    let d := d.onBlt fun b =>
      { b with replay := 1, window := good, windowH := hb.position, windowSeq := seq, windowT := hb.tail, rplE := e, nextRsn := top + 1
               windowPayloads := (inside.filter HomeBlock.isPayload).foldl (fun t b => sput (fun _ => []) t b.position (fit 4096 b.payload)) [] }
    let d := if e ≤ hb.ack then d.raise 0x187 else d
    if bad = 0 then d else (d.countBlt 13 bad).raise 0x18A

/-- Phase 1 (R304): a header of a version that is not served stops replay, and the module then serves no array. -/
def Dev.replayScan (d : Dev) (blocks : List HomeBlock) : Dev :=
  let l := keepOne blocks
  if l.any fun b => !b.isPayload && b.headerVersion != 0x10 then (d.onBlt fun b => { b with stopped := true, replay := 0 }).raise 0x189
  else d.fixWindow l

/-! ## Replay phase 2: in-place writes (R305 step 2, R306) -/

/-- The payload blocks of an intent. -/
def payloadsAt (t : Table (List Byte)) (p k : Nat) : List (List Byte) := (List.range k).map fun i => fit 4096 (sget (fun _ => []) t (p + i))

/-- The in-place write that an open intent asks for. -/
def redoOf (rsn : Nat) (body : RecordBody) (t : Table (List Byte)) : Option Redo :=
  match body with
  | .intentRmw w psi ls object _ _ first n mask s p => some
      { rsn := rsn, psi := psi, object := object, lstripe := ls, first := first, n := n, shadow := mask, payload := payloadsAt t p (n + s)
        oldSeq := w, seq := 0, stage := 0, got := [], reads := [], writes := [], fixes := [] }
  | _ => none

/-- The rows of an in-place write; with PARITY_ONLY the run gives its one row (R290). -/
def Redo.rows (x : Redo) (b : Nat) : List Nat :=
  if x.n = 0 then [x.first % b] else ((List.range x.n).map fun i => (x.first + i) % b).dedup

/-- The content of data strip `s` at row `r` that the payload gives: a block of the run or a shadow block (R290). -/
def Redo.given (x : Redo) (b s r : Nat) : Option (List Byte) :=
  let k := s * b + r
  if x.first ≤ k ∧ k < x.first + x.n then x.payload[k - x.first]?
  else if bit x.shadow s then
    let strips := (List.range s).filter fun t => bit x.shadow t
    let rows := List.mergeSort (x.rows b) fun p q => decide (p ≤ q)
    x.payload[x.n + strips.length * rows.length + (rows.findIdx fun t => t == r)]?
  else none

/-- `f` applied to the in-place write that is being finished. -/
def Dev.onRedo (d : Dev) (f : Redo → Redo) : Dev :=
  d.onBlt fun b => { b with redo := match b.redo with | x :: t => f x :: t | [] => [] }

/-- The key of a block read for an in-place write. -/
def redoKey (s r : Nat) : Nat := s * 2 ^ 16 + r

/-- The stripe's remaining blocks are read: data strips that the payload does not give, and P and Q. -/
def Dev.redoRead (d : Dev) (x : Redo) : Dev :=
  let g := d.geo
  let e := d.entry x.object x.lstripe
  let wants := (x.rows g.b).flatMap fun r =>
    (((List.range e.fill).filter fun s => (x.given g.b s r).isNone) ++ [g.d, g.d + 1]).map fun s => (s, r)
  let d := d.onRedo fun x => { x with stage := 1, got := [] }
  d.forEach wants fun d w =>
    match d.readPlace x.psi w.1 with
    | some p =>
      let c := d.submitTo p.1 .read (p.2 + w.2) 1 6 (.redo x.rsn w.1 w.2)
      c.1.onRedo fun x => { x with reads := x.reads ++ [c.2] }
    | none => d

/-- A row of an in-place write as it is now to be: its data strips by the rules of R306, or none when the stripe is lost. -/
def Dev.redoRow (d : Dev) (x : Redo) (r : Nat) : Option (List (List Byte)) :=
  let g := d.geo
  let fill := (d.entry x.object x.lstripe).fill
  let read (s : Nat) : Option (List Byte) := (sget (fun _ => none) x.got (redoKey s r)).map fun b => fit 4096 b.data
  let have_ (s : Nat) : Option (List Byte) := match x.given g.b s r with | some y => some y | none => read s
  match (List.range fill).filter fun s => (have_ s).isNone with
  | [] => some ((List.range fill).map fun s => (have_ s).getD zeroBlock)
  | [m] =>
    let others := (List.range fill).filter fun s => s != m
    match read g.d, read (g.d + 1) with
    | some p, some q =>
      let xp := others.foldl (fun a s => xorBytes a ((have_ s).getD zeroBlock)) p
      let xq := unscaleBytes (pWeight m) (others.foldl (fun a s => xorBytes a (scaleBytes (pWeight s) ((have_ s).getD zeroBlock))) q)
      if xp = xq then some ((List.range fill).map fun s => if s = m then xp else (have_ s).getD zeroBlock) else none
    | _, _ => none
  | _ => none

/-- An intent's CLOSE is written, and the next in-place write comes up. -/
def Dev.redoClose (d : Dev) (x : Redo) (outcome : Nat) : Dev :=
  let d := d.append' (.close x.oldSeq x.rsn outcome)
  (d.onBlt fun b => { b with redo := b.redo.drop 1 }).countBlt 9 (1 - outcome)

/-- The stripe of an in-place write is lost (R306). -/
def Dev.redoLost (d : Dev) (x : Redo) : Dev :=
  let r := d.commitState x.object x.lstripe .lost
  (((r.1.applyState x.object x.lstripe .lost r.2).addLost x.psi x.object).raise 0x188).redoClose x 1

/-- Every block has been read: the run's blocks and the parity recomputed are written to every live target, with a fresh write
sequence, or the stripe is lost. -/
def Dev.redoSolve (d : Dev) (x : Redo) : Dev :=
  let g := d.geo
  let rows := x.rows g.b
  let solved := rows.map fun r => (r, d.redoRow x r)
  if solved.any fun y => y.2.isNone then d.redoLost x
  else
    let q := d.takeSeq
    let livery := match d.obj? x.object with | some o => o.livery | none => 0
    let blocks := solved.flatMap fun y =>
      let data := y.2.getD []
      let run := (List.range g.d).filter fun s => decide (x.first ≤ s * g.b + y.1) && decide (s * g.b + y.1 < x.first + x.n)
      (run.map fun s => (s, y.1, data.getD s zeroBlock)) ++ [(g.d, y.1, parityP data), (g.d + 1, y.1, parityQ data)]
    let d := q.1.onRedo fun x => { x with stage := 3, seq := q.2 }
    d.forEach blocks fun d y =>
      match d.writePlace x.psi y.1 with
      | some p =>
        let c := d.submitTo p.1 .write (p.2 + y.2.1) 1 6 (.redoWrite x.rsn)
        (c.1.onRedo fun x => { x with writes := x.writes ++ [c.2] }).sendBlock livery (d.memberSlot p.1) y.1 y.2.1
          (g.block x.object x.lstripe x.psi y.1 y.2.1 d.now q.2 y.2.2)
      | none => d

/-- The in-place write in hand goes on as far as it can. One whose stripe the map no longer names is skipped, and leaves the working
copy (R305). -/
def Dev.redoProgress (d : Dev) : Dev :=
  match d.blt.redo with
  | [] => d
  | x :: _ =>
    if x.stage = 0 then
      if (d.entry x.object x.lstripe).psi ≠ x.psi ∨ (d.entry x.object x.lstripe).state = .unmapped then
        d.onBlt fun b => { b with redo := b.redo.drop 1, records := b.records.filter fun r => r.rsn != x.rsn }
      else d.redoRead x
    else if x.stage = 1 ∧ x.reads.isEmpty then d.redoSolve x
    else if x.stage = 3 ∧ x.writes.isEmpty then d.redoClose x 0
    else d

/-- A read for an in-place write ended; a block that fails its guard counts as not read. -/
def Dev.redoTook (d : Dev) (cmd rsn s r : Nat) (b : Option Block) : Dev :=
  let g := d.geo
  d.onRedo fun x =>
    if x.rsn ≠ rsn then x
    else
      let ok := match b with | some y => g.checks x.object x.lstripe x.psi s r y | none => false
      { x with reads := x.reads.erase cmd, got := if ok then sput (fun _ => none) x.got (redoKey s r) b else x.got }

/-- A write of an in-place write ended. -/
def Dev.redoWrote (d : Dev) (cmd rsn : Nat) : Dev :=
  d.onRedo fun x => if x.rsn = rsn then { x with writes := x.writes.erase cmd } else x

/-! ## Replay phase 2: records (R305 step 1) -/

/-- Records with a TAKE_LEN or FRAME of an object, by take ordinal. -/
def takeRecords (l : List RecordBody) (object : Nat) (k : Nat) : List RecordBody :=
  l.filter fun b => match b with
    | .mapCommit _ _ _ _ _ _ o _ _ len n _ => o == object && len.isSome && n == k
    | .frame _ _ o n => o == object && n == k
    | _ => false

/-- A take's lengths and frames, ordinal by ordinal from the one after its last (R305). -/
def applyTake (l : List RecordBody) : Nat → Obj → Obj
  | 0, o => o
  | fuel + 1, o =>
    match takeRecords l o.num (o.ordinal + 1) with
    | [] => o
    | rs => applyTake l fuel (rs.foldl (fun (o : Obj) b => match b with
        | .mapCommit _ _ _ _ _ _ _ _ _ (some n) _ _ => { o with length := max o.length n, accepted := max o.length n }
        | .frame rts off _ _ => if o.frames.contains (rts, off) then o else { o with frames := o.frames ++ [(rts, off)] }
        | _ => o) { o with ordinal := o.ordinal + 1 })

/-- The physical stripe table rebuilt: stripes that an entry names are MAPPED, retired ones RETIRED, the rest FREE (R305). -/
def Dev.rebuildPhys (d : Dev) (retired : List Nat) : Dev :=
  let named := d.lay.map.filterMap fun e => if e.2.state = .unmapped then none else some e.2.psi
  d.onLay fun l => { l with phys := retired.foldl (fun t p => sput (fun _ => 0) t p 3) (named.foldl (fun t p => sput (fun _ => 0) t p 2) []) }

/-- Whether an intent has its CLOSE among the records. -/
def isClosed (l : List RecordBody) (rsn : Nat) : Bool := l.any (closesIntent rsn)

/-- A record of the window as the working copy holds it. -/
def Dev.asLogged (d : Dev) (position : Nat) (r : BltRecord) : LogRecord := ⟨r.rsn, r.body, some position, true, d.recordSegs r.body, []⟩

/-- Records that replay takes up join the working copy, and the segments that they touch are dirty. -/
def Dev.adopt (d : Dev) (l : List (Nat × BltRecord)) (payloads : Table (List Byte)) : Dev :=
  let rs := l.map fun x => d.asLogged x.1 x.2
  let d := d.onBlt fun b => { b with records := rs ++ b.records, payloads := payloads }
  let d := (d.setUse 1 d.blt.records.length).setUse 2 d.blt.payloads.length
  d.forEach ((rs.flatMap LogRecord.segs).dedup) fun d s => d.dirty s

/-- The open in-place writes of a list of records, in RSN order. -/
def openRedos (l : List (Nat × BltRecord)) (t : Table (List Byte)) : List Redo :=
  let bodies := l.map fun x => x.2.body
  l.filterMap fun x => if isClosed bodies x.2.rsn then none else redoOf x.2.rsn x.2.body t

/-- The last RELAY_CURSOR of each rebuild and copy-back: ordinal, phase and cursor (R355). -/
def lastCursors (l : List (Nat × BltRecord)) : List (Nat × Nat × Nat) :=
  l.foldl (fun (acc : List (Nat × Nat × Nat)) x =>
    match x.2.body with
    | .relayCursor c o ph => (acc.filter fun y => !(y.1 == o && (y.2.1 == 4) == (ph == 4))) ++ [(o, ph, c)]
    | _ => acc) []

/-- Replay applies the window (R305 step 1) and takes up its in-place writes. -/
def Dev.replayApply (d : Dev) (retired : List Nat) : Dev :=
  let w := d.blt.window
  let bodies := w.map fun x => x.2.body
  let d := d.forEach bodies fun d b =>
    match b with
    | .mapCommit _ psi fill st mgen ls object _ _ _ _ _ =>
      let p := d.applyEntry object ls ⟨psi, fill, .ofCode st, mgen⟩
      p.1.countBlt 8 (b2n p.2)
    | _ => d
  let d := d.onLay fun l => { l with objects := l.objects.map fun o => if o.kind = .ns then o else applyTake bodies bodies.length o }
  let d := d.rebuildPhys retired
  let freed := bodies.filter fun b => match b with | .intentStripe _ psi _ _ _ _ => d.phys psi == 0 | _ => false
  let h := if d.blt.windowH = 0 ∧ d.blt.rplE = 0 then 0 else max d.blt.rplE (d.blt.windowH + 1)
  let d := d.onBlt fun b =>
    { b with replay := 2, head := h, tail := b.windowT
             ack := h - 1, anyAck := decide (0 < h), redo := openRedos w b.windowPayloads, replayEnd := none }
  let d := { d with nib := { d.nib with seq := d.blt.windowSeq + 16777216 } }
  (d.countBlt 10 freed.length).adopt w d.blt.windowPayloads

/-- Replay's closing records (R305 step 3). -/
def Dev.replayClose (d : Dev) (cursors : List (Nat × Nat × Nat)) (voids : Option (Nat × Nat)) : Dev :=
  let d := d.relayResume cursors
  let d := match voids with
    | some v => (d.append' (.void v.1 v.2)).countBlt 11 (v.2 + 1 - v.1)
    | none => d
  d.onBlt fun b => { b with replayEnd := some (b.nextRsn - 1) }

/-! ## Replay at takeover (R307) -/

/-- A record appended with the RSN it has; an INTENT_RMW takes its payload with it. -/
def Dev.appendAs (d : Dev) (r : BltRecord) : Dev :=
  let p : Dev × RecordBody := match r.body with
    | .intentRmw w psi ls object kind po first n mask s at_ =>
      let x := (payloadsAt d.blt.warmPayloads at_ (n + s)).foldl (fun (a : Dev) y => (a.appendPayload y).1) d
      (x, .intentRmw w psi ls object kind po first n mask s d.blt.head)
    | b => (d, b)
  ((p.1.onBlt fun b => { b with nextRsn := r.rsn }).append' p.2).markApplied r.rsn

/-- The mirror replayed (R307): the records that lie in the home log stand in the working copy, those above RA are appended, and the open
in-place writes are taken up. The log goes on after the last ack point received (DEDUCED: assumption log, entry 32). -/
def Dev.replayMirror (d : Dev) : Dev :=
  let w := d.blt.warm
  let ra := d.blt.warmRa
  let old := w.filter fun x => decide (x.2.rsn ≤ ra)
  let new_ := w.filter fun x => decide (ra < x.2.rsn)
  let top := w.foldl (fun a x => max a x.2.rsn) 0
  let seq := w.foldl (fun a x => max a (seqOf x.2.body)) d.nib.seq
  let d := { d with nib := { d.nib with seq := seq + 16777216 } }
  let d := d.onBlt fun b =>
    { b with mirror := .none, replay := 2, records := [], open_ := [], positions := [], head := b.warmA + 1, ack := b.warmA, anyAck := true
             tail := old.foldl (fun a x => min a (x.1 + 1)) (b.warmA + 1), redo := openRedos w b.warmPayloads, replayEnd := none }
  let d := d.adopt (old.map fun x => (x.1 + 1, x.2)) []
  let d := d.forEach new_ fun d x => d.appendAs x.2
  d.onBlt fun b => { b with nextRsn := max b.nextRsn (top + 1), waitWarm := some top }

/-! ## Replay goes on -/

/-- What follows the end of replay: the array is served, members that no drive stands for are declared failed (R333). -/
def Dev.replayEnds (d : Dev) : Dev :=
  let d := (d.onBlt fun b => { b with replay := 3, window := [], windowPayloads := [], warm := [], warmPayloads := [] }).raise 0x186
  let d := d.onLay fun l => { l with state := 3 }
  let gone := (List.range d.members).filter fun m => d.memberState m == 0 && !((d.slotAt (d.memberSlot m)).drive == .ready && decide (d.memberSlot m < 48))
  d.forEach gone fun d m => d.failTrigger m none

/-- Replay as far as it can go now. -/
def Dev.replayProgress (d : Dev) : Dev :=
  if d.blt.replay ≠ 2 then d
  else
    match d.blt.waitWarm with
    | some r => if d.homeAcked r then (d.onBlt fun b => { b with waitWarm := none }).redoProgress else d
    | none =>
      if !d.blt.redo.isEmpty then d.redoProgress
      else match d.blt.replayEnd with
        | some r => if d.homeAcked r then d.replayEnds else d
        | none =>
          if d.blt.warm.isEmpty then
            d.replayClose (lastCursors d.blt.window) (if d.blt.rplE ≤ d.blt.windowH ∧ 0 < d.blt.windowH then some (d.blt.rplE, d.blt.windowH) else none)
          else d.replayClose (lastCursors d.blt.warm) none

/-! ## Map load (R237, R249) -/

/-- The label that a drive's copies give: a valid CRC and the higher label sequence. -/
def bestLabel (l : List Label) : Option Label :=
  (l.filter Label.crcOk).foldl (fun (a : Option Label) x =>
    match a with
    | some y => if y.sequence < x.sequence then some x else a
    | none => some x) none

/-- A label at a served version (R80). -/
def labelServed (l : Label) : Bool := l.layoutVersion == 0x10 && l.mapVersion == 0x10 && l.pfVersion == 0x10

/-- The better of two drives' labels: the higher sequence, then the lower slot. -/
def labelBefore (a b : Nat × Label) : Bool :=
  decide (b.2.sequence < a.2.sequence) || (a.2.sequence == b.2.sequence && decide (a.1 < b.1))

/-- The first of a list by `labelBefore`. -/
def leadLabel (l : List (Nat × Label)) : Option (Nat × Label) :=
  l.foldl (fun (a : Option (Nat × Label)) x =>
    match a with
    | some y => if labelBefore x y then some x else a
    | none => some x) none

/-- The drive that stands for member `m` of the governing label's array; a FAILED member has none. -/
def memberDrive (gov : Label) (l : List (Nat × Label)) (m : Nat) : Option (Nat × Label) :=
  if gov.ordinals.getD m 0 ≠ 0 ∧ gov.slots.getD m 0xFF = 0xFF then none
  else leadLabel (l.filter fun x => x.2.identity == gov.identity && x.2.member == m)

/-- The geometry of a label. -/
def labelGeo (l : Label) : ArrayGeo := ⟨l.d, l.sc, l.s, l.n, l.units, l.seed, l.identity, l.layoutVersion, l.mapVersion, l.pfVersion, []⟩

/-- The array metadata that the drives hold for an array. -/
def Dev.savedFor (d : Dev) (identity : Nat) : Option Saved :=
  match d.lay.saved with
  | some s => if s.identity = identity then some s else none
  | none => none

/-- The array metadata of the drives is in force again (DESIGN CHOICE: assumption log, entry 31). -/
def Dev.restoreSaved (d : Dev) (s : Saved) : Dev :=
  { d with
    lay := { d.lay with objects := s.objects, lost := s.lost }
    rly := { d.rly with built := s.built }
    otr := { d.otr with suspects := s.suspects, cursor := s.cursor, recordedCursor := s.cursor }
    lvy := { d.lvy with liveries := s.liveries, table := s.table }
    cve := { d.cve with records := s.records } }

/-- A copy of the labels that could not be read is written again from the good one, and an older label from the governing one
(R237). -/
def Dev.mendLabels (d : Dev) (gov : Label) (l : List (Nat × List Label)) : Dev :=
  d.forEach l fun d x =>
    match bestLabel x.2, d.memberAt x.1 with
    | some b, some m =>
      if b.sequence < gov.sequence then ((d.writeLabel m 0 false).1.writeLabel m 1 false).1
      else
        let bad := (List.range 2).filter fun c => match x.2[c]? with | some y => !y.crcOk | none => true
        if bad.isEmpty then d else (d.forEach bad fun d c => (d.writeLabel m c false).1).raise 0x163
    | _, _ => d

/-- The map as the checkpoint segments give it (R244, R249). -/
def mapOf (entries : List (Nat × Nat × Nat)) : Table MapEntry :=
  entries.foldl (fun t e =>
    sput (fun _ => MapEntry.empty) t (mapKey e.1 e.2.1) ⟨bits e.2.2 0 36, bits e.2.2 36 6, .ofCode (bits e.2.2 42 4), bits e.2.2 46 18⟩) []

/-- The array that the governing label names is loaded (R237, R249). -/
def Dev.loadArray (d : Dev) (gov : Label) (l : List (Nat × List Label)) (entries : List (Nat × Nat × Nat)) : Dev :=
  let best := l.filterMap fun x => (bestLabel x.2).map fun b => (x.1, b)
  let slots := (List.range gov.n).map fun m => match memberDrive gov best m with | some x => x.1 | none => 0xFF
  let d := d.onLay fun y =>
    { y with state := 2, geo := some (labelGeo gov).withTable, slots := slots, ordinals := gov.ordinals, labelSeq := gov.sequence, map := mapOf entries
             phys := [], objects := [], lost := [], segments := [], metas := [] }
  let d := match d.savedFor gov.identity with | some s => d.restoreSaved s | none => d
  let returning := (List.range gov.n).filter fun m => gov.ordinals.getD m 0 != 0 && slots.getD m 0xFF != 0xFF
  d.replan.onRly fun r => { r with copyback := returning.foldl (fun t m => sput (fun _ => 0) t m 1) [], returned := [] }

/-- What an active module does once its array is loaded: the reservations (R366), the labels (R237) and replay phase 2. -/
def Dev.loadActive (d : Dev) (gov : Label) (l : List (Nat × List Label)) (retired : List Nat) : Dev :=
  let d := d.mendLabels gov l
  let d := if d.lay.slots = gov.slots then d
    else (d.onRly fun r => { r with jobs := r.jobs ++ [⟨.release, 0, 0, 0, [], none⟩] }).labelProgress
  (d.replayApply retired).replayProgress

/-- What a standby does once its array is loaded (R512): no replay; it reports its checkpoint loaded, and its mirror enters RESYNC. -/
def Dev.loadStandby (d : Dev) (retired : List Nat) : Dev :=
  let d := (d.rebuildPhys retired).onLay fun y => { y with state := 3 }
  let d := d.emit .partnerLoaded
  if d.flag Reg.bltCtl 0 ∧ d.fov.partnerVersion ≠ 0 then d.onBlt fun b => { b with mirror := .resync } else d

/-- MAP_LOAD (R237, R249, R305): the governing label, the array it names, then replay phase 2 on an active module. -/
def Dev.mapLoads (d : Dev) (l : List (Nat × List Label)) (entries : List (Nat × Nat × Nat)) : Dev :=
  let best := l.filterMap fun x => (bestLabel x.2).map fun b => (x.1, b)
  match leadLabel (best.filter fun x => labelServed x.2) with
  | none =>
    let d := d.onLay fun y => { y with state := 0, geo := none }
    if best.isEmpty then d else d.raise 0x162
  | some gov =>
    if d.isActive && d.blt.stopped then d.onLay fun y => { y with state := 0, geo := none }
    else
      let retired := match d.savedFor gov.2.identity with | some s => s.retired | none => []
      let d := d.loadArray gov.2 l entries
      if d.isActive then d.loadActive gov.2 l retired else d.loadStandby retired

end Sys2Proof.Machine
end

