-- ==== Sys2Proof/Machine/Drives.lean ====
section
/-! DEFINITION. Drive ports and slot control (R358 to R374): what a completion does for the unit that asked, qualification,
errors and containment, escalation, reservations, slot power and presence. -/

namespace Sys2Proof.Machine

/-! ## Completions (R364) -/

/-- A read of a drive gave nothing: `member` says that its member failed or left, otherwise that the command failed (R313). -/
def Dev.driveReadFails (d : Dev) (c : DriveCmd) (member : Bool) : Dev :=
  match c.purpose with
  | .oldRead i _ _ _ => (d.onDesc i fun s => { s with reads := s.reads.erase c.id }).oldProgress i
  | .read id strip first =>
    match d.read? id with
    | some r =>
      match d.planOf r.object (r.first + first) with
      | .stored psi fill _ row _ => d.forEach (List.range c.blocks) fun d k => d.readLost id psi fill strip (row + k) member
      | _ => d
    | none => d
  | .reconRead id psi strip row =>
    match d.read? id with
    | some r => match r.rows.find? fun w => w.psi == psi && w.row == row with
      | some w => d.readLost id psi w.fill strip row member
      | none => d
    | none => d
  | .patrol strip row => d.otrTook c.id strip row c.blocks []
  | .relay strip row => d.relayTook c.id strip row c.blocks []
  | .remirrorRead h => d.remirrorCopy h none
  | .redo rsn strip row => (d.redoTook c.id rsn strip row none).replayProgress
  | _ => d

/-- Admin codes: the opcode in bits 15 to 8, the CNS or feature in bits 7 to 0 (R362). -/
abbrev identifyController : Nat := 0x0601

/-- Identify, active namespace list. -/
abbrev identifyList : Nat := 0x0602

/-- Identify, namespace 1. -/
abbrev identifyNamespace : Nat := 0x0600

/-- Set Features, Number of Queues. -/
abbrev setQueues : Nat := 0x0907

/-- Format NVM. -/
abbrev formatNvm : Nat := 0x8000

/-- An admin command to a drive. -/
def Dev.admin (d : Dev) (slot code : Nat) : Dev := (d.submit slot (.admin code) 0 0 6 (.admin code)).1

/-- The checks of R361 on the data that an initialisation command returned: Identify data by the layout of the NVMe base
specification, and for Number of Queues the two counts less one as the command's result gives them (assumption log, entry
26). -/
def qualifies (code : Nat) (l : List Byte) : Bool :=
  if code = identifyController then
    bit (fieldAt l 520 2) 5 && (fieldAt l 77 1 == 0 || decide (5 ≤ fieldAt l 77 1)) && bit (fieldAt l 76 1) 0
  else if code = identifyList then fieldAt l 0 4 == 1 && fieldAt l 4 4 == 0
  else if code = identifyNamespace then
    let f := fieldAt l 26 1
    let fmt := fieldAt l (128 + 4 * (f % 16)) 4
    bits fmt 0 16 == 64 && bits fmt 16 8 == 12 && bit f 4 && fieldAt l 29 1 == 0 && bit (fieldAt l 31 1) 0 && bit (fieldAt l 31 1) 1
  else decide (5 ≤ fieldAt l 0 2) && decide (5 ≤ fieldAt l 2 2)

/-- The initialisation command after a given one. -/
def initNext (code : Nat) : Option Nat :=
  if code = identifyController then some identifyList
  else if code = identifyList then some identifyNamespace
  else if code = identifyNamespace then some setQueues
  else none

/-- A drive is a member's (DPQn_Ps_STATUS.MEMBER). -/
def Dev.isMemberSlot (d : Dev) (slot : Nat) : Bool := (d.memberAt slot).isSome

/-- The reservation of a drive is asked for: plain, or preempting another holder (R366). -/
def Dev.acquire (d : Dev) (slot : Nat) : Dev :=
  if (d.slotAt slot).holder || d.drv.cmds.any fun c => c.slot == slot && (match c.purpose with | .reserve _ => true | _ => false) then d
  else (d.submit slot (.admin 0x0D11) 0 0 6 (.reserve (d.slotAt slot).otherHolder)).1

/-- A member drive's reservation is acquired by the active module (R365). -/
def Dev.acquireMember (d : Dev) (slot : Nat) : Dev :=
  if d.isActive && d.isMemberSlot slot && (d.slotAt slot).drive == .ready then d.acquire slot else d

/-- A drive is initialised: ready, and registered with this module's key (R365). -/
def Dev.driveReady (d : Dev) (slot : Nat) : Dev :=
  let d := d.onSlot slot fun s => { s with drive := .ready, bootAt := none }
  ((d.submit slot (.admin 0x0D00) 0 0 6 .register).1).acquireMember slot

/-- A member's trigger of R333 from its slot. -/
def Dev.slotFails (d : Dev) (slot : Nat) : Dev := match d.memberAt slot with | some m => d.failTrigger m none | none => d

/-- A drive fails a check of R361. -/
def Dev.unqualified (d : Dev) (slot : Nat) : Dev :=
  ((d.onSlot slot fun s => { s with drive := .unqualified, bootAt := none }).raise 0x1CB).slotFails slot

/-- An initialisation command ended with data. -/
def Dev.initStep (d : Dev) (slot code : Nat) (l : List Byte) : Dev :=
  if (d.slotAt slot).drive ≠ .initialising then d
  else if !(qualifies code l) then d.unqualified slot
  else
    let d := d.when (code == identifyNamespace) fun d => d.onSlot slot fun s => { s with capacity := fieldAt l 0 8, formatted := true }
    match initNext code with
    | some n => d.admin slot n
    | none => d.driveReady slot

/-- The deallocation of a strip ended: its physical stripe is FREE once none is left. -/
def Dev.trimEnded (d : Dev) (id psi : Nat) : Dev :=
  if d.drv.cmds.any fun c => c.id != id && c.purpose == .trim psi then d else d.setPhys psi 0

/-- A drive command ended with success (R364): its unit takes what it returned. -/
def Dev.driveDone (d : Dev) (c : DriveCmd) (l : List Block) : Dev :=
  match c.purpose with
  | .strip i strip => d.onDesc i fun s => { s with writes := s.writes.map fun w => if w.strip = strip ∧ w.cmd = c.id then { w with acked := true } else w }
  | .inPlace i => d.onDesc i fun s => { s with writes := s.writes.map fun w => if w.cmd = c.id then { w with acked := true } else w }
  | .oldRead i strip row n =>
    let d := d.forEach (List.range (min n l.length)) fun d k => match l[k]? with | some b => d.takeOld i strip (row + k) b | none => d
    (d.onDesc i fun s => { s with reads := s.reads.erase c.id }).oldProgress i
  | .home h m => d.ackCopy h m
  | .ckpt seg copy => d.skipCkpt seg copy
  | .label _ _ _ => d.labelEnded c.id
  | .clear _ => d.labelEnded c.id
  | .read id strip first => d.forEach (List.range c.blocks) fun d k =>
      match l[k]? with
      | some b => d.readBlock id (first + k) b
      | none => d.driveReadFails { c with blocks := 1, purpose := .read id strip (first + k) } false
  | .reconRead id psi strip row => (match l.head? with | some b => d.readSurvivor id psi strip row b | none => d.driveReadFails c false)
  | .patrol strip row => d.otrTook c.id strip row c.blocks l
  | .patrolWrite => d.otrWrote c.id
  | .relay strip row => d.relayTook c.id strip row c.blocks l
  | .relayWrite => d.relayWrote c.id
  | .remirrorRead h => d.remirrorCopy h l.head?
  | .remirrorWrite h m => d.remirrored h m
  | .register => d.onSlot c.slot fun s => { s with registered := true }
  | .admin code => d.initStep c.slot code ((l.head?.map Block.data).getD [])
  | .trim psi => d.trimEnded c.id psi
  | .reserve _ => d
  | .redo rsn strip row => (d.redoTook c.id rsn strip row l.head?).replayProgress
  | .redoWrite rsn => (d.redoWrote c.id rsn).replayProgress

/-- A checkpoint copy failed (R248): the segment is written again to the same slot. -/
def Dev.ckptFails (d : Dev) (seg : Nat) : Dev :=
  let d := { d with drv := { d.drv with cmds := d.drv.cmds.filter fun c => match c.purpose with | .ckpt g _ => g != seg | _ => true } }
  (d.raise 0x164).writeSegment seg

/-- A command whose member left ends (R272, R313, R353): its unit goes on without it. -/
def Dev.driveGone (d : Dev) (c : DriveCmd) : Dev :=
  let d := d.dropDrvCmd c.id
  match c.purpose with
  | .strip _ _ => d
  | .inPlace _ => d.driveDone c []
  | .home _ _ => d
  | .ckpt seg _ => d.ckptFails seg
  | .label _ _ _ => d.driveDone c []
  | .clear _ => d.driveDone c []
  | .patrolWrite => d.driveDone c []
  | .relayWrite => d.driveDone c []
  | .remirrorWrite h _ => d.remirrorRead h
  | .register => d
  | .admin _ => d
  | .trim psi => d.trimEnded c.id psi
  | .reserve _ => d
  | .redoWrite _ => d.driveDone c []
  | _ => d.driveReadFails c true

/-- Every command on a drive ends as failed: reads are reconstructed, held and outstanding ones alike (R367). -/
def Dev.failAll (d : Dev) (slot : Nat) : Dev := d.forEach (d.drv.cmds.filter fun c => c.slot == slot) fun d c => d.driveGone c

/-! ## Escalation (R367 to R370) -/

/-- Whether a port escalates. -/
def Dev.escalating (d : Dev) (slot : Nat) : Bool := (d.slotAt slot).drive == .escalating

/-- Escalation ends in failure (R367, R368): a member's trigger, or drive failure of any other drive. -/
def Dev.escFails (d : Dev) (slot : Nat) : Dev :=
  let d := (d.onSlot slot fun s => { s with drive := .failed, escStep := 0, escAt := none, bootAt := none, offUntil := none }).raise 0x1C8
  if d.isMemberSlot slot then d.slotFails slot else d.failAll slot

/-- Reads outstanding on a port that begins to escalate end as failed, Writes are held, and admin work waits (R369). -/
def Dev.holdPort (d : Dev) (slot : Nat) : Dev :=
  d.forEach (d.drv.cmds.filter fun c => c.slot == slot) fun d c =>
    if c.op = .read then (d.dropDrvCmd c.id).driveReadFails c true
    else
      let d := d.onDrvCmd c.id fun c => { c with at_ := none, retryAt := none }
      if c.op.writes ∧ c.at_.isSome then d.countDrive slot 11 1 else d

/-- Step 1: the controller is reset (R368). -/
def Dev.escReset (d : Dev) (slot : Nat) : Dev :=
  let d := d.onSlot slot fun s => { s with drive := .escalating, escStep := 1, escAt := some (d.q + quantaMs (d.fld Reg.dpcEsc 0 16)) }
  ((d.countDrive slot 4 1).raise 0x1C6).holdPort slot

/-- Slot power off for OFF_MS (R368, SLT_CMD.CYCLE). -/
def Dev.powerOff (d : Dev) (slot : Nat) (again : Bool) : Dev :=
  (d.onSlot slot fun s =>
    { s with powerEn := false, speed := 3, offUntil := if again then some (d.q + quantaMs (d.fld Reg.dpcSlotpwr 0 16)) else none, bootAt := none }).emit
    (.slotBus slot 0x100)

/-- Step 2: the slot's power is cycled (R368). -/
def Dev.escCycle (d : Dev) (slot : Nat) : Dev :=
  let d := d.onSlot slot fun s => { s with drive := .escalating, escStep := 2, escAt := none }
  (((d.countDrive slot 5 1).raise 0x1C7).holdPort slot).powerOff slot true

/-- Escalation starts at the step that R368 gives; on a port that escalates already it starts nothing new. -/
def Dev.escalate (d : Dev) (slot : Nat) : Dev :=
  let s := d.slotAt slot
  if s.drive = .escalating ∨ s.drive = .absent ∨ s.drive = .failed then d
  else
    let k := match s.recovered with
      | some (k, t) => if d.q < t + quantaMs (1000 * d.fld Reg.dpcEsc 16 12) then k + 1 else 1
      | none => 1
    if k = 1 then d.escReset slot
    else if k = 2 ∧ d.flag Reg.dpcCtl 1 then d.escCycle slot
    else (d.holdPort slot).escFails slot

/-- A step of escalation succeeded: the drive answers again (R368, R369). -/
def Dev.escDone (d : Dev) (slot : Nat) : Dev :=
  (d.onSlot slot fun s =>
    { s with drive := .ready, recovered := some (s.escStep, d.q), escStep := 0, escAt := none, bootAt := none, registered := true }).issueHeld

/-! ## Errors on the link (R359, R360) -/

/-- The register of port bits for slot `k` (DPQn_Ps_CTL at +0, STATUS at +4, AER at +8, QD at +12). -/
def portReg (k at_ : Nat) : Nat := 0x2B0000 + (k / 4) * 0x10000 + (k % 4) * 0x10 + at_

/-- A bit of DPQn_Ps_AER is set. -/
def Dev.logAer (d : Dev) (slot i : Nat) : Dev := d.setRaw (portReg slot 8) (setBit (d.raw (portReg slot 8)) i)

/-- The bit of an uncorrectable error. -/
def aerBit : AerKind → Nat
  | .nonFatal => 1
  | .fatal => 2
  | .surpriseDown => 3
  | .completionTimeout => 4

/-- An uncorrectable error, completion timeout or surprise link down (R360): containment when DPC_EN is 1, then escalation. -/
def Dev.aerError (d : Dev) (slot : Nat) (kind : AerKind) : Dev :=
  let d := ((d.logAer slot (aerBit kind)).countDrive slot 8 1).raise 0x1C3
  let d := if kind = .surpriseDown then (d.onSlot slot fun s => { s with speed := 3 }).when (d.isMemberSlot slot) fun d => d.raise 0x1C0 else d
  if d.flag (portReg slot 0) 4 then
    ((((d.onSlot slot fun s => { s with contained := true, speed := 3 }).countDrive slot 6 1).raise 0x1C2)).escalate slot
  else d.escalate slot

/-- A correctable error: counted; more than 1,000 within a second raise AER_CORR_RATE (R360). -/
def Dev.aerCorrectable (d : Dev) (slot : Nat) : Dev :=
  let s := d.slotAt slot
  let fresh := decide (s.aerFrom + quantaMs 1000 ≤ d.q) || s.aerCount == 0
  let n := if fresh then 1 else s.aerCount + 1
  let d := ((d.logAer slot 0).countDrive slot 7 1).onSlot slot fun s => { s with aerCount := n, aerFrom := if fresh then d.q else s.aerFrom }
  if 1000 < n then d.raise 0x1C4 else d

/-- The link of a port reaches L0 at a speed (0 Gen6, 1 Gen5, 2 Gen4, 3 none) and width (R359): a speed above MAX_SPEED is
not trained. -/
def Dev.linkTrained (d : Dev) (slot speed width : Nat) : Dev :=
  let s := d.slotAt slot
  let speed := if speed = 3 then 3 else max speed (min 2 (d.fld (portReg slot 0) 0 2))
  if !s.present || !s.powerEn then d
  else
    let d := d.onSlot slot fun s => { s with speed := speed, narrow := decide (width = 1), contained := false }
    if speed = 3 then d.when (d.isMemberSlot slot) fun d => d.raise 0x1C0
    else
      let d := if (speed ≠ 0 ∨ width = 1) ∧ d.hqe.pstate = 0 ∧ !d.entering then d.raise 0x1C1 else d
      if s.drive = .initialising ∧ s.speed = 3 then d.admin slot identifyController else d

/-! ## Slot control (R371 to R374) -/

/-- A slot's power is on: a drive in it has BOOT_MS to initialise (R359). -/
def Dev.slotBoots (d : Dev) (slot : Nat) : Dev :=
  let boot := d.q + quantaMs (d.fld Reg.dpcSlotpwr 16 16)
  d.onSlot slot fun s =>
    { s with powerEn := true, offUntil := none, insertAt := none, bootAt := if s.present then some boot else none
             drive := if !s.present then .absent else if s.drive = .escalating then .escalating else .initialising }

/-- The module turns a slot's power on (R371). -/
def Dev.powerOn (d : Dev) (slot : Nat) : Dev := (d.slotBoots slot).emit (.slotBus slot 0x101)

/-- A slot is reported absent (R373): escalation on it ends, and a member's trigger is taken at once (R370). -/
def Dev.slotAbsent (d : Dev) (slot : Nat) : Dev :=
  let d := (d.onSlot slot fun s =>
    { Slot.empty slot with attn := s.attn, recovered := none }).raise 0x1E1
  if d.isMemberSlot slot then d.slotFails slot else d.failAll slot

/-- A slot becomes present (R373, R510, R511): during start-up its power is on already; later the active module waits for the
insertion delay, and a standby shows the drive as initialising. -/
def Dev.slotPresent (d : Dev) (slot : Nat) (pgood : Bool) : Dev :=
  let d := (d.onSlot slot fun s => { s with present := true, pgood := pgood }).raise 0x1E0
  if !d.clk.done then (if pgood then d.slotBoots slot else d.onSlot slot fun s => { s with drive := .initialising })
  else if d.isActive then d.onSlot slot fun s => { s with insertAt := some (d.q + quantaMs (10 * d.fld Reg.sltCtl 8 8)) }
  else
    let boot := d.q + quantaMs (d.fld Reg.dpcSlotpwr 16 16)
    d.onSlot slot fun s => { s with drive := .initialising, powerEn := pgood, bootAt := if pgood then some boot else none }

/-- A power fault: SLOT_PWR_FAULT, and the active module disables the slot's power (R373). -/
def Dev.slotFault (d : Dev) (slot : Nat) : Dev :=
  let d := (d.onSlot slot fun s => { s with fault := true }).raise 0x1E2
  if d.isActive then d.powerOff slot false else d

/-- One slot as a poll read it: bit 0 present, 1 power good, 2 power fault, and its CHANGE bit (R371, R373). -/
def Dev.pollSlot (d : Dev) (slot nib : Nat) (change : Bool) : Dev :=
  let was := (d.slotAt slot).present
  let d := if was && (!(bit nib 0) || change) then d.slotAbsent slot else d
  let d := if bit nib 0 && !(d.slotAt slot).present then d.slotPresent slot (bit nib 1) else d
  let s := d.slotAt slot
  let boots := bit nib 1 && !s.pgood && s.present && !d.isActive
  let boot := d.q + quantaMs (d.fld Reg.dpcSlotpwr 16 16)
  let d := d.onSlot slot fun s => { s with pgood := bit nib 1, powerEn := s.powerEn || boots, bootAt := if boots then some boot else s.bootAt }
  if bit nib 2 && !s.fault then d.slotFault slot else d.onSlot slot fun s => { s with fault := bit nib 2 }

/-- One slot controller as a poll found it (R372). -/
def Dev.pollQuad (d : Dev) (n : Nat) (r : SlotReading) : Dev :=
  if r.answered then
    let d := d.forEach (List.range 4) fun d s => d.pollSlot (4 * n + s) (bits r.status (4 * s) 4) (bit r.change s)
    if r.change % 16 = 0 then d else d.emit (.slotBus (4 * n) (0x300 + r.change % 16))
  else (d.countReg Reg.sltBusErr 1).raise 0x1E3

/-- A write to SLT_CMD, ignored on a standby (R374): the attention override, and CYCLE, OFF or ON for the slot of SLT_IDX. -/
def Dev.slotCommand (d : Dev) (v : Nat) : Dev :=
  let k := min 47 (d.fld Reg.sltIdx 0 6)
  if !d.isActive then d
  else
    let d := d.setFld (bank Reg.sltCmd k) 0 2 v
    let d := if bit v 2 then ((d.holdPort k).onSlot k fun s => { s with drive := if s.present then .initialising else .absent, escStep := 0, escAt := none }).powerOff k true else d
    let d := if bit v 3 then (d.powerOff k false).slotFails k else d
    if bit v 4 then d.powerOn k else d

/-- DPQn_Ps_CTL.RETRAIN: the link goes down to train again (R359). -/
def Dev.retrain (d : Dev) (slot : Nat) : Dev :=
  let d := if d.isMemberSlot slot ∧ (d.slotAt slot).speed ≠ 3 then d.raise 0x1C0 else d
  (d.onSlot slot fun s => { s with speed := 3 }).emit (.slotBus slot 0x200)

/-- DPQn_Ps_CTL.FORMAT: refused and counted on a member drive (R363). -/
def Dev.formatDrive (d : Dev) (slot : Nat) : Dev := if d.isMemberSlot slot then d.countDrive slot 12 1 else d.admin slot formatNvm

/-! ## Becoming active (R366) -/

/-- Every member drive's reservation is acquired. -/
def Dev.acquireAll (d : Dev) : Dev := d.forEach (List.range 48) fun d k => d.acquireMember k

end Sys2Proof.Machine
end

