-- ==== Sys2Proof/Machine/Rae.lean ====
section
/-! DEFINITION. The remote access engine and the Inkwells (R152 to R185): queue pairs and connections, packets and their
order, remote accesses and placement, context cache and parking, registration and revocation, requester queues. -/

namespace Sys2Proof.Machine

/-! ## Sessions close (R59, R62) -/

/-- A session closes: its commands that have not started are discarded and counted, its stepped operations run in the
background, and its replies still owed are discarded by `sendReply`. -/
def Dev.closeSession (d : Dev) (n : Nat) : Dev :=
  let unstarted (c : Cmd) : Bool := c.session == some n && c.phase != .running
  let k := (d.cp.cmds.filter unstarted).length
  let pass (l : LongOp) : LongOp := if l.session = some n ∧ l.mode = .stepped then { l with mode := .background, holdAt := none } else l
  { d with cp := { d.cp with
      sessions := dropAt Session.id n d.cp.sessions
      cmds := d.cp.cmds.filter fun c => !(unstarted c)
      longOps := d.cp.longOps.map pass } }.countReg Reg.cmdHeldDrop k

/-! ## Work that a queue's end stops (R179) -/

/-- A requester queue ends with a detail of R179: its reads complete with QUEUE_RESET, so do the commands that its requests
serve, its queued requests go, and queues that wait for it end with detail 0x0004 (R175). -/
def Dev.endRq (d : Dev) (n detail : Nat) : Dev :=
  match d.rq? n with
  | none => d
  | some r =>
    if r.ending.isSome then d
    else
      let cmds := (r.reqs.filterMap WorkReq.cmd).dedup
      let d := d.onRq n fun r => { r with ending := some detail, reqs := [] }
      let d := d.readsOfQueue n detail
      let d := d.forEach cmds fun d id => match d.cmd? id with | some c => d.fail c 0x800C detail | none => d
      let waiting := (d.rae.qps.filter fun q => match q.rq with | some x => x.ending.isNone && x.reqs.any fun w => w.waitQp == some n | none => false).map Qp.num
      d.forEach waiting fun d m =>
        (d.onRq m fun r => { r with ending := some 4, reqs := [] }).readsOfQueue m 4

/-! ## Revocation (R168 to R171) -/

/-- `f` applied to Inkwell `i`. -/
def Dev.onInk (d : Dev) (i : Nat) (f : Inkwell → Inkwell) : Dev := d.onRae fun r => { r with inks := modifyAt Inkwell.index i f r.inks }

/-- Messages that are admitted into an Inkwell by the revocation point and neither placed in full nor cut. -/
def Dev.admittedTo (d : Dev) (i : Nat) : List Qp :=
  d.rae.qps.filter fun q => match q.admitted with | some a => a.ink == i && a.cutAt.isSome && !a.cut | none => false

/-- A tag advances by 1, modulo 256 (R168). -/
def Dev.advanceTag (d : Dev) (i : Nat) : Dev := d.onRae fun r => { r with tags := sput (fun _ => 0) r.tags i ((sget (fun _ => 0) r.tags i + 1) % 256) }

/-- An Inkwell is released (R171): its index goes to the tail of the free list, its pages wait for what Nib still has to
drain. -/
def Dev.releaseInk (d : Dev) (i : Nat) : Dev :=
  match d.inkOf i with
  | none => d
  | some k => d.onRae fun r => { r with inks := dropAt Inkwell.index i r.inks, freeInks := r.freeInks ++ [i], releasing := r.releasing ++ [(i, k.pages)] }

/-- Released pages whose blocks no descriptor holds any more are free, and their marks are gone (R171). -/
def Dev.freeReleased (d : Dev) : Dev :=
  let busy (p : Nat) : Bool := d.nib.descs.any fun s => s.named.any fun n => n.addr / 65536 == p
  let ready := (d.rae.releasing.filter fun x => !(x.2.any busy)).flatMap Prod.snd
  if ready.isEmpty then d
  else d.onRae fun r =>
    { r with releasing := r.releasing.filter fun x => x.2.any busy
             placed := r.placed.filter fun p => !(ready.contains (p.block / 16)) }

/-- A pending revocation ends when its last admitted message is placed or cut: the command replies, and the Inkwell keeps its
new key or is released (R168, R171). -/
def Dev.revokeProgress (d : Dev) (i : Nat) : Dev :=
  match d.inkOf i with
  | none => d
  | some k =>
    match k.revoking with
    | none => d
    | some _ =>
      if !(d.admittedTo i).isEmpty then d
      else
        let d' := d.onInk i fun k => { k with revoking := none, revokeCmd := none, placedAfter := 0, cutCount := 0 }
        let d' := if k.reissue then d' else d'.releaseInk i
        match k.revokeCmd.bind d.cmd? with
        | some c => d'.finishHeld { c with aux := [16] ++ ((leBytes 4 (if k.reissue then i * 256 + d.tagOf i else 0) ++ leBytes 4 k.placedAfter
            ++ leBytes 4 k.cutCount ++ leBytes 4 0).map BitVec.toNat) ++ c.aux }
        | none => d'

/-! ## States of a queue pair (R156) -/

/-- A QP enters ERROR: its parked packets and its partly placed message are gone, its queue ends, and LINGER runs. -/
def Dev.qpError (d : Dev) (n detail : Nat) : Dev :=
  match d.qp? n with
  | none => d
  | some q =>
    if q.state = .error then d
    else
      let d := d.endRq n detail
      let d := (d.onQp n fun q =>
        { q with state := .error, parked := [], fetching := false, admitted := none, lingerAt := some (d.q + quantaMs (d.fld Reg.raeRetry 16 16)) }).raise 0x123
      match q.admitted with
      | some a => d.revokeProgress a.ink
      | none => d

/-- A QP is CLOSED: its context is gone and its number goes to the tail of the free list. -/
def Dev.closeQp (d : Dev) (n : Nat) : Dev :=
  match d.qp? n with
  | none => d
  | some q =>
    let d := d.endRq n 4
    let d := d.onRae fun r => { r with qps := dropAt Qp.num n r.qps, freeQps := r.freeQps ++ [n] }
    match q.admitted with
    | some a => d.revokeProgress a.ink
    | none => d

/-- The contexts on chip. -/
def Dev.residents (d : Dev) : Nat := (d.rae.qps.filter Qp.resident).length

/-- Whether a context may be evicted (R180). -/
def Qp.evictable (q : Qp) : Bool :=
  q.resident && !q.pinned && q.parked.isEmpty && q.admitted.isNone && (match q.rq with | some r => r.reqs.all fun w => !w.started | none => true)

/-- Room for one more context on chip: the least recently used evictable context goes when the cache is full (R180). The flag
says whether there is room. -/
def Dev.makeRoom (d : Dev) : Dev × Bool :=
  if d.residents < 4096 then (d, true)
  else
    let l := d.rae.qps.filter Qp.evictable
    let oldest := l.foldl (fun a q => match a with | some (x : Qp) => if q.usedAt < x.usedAt then some q else some x | none => some q) none
    match oldest with
    | some q => ((d.onQp q.num fun q => { q with resident := false }).countRae 12 1, true)
    | none => (d, false)

/-- The next QP number: a fresh one, then the longest free (R156). -/
def Dev.takeQpNumber (d : Dev) : Option (Nat × Dev) :=
  if d.rae.freshQp < 65536 then some (0x10000 + d.rae.freshQp, d.onRae fun r => { r with freshQp := r.freshQp + 1 })
  else match d.rae.freeQps with
    | n :: t => some (n, d.onRae fun r => { r with freeQps := t })
    | [] => none

/-- A quantum after `us` microseconds. -/
def Dev.inUs (d : Dev) (us : Nat) : Nat := d.q + quantaUs us

/-- A QP opens in CONNECTING, pinned up to PIN_MAX (R180). -/
def Dev.openQp (d : Dev) (livery : Option Nat) (nvme passive pinned : Bool) (pid peerQp start timeoutUs ackExp : Nat) : Option (Nat × Dev) :=
  match d.takeQpNumber with
  | none => none
  | some p =>
    let r := p.2.makeRoom
    let pin := pinned && decide ((d.rae.qps.filter Qp.pinned).length < min 2048 (d.fld Reg.raeCacheCfg 0 12))
    let q : Qp :=
      { num := p.1, state := .connecting, livery := livery, nvme := nvme, pid := pid, peerQp := peerQp, expected := start, sendPsn := 0,
        passive := passive, cmAt := some (d.inUs timeoutUs), lingerAt := none, closeAfter := false, ackExp := ackExp, pinned := pin,
        resident := r.2, usedAt := d.q, parked := [], fetching := false, nakSent := false, admitted := none, cnpAt := none, rateAt := none,
        rateStep := 0, rq := none, createCmd := none, freezeDrop := false }
    some (p.1, r.1.onRae fun x => { x with qps := x.qps ++ [q] })

/-! ## Answers -/

/-- A NAK that counts in a counter and puts the QP in ERROR (R154, R159, R164). -/
def Dev.nakFatal (d : Dev) (qp item : Nat) (a : RoceAnswer) : Dev := (((d.emit (.roce qp a)).countRae item 1).countRae 1 1).qpError qp 0

/-- NAK Remote Access Error (R164). -/
def Dev.nakAccess (d : Dev) (qp psn : Nat) : Dev := (d.nakFatal qp 3 (.nakAccess psn)).raise 0x120

/-- NAK Invalid Request (R154). -/
def Dev.nakInvalid (d : Dev) (qp psn : Nat) : Dev := (d.nakFatal qp 4 (.nakInvalidRequest psn)).raise 0x124

/-- A packet discarded without response (R154). -/
def Dev.roceDrop (d : Dev) : Dev := (d.countRae 13 1).raise 0x124

/-- An acknowledgement. -/
def Dev.roceAck (d : Dev) (qp psn : Nat) : Dev := (d.emit (.roce qp (.ack psn))).countRae 1 1

/-! ## Remote accesses (R162 to R167) -/

/-- The checks of R164 for an access of a QP; an access of length 0 is not checked. -/
def Dev.accessOk (d : Dev) (q : Qp) (key va length : Nat) (write : Bool) : Bool :=
  match d.inkAt key with
  | some k => decide (key / 256 < 65536) && q.livery == some k.livery && bit k.rights (if write then 0 else 1) && decide (va + length ≤ k.size)
  | none => false

/-- Bytes from offset `o` of an Inkwell on, written to HBM where its pages lie. -/
def Dev.inkWrite (d : Dev) (k : Inkwell) (o : Nat) (l : List Byte) : Dev :=
  let first := o / 65536
  d.forEach (List.range ((o + l.length + 65535) / 65536 - first)) fun d i =>
    let a := max o ((first + i) * 65536)
    let b := min (o + l.length) ((first + i + 1) * 65536)
    d.hbmWrite (k.addr a) ((l.drop (a - o)).take (b - a))

/-- Bytes from offset `o` of an Inkwell on. -/
def Dev.inkRead (d : Dev) (k : Inkwell) (o n : Nat) : List Byte :=
  let first := o / 65536
  (List.range ((o + n + 65535) / 65536 - first)).flatMap fun i =>
    let a := max o ((first + i) * 65536)
    let b := min (o + n) ((first + i + 1) * 65536)
    d.hbmRead (k.addr a) (b - a)

/-- Whether a poisoned word lies in a range of an Inkwell. -/
def Dev.inkPoisoned (d : Dev) (k : Inkwell) (o n : Nat) : Bool :=
  let first := o / 65536
  (List.range ((o + n + 65535) / 65536 - first)).any fun i =>
    let a := max o ((first + i) * 65536)
    let b := min (o + n) ((first + i + 1) * 65536)
    d.hbmPoisoned (k.addr a) (b - a)

/-- The first uncorrectable error in a range of an Inkwell is recorded, counted and raised (R434). -/
def Dev.inkNote (d : Dev) (k : Inkwell) (o n : Nat) : Dev :=
  let first := o / 65536
  match (List.range ((o + n + 65535) / 65536 - first)).find? fun i =>
      d.hbmPoisoned (k.addr (max o ((first + i) * 65536))) (min (o + n) ((first + i + 1) * 65536) - max o ((first + i) * 65536)) with
  | some i => d.notePoison true (k.addr (max o ((first + i) * 65536))) (min (o + n) ((first + i + 1) * 65536) - max o ((first + i) * 65536))
  | none => d

/-- Admitted bytes are placed; each 4 KiB block whose last byte is among them gets its mark and stamp (R167, R257). -/
def Dev.place4k (d : Dev) (k : Inkwell) (o : Nat) (l : List Byte) : Dev :=
  let d := d.inkWrite k o l
  let blocks := (List.range ((o + l.length) / 4096 - o / 4096)).map fun i => o / 4096 + i
  d.forEach blocks fun d b => d.blockPlaced (k.addr (4096 * b))

/-- The last packet of an admitted message is placed: an immediate is stored (R158), and a revocation that waited for it goes
on (R168). -/
def Dev.messagePlaced (d : Dev) (qp : Nat) (a : Admitted) (imm : Option Word) : Dev :=
  let d := d.onQp qp fun q => { q with admitted := none }
  let d := match imm with | some w => d.onInk a.ink fun k => { k with lastImm := w, immCount := k.immCount + 1 } | none => d
  match a.cutAt with
  | some _ => (d.onInk a.ink fun k => { k with placedAfter := k.placedAfter + 1 }).revokeProgress a.ink
  | none => d

/-- A Write packet in order (R164, R165, R170): the first is checked, the later ones of an admitted message are placed. -/
def Dev.writePacket (d : Dev) (q : Qp) (psn key va length : Nat) (first last : Bool) (data : List Byte) (imm : Option Word) : Dev :=
  if first ∧ length = 0 then d.roceAck q.num psn
  else if first && !(d.accessOk q key va length true) then d.nakAccess q.num psn
  else
    let a? := if first then some ⟨key / 256, va, va + length, none, false⟩ else q.admitted
    match a? with
    | none => d.nakInvalid q.num psn
    | some a =>
      if a.cut then d.nakAccess q.num psn
      else match d.inkOf a.ink with
        | none => d.nakAccess q.num psn
        | some k =>
          let l := data.take (a.stop - a.next)
          let d := (d.onQp q.num fun x => { x with admitted := some { a with next := a.next + l.length } }).place4k k a.next l
          if last then (d.roceAck q.num psn).messagePlaced q.num { a with next := a.next + l.length } imm else d

/-- The response packets of a Read, at the path MTU that RAE_MTU allows; each takes a PSN. -/
def Dev.readPackets (d : Dev) (length : Nat) : Nat := max 1 (ceilDiv length (256 * 2 ^ (d.fld Reg.raeMtu 0 3 - 1)))

/-- An RDMA Read (R159, R164). -/
def Dev.readPacket (d : Dev) (q : Qp) (psn key va length : Nat) : Dev :=
  if length = 0 then (d.emit (.roce q.num (.readResponse psn []))).countRae 1 1
  else if !(d.accessOk q key va length false) then d.nakAccess q.num psn
  else match d.inkAt key with
    | some k =>
      if d.inkPoisoned k va length then (d.inkNote k va length).nakFatal q.num 6 (.nakOperational psn)
      else (d.emit (.roce q.num (.readResponse psn (d.inkRead k va length)))).countRae 1 1
    | none => d

/-! ## The order of packets (R160, R161, R180 to R183) -/

/-- Serial distance over 24 bits from the expected PSN. -/
def psnAhead (expected psn : Nat) : Nat := (psn + 2 ^ 24 - expected % 2 ^ 24) % 2 ^ 24

/-- A congestion notification for a packet marked CE, at most one per QP within CNP_GAP (R161). -/
def Dev.noteCe (d : Dev) (q : Qp) (ce : Bool) : Dev :=
  let quiet := match q.cnpAt with | some t => decide (d.q < t + quantaUs (max 1 (d.fld Reg.raeCc 0 16))) | none => false
  if ce && d.flag Reg.raeCtl 1 && !quiet then ((d.onQp q.num fun x => { x with cnpAt := some d.q }).emit (.cnp q.num)).countRae 14 1 else d

/-- A packet parks for want of its context (R181): up to 4 per QP and 1,024 in all. -/
def Dev.park (d : Dev) (q : Qp) (psn : Nat) (c : Instr) : Dev :=
  let total := (d.rae.qps.map fun x => x.parked.length).sum
  if 4 ≤ q.parked.length ∨ 1024 ≤ total then (d.countRae 10 1).raise 0x121
  else
    let d := (d.onQp q.num fun x =>
      { x with parked := x.parked ++ [⟨psn, c⟩], fetching := true, usedAt := if x.fetching then x.usedAt else d.q }).countRae 9 1
    let d := if q.fetching then d else d.countRae 11 1
    let d := d.onRae fun r => { r with parkPeak := max r.parkPeak (total + 1) }
    if total + 1 = 1024 then d.raise 0x122 else d

/-- The first valid packet brings a passive connection to READY (R156). -/
def Dev.firstPacket (d : Dev) (q : Qp) : Dev :=
  if q.state = .connecting ∧ q.passive then d.onQp q.num fun x => { x with state := .ready, cmAt := none } else d

/-- An in-order request packet takes its PSNs; `f` acts on it. -/
def Dev.inOrder (d : Dev) (q : Qp) (psn packets : Nat) (f : Dev → Qp → Dev) : Dev :=
  let d := d.onQp q.num fun x => { x with expected := (psn + packets) % 2 ^ 24, nakSent := false, usedAt := d.q }
  f d { q with state := .ready }

/-- A request packet whose context is on chip (R160): in order it acts; before the expected PSN it is a duplicate, `dup`; after
it, one sequence NAK per gap. -/
def Dev.bySequence (d : Dev) (q : Qp) (psn packets : Nat) (f : Dev → Qp → Dev) (dup : Dev → Qp → Dev) : Dev :=
  let a := psnAhead q.expected psn
  if a = 0 then d.inOrder q psn packets f
  else if 2 ^ 23 ≤ a then dup (d.countRae 8 1) q
  else if q.nakSent then d
  else ((d.onQp q.num fun x => { x with nakSent := true }).emit (.roce q.num (.nakSequence q.expected))).countRae 5 1

/-- What every received request packet goes through before its operation (R152, R154, R156, R161, R181): the ICRC, an open
QP that is not in ERROR, a livery that is served (R219), and its context on chip. `c` is the packet's own command, kept when it parks. -/
def Dev.roceIn (d : Dev) (h : RoceHdr) (c : Instr) (f : Dev → Qp → Dev) : Dev :=
  if !(d.flag Reg.raeCtl 0) then d.countRae 13 1
  else if !h.icrcOk then d.countRae 2 1
  else
    let d := d.countRae 0 1
    match d.qp? h.qp with
    | none => d.roceDrop
    | some q =>
      let st := match q.livery.bind d.livery? with | some l => l.state | none => LiveryState.service
      if q.state = .error then d.countRae 13 1
      else if st == .deleting then d
      else if (st != .service && st != .freezing) || (q.freezeDrop && q.admitted.isNone) then d.countLivery (q.livery.getD noLivery) 5 1
      else
        let d := (d.noteCe q h.ce).firstPacket q
        if !q.resident ∨ !q.parked.isEmpty then d.park q h.psn c
        else f d ((d.qp? h.qp).getD q)

/-! ## Inkwells (R166 to R172) -/

/-- Pages of Inkwell space that are free: in no Inkwell, not waiting for a drain, and not a landing page. -/
def Dev.freePages (d : Dev) : List Nat :=
  let used := (d.rae.inks.flatMap Inkwell.pages) ++ (d.rae.releasing.flatMap Prod.snd) ++ d.rae.landing
  (List.range d.inkPages).filter fun p => !(used.contains p)

/-- The next Inkwell index: a fresh one, then the longest free (R171). -/
def Dev.takeInk (d : Dev) : Option (Nat × Dev) :=
  if d.rae.freshInk < 65536 then some (d.rae.freshInk, d.onRae fun r => { r with freshInk := r.freshInk + 1 })
  else match d.rae.freeInks with
    | n :: t => some (n, d.onRae fun r => { r with freeInks := t })
    | [] => none

/-- INK_SPACE_LOW when free pages fall below 1/16 of the space (R166). -/
def Dev.noteSpace (d : Dev) : Dev := if 16 * d.freePages.length < d.inkPages then d.raise 0x126 else d

/-- The object that an Inkwell's target names, in a livery. -/
def Dev.inkTarget (d : Dev) (livery t : Nat) : Option Obj :=
  match d.obj? (t % 2 ^ 31) with
  | some o => if o.livery = livery ∧ (o.kind = .ns) = (bit t 31) then some o else none
  | none => none

/-- INK_REGISTER. -/
def Dev.runInkRegister (d : Dev) (c : Cmd) : Dev :=
  let p := c.pkt.params
  let v := clampParam p 0 0 64 65536 (2 ^ 32)
  let size := ceilDiv v.1 65536 * 65536
  let clamps := reclamp p 0 64 v.2 3 size ++ reservedParam p 8 2 6
  let t := c.par 12 4
  match d.inkTarget c.livery t with
  | none => d.rangeFault c 12
  | some o =>
    if bit t 31 ∧ o.blocks ≤ c.par 16 8 then d.rangeFault c 16
    else if d.freePages.length < size / 65536 then (d.raise 0x127).fail c 0x800B 0x0100
    else match d.takeInk with
      | none => (d.raise 0x127).fail c 0x800B 0x0101
      | some n =>
        let k : Inkwell :=
          { index := n.1, livery := c.livery, pages := d.freePages.take (size / 65536), rights := c.par 8 1 % 4, isNs := bit t 31,
            target := t % 2 ^ 31, firstBlock := c.par 16 8, lastImm := 0, immCount := 0, revoking := none, revokeCmd := none, placedAfter := 0,
            cutCount := 0, reissue := false }
        let d := (n.2.onRae fun r => { r with inks := r.inks ++ [k] }).noteSpace
        d.doneClamped c (leBytes 4 (n.1 * 256 + d.tagOf n.1) ++ leBytes 4 0) clamps

/-- INK_QUERY. -/
def Dev.runInkQuery (d : Dev) (c : Cmd) : Dev :=
  match (d.inkOf (c.par 0 3)).filter fun k => k.livery == c.livery with
  | none => d.rangeFault c 0
  | some k =>
    d.done c (leBytes 4 (k.index * 256 + d.tagOf k.index) ++ leBytes 1 k.rights ++ leBytes 1 (if k.revoking.isSome then 2 else 1) ++ leBytes 2 0
      ++ leBytes 8 k.size ++ leBytes 4 (k.target + b2n k.isNs * 2 ^ 31) ++ leBytes 4 k.lastImm.toNat ++ leBytes 8 k.immCount)

/-- INK_REVOKE (R168, R169, R172): the tag advances now; the reply follows the last message admitted by now. -/
def Dev.runInkRevoke (d : Dev) (c : Cmd) : Dev :=
  match (d.inkAt (c.par 0 4)).filter fun k => k.livery == c.livery && k.revoking.isNone with
  | none => d.rangeFault c 0
  | some k =>
    let cut := d.q + quantaMs (max 1 (d.fld Reg.inkRevokeWait 0 16))
    let d := (d.advanceTag k.index).onRae fun r =>
      { r with qps := r.qps.map fun q => match q.admitted with
        | some a => if a.ink = k.index then { q with admitted := some { a with cutAt := some cut } } else q
        | none => q }
    let d := d.onCmd c.id fun c => { c with phase := .running, aux := clampsToNats (reservedParam c.pkt.params 4 1 7) }
    (d.onInk k.index fun k =>
      { k with revoking := some (d.q, cut), revokeCmd := some c.id, placedAfter := 0, cutCount := 0, reissue := bit (c.par 4 1) 0 }).revokeProgress k.index

/-- The messages of a pending revocation whose wait is over are cut (R170). -/
def Dev.cutMessages (d : Dev) (i : Nat) : Dev :=
  let l := d.admittedTo i
  let d := (d.onRae fun r => { r with qps := r.qps.map fun q => match q.admitted with
    | some a => if a.ink = i ∧ a.cutAt.isSome then { q with admitted := some { a with cut := true } } else q
    | none => q }).countRae 18 l.length
  let d := d.when (!l.isEmpty) fun d => d.raise 0x125
  (d.onInk i fun k => { k with cutCount := k.cutCount + l.length }).revokeProgress i

/-! ## Requester queues (R173, R178, R179) -/

/-- Requester queues held. -/
def Dev.rqCount (d : Dev) : Nat := (d.rae.qps.filter fun q => q.rq.isSome).length

/-- The link rate of a QP in Mb/s, at which its send rate starts (R161). -/
def Dev.linkMbps (d : Dev) (qp : Nat) : Nat := 1000 * max 1 (d.port (Config.egressLink qp % 96 / 8)).rate

/-- A requester queue on a QP. -/
def Dev.attachRq (d : Dev) (n kind depth prio : Nat) (active : Bool) : Dev :=
  d.onQp n fun q =>
    { q with rq := some ⟨kind, depth, prio, active, 0, 0, 0, [], 0, 0, none, d.linkMbps n, none, none⟩ }

/-- RQ_CREATE. -/
def Dev.runRqCreate (d : Dev) (c : Cmd) : Dev :=
  let p := c.pkt.params
  let mode := if 1 < c.par 0 1 then 1 else c.par 0 1
  let kind := if 1 < c.par 1 1 then 0 else c.par 1 1
  let depth := clampParam p 2 0 8 4 12
  let prio := clampParam p 3 0 8 0 7
  let port := clampParam p 8 0 16 1 65535
  let clamps := replaceParam p 0 0 8 3 mode ++ replaceParam p 1 0 8 3 kind ++ depth.2 ++ prio.2
    ++ (if mode = 1 then port.2 else []) ++ reservedParam p 10 1 7
  if mode = 0 then
    match (d.qp? (c.par 4 4)).filter fun q => !q.nvme && q.livery == some c.livery && q.state == .ready && q.rq.isNone with
    | none => d.rangeFault c 4
    | some q =>
      if 16384 ≤ d.rqCount then d.fail c 0x800B 0x0102
      else (d.attachRq q.num kind depth.1 prio.1 false).doneClamped c (leBytes 4 q.num ++ leBytes 4 0) clamps
  else if 16384 ≤ d.rqCount then d.fail c 0x800B 0x0102
  else match d.openQp (some c.livery) false false false (c.pkt.pid % 2 ^ 20) 0 0 0 (d.fld Reg.raeRetry 0 5) with
    | none => d.fail c 0x800B 0x0103
    | some n =>
      let d := n.2.attachRq n.1 kind depth.1 prio.1 true
      let wait := d.inUs (4096 * 2 ^ 20 / 1000)
      let d := d.onQp n.1 fun q => { q with createCmd := some c.id, cmAt := some wait }
      (d.onCmd c.id fun c => { c with phase := .running, aux := clampsToNats clamps }).emit (.cm n.1 (.req 0))

/-- The QP of an open requester queue that a command of its livery names in bytes 0 to 3. -/
def Dev.rqOf (d : Dev) (c : Cmd) : Option Qp :=
  (d.qp? (c.par 0 4)).filter fun q => q.livery == some c.livery && (match q.rq with | some r => r.ending.isNone | none => false)

/-- RQ_DESTROY: the queue ends; with mode 1 its QP closes too. -/
def Dev.runRqDestroy (d : Dev) (c : Cmd) : Dev :=
  match d.rqOf c with
  | none => d.rangeFault c 0
  | some q =>
    let active := match q.rq with | some r => r.active | none => false
    let d := (d.endRq q.num 4).onQp q.num fun q => { q with rq := none, closeAfter := q.closeAfter || active }
    (if active then d.emit (.cm q.num .dreq) else d).done c []

/-- RQ_FLUSH: a flush is posted; the reply follows its completion. -/
def Dev.runRqFlush (d : Dev) (c : Cmd) : Dev :=
  match d.rqOf c with
  | none => d.rangeFault c 0
  | some q =>
    if d.rqRoom q.num then (d.onCmd c.id fun c => { c with phase := .running }).postFlush q.num none (some c.id)
    else d.fail c 0x800B 0x0104

/-- What a completed work request does for the one that it serves (R176, R177): a read, or an RQ_FLUSH. -/
def Dev.workDone (d : Dev) (qp : Nat) (w : WorkReq) : Dev :=
  let d := d.readWork w
  match w.op, w.cmd.bind d.cmd? with
  | .flush _, some c => if c.op = 0x0305 then d.done c (leBytes 4 ((d.rq? qp).map ReqQueue.done |>.getD 0) ++ leBytes 4 0) else d
  | _, _ => d

/-- An acknowledgement completes the `n` oldest requests that it can (R176). -/
def Dev.rqAcked (d : Dev) (qp n : Nat) : Dev :=
  match d.rq? qp with
  | none => d
  | some r =>
    let p := splitAcked r n r.reqs
    let d := d.completeWork qp p.1 p.2
    d.forEach p.1 fun d w => d.workDone qp w

/-- A Placement Flush reply completes the flush that it names (R177). -/
def Dev.flushReplied (d : Dev) (qp number : Nat) : Dev :=
  match d.rq? qp with
  | none => d
  | some r =>
    let hit (w : WorkReq) : Bool := w.started && r.byReply w && (match w.op with | .flush n => n == number | _ => false)
    let gone := r.reqs.filter hit
    let d := d.completeWork qp gone (r.reqs.filter fun w => !(hit w))
    d.forEach gone fun d w => d.workDone qp w

/-- Go-back-N: every started request goes again (R179). -/
def Dev.retransmit (d : Dev) (qp : Nat) : Dev :=
  match d.rq? qp with
  | none => d
  | some r =>
    let l := r.reqs.filter WorkReq.started
    let d := d.onRq qp fun r => { r with reqs := r.reqs.map fun w => if w.started then { w with sentAt := d.q } else w }
    ((d.emitAll (l.map (r.output qp))).countRae 16 l.length).countRae 1 l.length

/-- The retry count is exhausted: the QP enters ERROR and the queue ends with detail 0x0001 (R156, R179). -/
def Dev.retryExceeded (d : Dev) (qp : Nat) : Dev := ((d.countRae 17 1).raise 0x128).qpError qp 1

/-- A retry after a timeout or a sequence NAK. -/
def Dev.retryOnce (d : Dev) (qp : Nat) : Dev :=
  match d.rq? qp with
  | none => d
  | some r =>
    if d.fld Reg.raeRetry 5 3 ≤ r.retries then d.retryExceeded qp
    else (d.onRq qp fun r => { r with retries := r.retries + 1 }).retransmit qp

/-- The local acknowledgement timeout of a QP: 4.096 µs × 2^exponent, in quanta (R179). -/
def Qp.ackTimeout (q : Qp) : Nat := 16384 * 2 ^ q.ackExp / 5

/-- A livery's QPs, queues and Inkwells at its reset or removal; the completions that its requests in flight would have are discarded
and counted in GEN_DROP (R184, R218). -/
def Dev.resetRae (d : Dev) (livery : Nat) : Dev :=
  let flying := (d.rae.qps.map fun q => match q.rq with
    | some r => if q.livery = some livery then (r.reqs.filter WorkReq.started).length else 0
    | none => 0).sum
  let d := d.when (decide (0 < flying)) fun d => (d.countRae 19 flying).raise 0x157
  let d := d.forEach (d.rae.qps.filter fun q => q.livery == some livery) fun d q => (d.endRq q.num 4).qpError q.num 4
  d.forEach (d.rae.inks.filter fun k => k.livery == livery) fun d k => (d.advanceTag k.index).releaseInk k.index

end Sys2Proof.Machine
end

