-- ==== Sys2Proof/Machine/Unmap.lean ====
section
/-! DEFINITION. Deallocation (R192, R244, R254): logical stripes become UNMAPPED by a MAP_COMMIT, and their physical stripes are
FREE once the drives have deallocated them in TRIM windows. -/

namespace Sys2Proof.Machine

/-- The mapped logical stripes of an object, in ascending order. -/
def Dev.mappedStripes (d : Dev) (object : Nat) : List Nat :=
  (d.lay.map.filter fun e => e.1 / 2 ^ 46 == object && e.2.state != .unmapped).map fun e => e.1 % 2 ^ 46

/-- A logical stripe's entry is to become UNMAPPED: the change is logged (DEDUCED: assumption log, entry 27). The number is the RSN. -/
def Dev.logUnmap (d : Dev) (object lstripe : Nat) : Dev × Nat :=
  let e := d.entry object lstripe
  let q := d.takeSeq
  q.1.append (.mapCommit q.2 0 0 0 ((e.mgen + 1) % 2 ^ 18) lstripe object e.psi true none 0 false)

/-- The strips of a physical stripe are deallocated on their drives in TRIM windows; a stripe without one is FREE at once. -/
def Dev.trimStripe (d : Dev) (psi : Nat) : Dev :=
  let places := (List.range d.geo.w).filterMap fun i => d.writePlace psi i
  if places.isEmpty then d.setPhys psi 0
  else d.forEach places fun d p => d.submit' p.1 .deallocate p.2 d.geo.b 5 (.trim psi)

/-- The entry that a logged deallocation names becomes UNMAPPED, keeping its map generation's advance (R244). -/
def Dev.applyUnmap (d : Dev) (rsn : Nat) : Dev :=
  match d.record? rsn with
  | none => d
  | some r =>
    match r.body with
    | .mapCommit _ _ _ _ mgen ls object old _ _ _ _ =>
      let d := (d.setEntry object ls ⟨0, 0, .unmapped, mgen⟩).markApplied rsn
      let d := match d.mapSegment object ls with | some g => d.dirty g | none => d
      (d.setPhys old 1).trimStripe old
    | _ => d

/-- Deallocations of several logical stripes of an object are logged: the RSNs. -/
def Dev.logUnmaps (d : Dev) (object : Nat) (l : List Nat) : Dev × List Nat :=
  l.foldl (fun (acc : Dev × List Nat) ls =>
    let r := acc.1.logUnmap object ls
    (r.1, acc.2 ++ [r.2])) (d, [])

/-- Whether every record of a list is home-acknowledged. -/
def Dev.allAcked (d : Dev) (l : List Nat) : Bool := l.all d.homeAcked

/-- Logged deallocations come in force. -/
def Dev.applyUnmaps (d : Dev) (l : List Nat) : Dev := d.forEach l fun d r => d.applyUnmap r

end Sys2Proof.Machine
end

