-- ==== Sys2Proof/Machine/Hqe.lean ====
section
/-! DEFINITION. The host queue engine (R187 to R203): controllers and queues, completions, queue reset, notices, reservations, and
what the admin commands report. Layouts that the manual leaves to the NVMe specifications (R187) follow the NVMe Base
Specification 2.0 and NVMe over Fabrics 1.1 (PRESUMED: assumption log, entry 28). -/

namespace Sys2Proof.Machine

/-! ## Queues and controllers by number -/

/-- A counter of the HQE. -/
def Dev.countHqe (d : Dev) (item n : Nat) : Dev := d.bump 0x22 0 item n

/-- The status field of a completion: SC in bits 7 to 0, SCT in bits 10 to 8, DNR in bit 14. -/
def nvmeStatus (sct sc : Nat) (dnr : Bool) : Nat := sc + 2 ^ 8 * sct + 2 ^ 14 * b2n dnr

/-- Command Sequence Error. -/
abbrev sequenceError : Nat := nvmeStatus 0 0x0C false

/-- Invalid Command Opcode (R192). -/
abbrev invalidOpcode : Nat := nvmeStatus 0 0x01 false

/-- Invalid Field in Command. -/
abbrev invalidField : Nat := nvmeStatus 0 0x02 true

/-- Invalid Namespace or Format. -/
abbrev invalidNamespace : Nat := nvmeStatus 0 0x0B true

/-- Reservation Conflict (R194). -/
abbrev reservationConflict : Nat := nvmeStatus 0 0x83 true

/-- The queue that a QP carries. -/
def Dev.nvmeQueue? (d : Dev) (qp : Nat) : Option NvmeQueue := findAt NvmeQueue.qp qp d.hqe.queues

/-- A controller by number. -/
def Dev.controller? (d : Dev) (n : Nat) : Option Controller := findAt Controller.cntlid n d.hqe.controllers

/-- `f` applied to controller `n`. -/
def Dev.onController (d : Dev) (n : Nat) (f : Controller → Controller) : Dev :=
  d.onHqe fun h => { h with controllers := modifyAt Controller.cntlid n f h.controllers }

/-- The controller of a QP's queue. -/
def Dev.controllerOf (d : Dev) (qp : Nat) : Option Controller := (d.nvmeQueue? qp).bind fun q => d.controller? q.cntlid

/-- The number by which a waiting command stands in the drain ladder. -/
def nvmeWho (qp cid : Nat) : Nat := 2 ^ 40 + qp * 65536 + cid

/-- A command in progress. -/
def Dev.nvme? (d : Dev) (qp cid : Nat) : Option NvmeCmd := d.hqe.cmds.find? fun c => c.qp == qp && c.cid == cid

/-- `f` applied to a command in progress. -/
def Dev.onNvme (d : Dev) (qp cid : Nat) (f : NvmeCmd → NvmeCmd) : Dev :=
  d.onHqe fun h => { h with cmds := h.cmds.map fun c => if c.qp = qp ∧ c.cid = cid then f c else c }

/-- KATO as it is applied (R200): the default for 0, rounded up to 100 ms, from 1,000 to 600,000 ms. -/
def Dev.applyKato (d : Dev) (ms : Nat) : Nat :=
  clampNat 1000 600000 (ceilDiv (if ms = 0 then d.fld Reg.hqeKato 0 20 else ms) 100 * 100)

/-- The namespaces of a livery by object number: namespaces, and exported takes (R252). -/
def Dev.namespacesOf (d : Dev) (livery : Nat) : List Obj :=
  d.lay.objects.filter fun o => o.livery == livery && (o.kind == .ns || o.kind == .exported)

/-- The namespace of a livery that an NSID names (R250). -/
def Dev.namespace? (d : Dev) (livery nsid : Nat) : Option Obj :=
  if nsid = 0 then none else (d.namespacesOf livery).find? fun o => o.num + 1 == nsid

/-- The ANA state of every group through this module (R202): 1 Optimized, 3 Inaccessible, 0x0F Transition. -/
def Dev.anaState (d : Dev) : Nat :=
  if d.fov.role = .takeover ∨ d.fov.role = .handover ∨ (d.fov.role = .standby ∧ d.fov.partnerRole = 5) then 0x0F
  else if d.isActive then 1 else 3

/-! ## Completions -/

/-- A completion goes to the host (COMPLETIONS_TX). -/
def Dev.sendCompletion (d : Dev) (qp cid status result : Nat) (data : List Byte) : Dev :=
  (d.emit (.completion qp cid status result data)).countHqe 1 1

/-- A completion of a command that livery `l` accepted under generation `g` (R194, R218). -/
def Dev.completeUnder (d : Dev) (l g qp cid status result : Nat) (data : List Byte) : Dev :=
  if d.generation l ≠ g then (d.countHqe 2 1).raise 0x157 else d.sendCompletion qp cid status result data

/-- The livery of a QP's controller. -/
def Dev.liveryOfQp (d : Dev) (qp : Nat) : Nat := match d.controllerOf qp with | some k => k.livery | none => noLivery

/-- The resources that a command holds are free: its landing pages, its pull and its capsule buffer. -/
def Dev.releaseNvme (d : Dev) (c : NvmeCmd) : Dev :=
  let who := nvmeWho c.qp c.cid
  let d := d.onRae fun r => { r with landing := r.landing.filter fun p => !(c.landing.contains p) }
  let d := (((d.release 6 c.landing.length).release 12 (b2n c.pull)).release 11 (b2n c.buffer))
  ((d.endWait 6 who).endWait 12 who).endWait 11 who |>.endWait 5 who

/-- A command is over: its completion is sent unless its queue was reset (R199) or its generation is past (R194). -/
def Dev.endNvme (d : Dev) (c : NvmeCmd) (status result : Nat) (data : List Byte) : Dev :=
  let livery := d.liveryOfQp c.qp
  let d := (d.releaseNvme c).onHqe fun h => { h with cmds := h.cmds.filter fun x => !(x.qp == c.qp && x.cid == c.cid && x.sqSeq == c.sqSeq) }
  if c.dropped then d
  else
    let d := d.completeUnder livery c.generation c.qp c.cid status result data
    let d := d.sampleUs 8 livery c.at_
    if c.op = 2 then d.sampleUs 7 livery c.at_ else d

/-- A command of a fused pair ends; when it fails, the other one ends with Failed Fused Command (R195). -/
def Dev.endFused (d : Dev) (c : NvmeCmd) (status result : Nat) (data : List Byte) : Dev :=
  let d := d.endNvme c status result data
  let other := d.hqe.cmds.find? fun x => x.qp == c.qp && c.fuse == 1 && x.fuse == 2 && x.sqSeq == c.sqSeq + 1
  match (if status % 2 ^ 11 = 0 then none else other) with
  | some x => d.endNvme x (nvmeStatus 0 0x09 false) 0 []
  | none => d

/-! ## Notices (R192, R203) -/

/-- A controller takes a notice, unless it is masked or already waits. -/
def Controller.notice (k : Controller) (n : Nat) : Controller :=
  if n ∈ k.pendingNotice then k else { k with pendingNotice := k.pendingNotice ++ [n] }

/-- The notices of a controller complete its oldest Asynchronous Event Requests, one each. -/
def Dev.sendNotices (d : Dev) (n : Nat) : Dev :=
  match d.controller? n with
  | none => d
  | some k =>
    let aers := d.hqe.cmds.filter fun c => c.op == 0x10C && (match d.nvmeQueue? c.qp with | some q => q.cntlid == n | none => false)
    let pairs := k.pendingNotice.zip aers
    let d := d.onController n fun k => { k with pendingNotice := k.pendingNotice.drop pairs.length }
    d.forEach pairs fun d p => d.endNvme p.2 0 p.1 []

/-- A notice to every controller that `p` picks. -/
def Dev.noticeAll (d : Dev) (p : Controller → Bool) (n : Nat) : Dev :=
  d.forEach (d.hqe.controllers.filter p) fun d k => (d.onController k.cntlid fun k => k.notice n).sendNotices k.cntlid

/-- Namespace attribute changed: type 2, information 0, log page 0x04. -/
abbrev noticeNamespace : Nat := 0x040002

/-- Asymmetric namespace access change: type 2, information 3, log page 0x0C. -/
abbrev noticeAna : Nat := 0x0C0302

/-- Reservation log page available: type 6, log page 0x80. -/
abbrev noticeReservation : Nat := 0x800006

/-- A namespace of a livery appeared, changed or is gone: its controllers list it (log page 0x04) and are told when they asked for
the notice. -/
def Dev.namespaceChanged (d : Dev) (livery num : Nat) : Dev :=
  let d := d.onHqe fun h => { h with controllers := h.controllers.map fun k =>
    if k.livery = livery ∧ !(k.changedNs.contains (num + 1)) then { k with changedNs := k.changedNs ++ [num + 1] } else k }
  d.noticeAll (fun k => k.livery == livery && bit k.aerConfig.toNat 8) noticeNamespace

/-- The namespaces as hosts would see them: number and livery, with the kind folded in. -/
def Dev.nsView (d : Dev) : List (Nat × Nat) :=
  (d.lay.objects.filter fun o => o.kind == .ns || o.kind == .exported).map fun o => (o.num, o.livery)

/-- Hosts are told of the namespaces that changed since they were last told (R254), and of a change of the ANA state (R203). -/
def Dev.tellHosts (d : Dev) : Dev :=
  let now := d.nsView
  let old := d.hqe.nsSeen
  let changed := (now.filter fun x => !(old.contains x)) ++ (old.filter fun x => !(now.contains x))
  let d := if changed.isEmpty then d else d.forEach changed fun d x => d.namespaceChanged x.2 x.1
  let d := d.onHqe fun h => { h with nsSeen := now }
  if d.hqe.anaSeen = d.anaState then d
  else
    let d := d.onHqe fun h => { h with anaSeen := d.anaState, anaCount := h.anaCount + 1 }
    (d.noticeAll (fun k => !k.discovery) noticeAna).raise 0x144

/-! ## Queue reset (R199) -/

/-- Whether a command has been handed to Nib or has reads at the drives: it runs to its end internally. -/
def NvmeCmd.inside (c : NvmeCmd) : Bool := decide (6 ≤ c.stage)

/-- The commands of a queue at its reset: those inside run on without a completion, the others are dropped with their locks. -/
def Dev.dropCommands (d : Dev) (qp : Nat) : Dev :=
  let mine := d.hqe.cmds.filter fun c => c.qp == qp
  let d := d.onHqe fun h => { h with cmds := h.cmds.map fun c => if c.qp = qp then { c with dropped := true } else c }
  d.forEach mine fun d c =>
    if c.inside then d
    else
      let d := match c.lock with | some l => d.releaseLock l | none => d
      d.endNvme { c with dropped := true } 0 0 []

/-- A queue is reset and forgotten. -/
def Dev.resetQueue (d : Dev) (qp : Nat) : Dev := (d.dropCommands qp).onHqe fun h => { h with queues := dropAt NvmeQueue.qp qp h.queues }

/-- QUEUE_RESET (R199): counted and raised once for each reset. -/
def Dev.countReset (d : Dev) : Dev := (d.countHqe 5 1).raise 0x143

/-- An I/O queue is reset. -/
def Dev.resetIoQueue (d : Dev) (qp : Nat) : Dev := (d.resetQueue qp).countReset

/-- A controller is reset: every command of it, its I/O queues and its queue grant. -/
def Dev.resetController (d : Dev) (n : Nat) : Dev :=
  let qs := d.hqe.queues.filter fun q => q.cntlid == n
  let d := d.forEach qs fun d q => if q.qid = 0 then d.dropCommands q.qp else d.resetQueue q.qp
  (d.onController n fun k => { k with csts := 0, ioQueues := 0 }).countReset

/-- A controller ends: it is reset, and it and its admin queue are gone. -/
def Dev.endController (d : Dev) (n : Nat) : Dev :=
  let d := d.resetController n
  let d := d.forEach (d.hqe.queues.filter fun q => q.cntlid == n) fun d q => d.resetQueue q.qp
  d.onHqe fun h => { h with controllers := dropAt Controller.cntlid n h.controllers }

/-- Queues whose QP is gone or in ERROR are reset (R199): an admin queue takes its controller with it. -/
def Dev.resetLost (d : Dev) : Dev :=
  let lost := d.hqe.queues.filter fun q => match d.qp? q.qp with | some p => p.state == .error | none => true
  d.forEach lost fun d q =>
    if (d.nvmeQueue? q.qp).isNone then d
    else if q.qid = 0 then d.endController q.cntlid else d.resetIoQueue q.qp

/-- Every controller of a livery ends (R199, R224). -/
def Dev.resetHqe (d : Dev) (livery : Nat) : Dev := d.forEach (d.hqe.controllers.filter fun k => k.livery == livery) fun d k => d.endController k.cntlid

/-! ## Capsules arrive (R188, R191) -/

/-- The QP of a capsule, when it is an open NVMe-oF QP. -/
def Dev.nvmeQp? (d : Dev) (qp : Nat) : Option Qp := (d.qp? qp).filter fun q => q.nvme && q.state != .error

/-- What every capsule but a Connect goes through: its QP, CAPSULES_RX, and a queue that a Connect has made (R188). -/
def Dev.capsuleIn (d : Dev) (c : Capsule) (f : Dev → NvmeQueue → Controller → Dev) : Dev :=
  match d.nvmeQp? c.qp with
  | none => d
  | some q =>
    let d := (d.firstPacket q).countHqe 0 1
    match d.nvmeQueue? c.qp, d.controllerOf c.qp with
    | some n, some k => f d n k
    | _, _ => d.sendCompletion c.qp c.cid sequenceError 0 []

/-- A capsule that is complete at once. -/
def Dev.replyCapsule (d : Dev) (c : Capsule) (status result : Nat) (data : List Byte) : Dev :=
  (d.sendCompletion c.qp c.cid status result data).sample 8 (d.liveryOfQp c.qp) 0

/-- An admin command: one on an I/O queue has an opcode that is not served there. -/
def Dev.adminIn (d : Dev) (c : Capsule) (f : Dev → Controller → Dev) : Dev :=
  d.capsuleIn c fun d q k => if q.qid = 0 then f d k else d.replyCapsule c invalidOpcode 0 []

/-- A new command in progress of a queue; its overdue timer starts (R201). -/
def Dev.keepNvme (d : Dev) (c : Capsule) (op : Nat) (q : NvmeQueue) (fuse : Nat) : Dev :=
  let x : NvmeCmd :=
    { qp := c.qp, cid := c.cid, sqSeq := q.nextSeq, op := op, capsule := c, generation := d.generation (d.liveryOfQp c.qp), at_ := d.q,
      overdueAt := some (d.q + quantaMs (d.fld Reg.hqeCto 0 20)), fuse := fuse, buffer := false, pull := false, landing := [], stage := 0,
      waitsFor := [], dropped := false, lock := none, aux := [] }
  d.onHqe fun h =>
    { h with cmds := h.cmds ++ [x]
             queues := modifyAt NvmeQueue.qp c.qp (fun q => { q with nextSeq := q.nextSeq + 1 }) h.queues }

/-! ## Connect (R189, R190) -/

/-- The discovery NQN. -/
def discoveryNqn : List Byte := "nqn.2014-08.org.nvmexpress.discovery".toList.map fun c => BitVec.ofNat 8 c.toNat

/-- The binding entry of a host NQN (R193). -/
def Dev.bindingOf (d : Dev) (nqn : List Byte) : Option Binding :=
  (d.hqe.bindings.find? fun b => b.2.valid && b.2.nqn == nqn).map Prod.snd

/-- A Connect is refused: CONNECT_REJ, CONNECT_REJECT, and the completion. `iattr` is the offset of the attribute within the data. -/
def Dev.refuseConnect (d : Dev) (c : ConnectData) (status : Nat) (iattr : Option Nat) : Dev :=
  let result := match iattr with | some o => o + 2 ^ 16 | none => 0
  ((d.countHqe 3 1).raise 0x141).sendCompletion c.qp c.cid (nvmeStatus 1 status true) result []

/-- The lowest free controller number, from 1 to 4,096. -/
def Dev.freeCntlid (d : Dev) : Option Nat := freeKey Controller.cntlid d.hqe.controllers 4096 1

/-- A Connect succeeds: the QP takes the livery, and its queue belongs to controller `n`. -/
def Dev.joinQueue (d : Dev) (c : ConnectData) (livery n : Nat) : Dev :=
  let d := d.onQp c.qp fun q => { q with livery := some livery }
  let d := d.onHqe fun h => { h with queues := h.queues ++ [⟨c.qp, n, c.qid, c.sqsize + 1, 0, none⟩] }
  d.sendCompletion c.qp c.cid 0 n []

/-- A Connect after its checks 1 to 3 (R189). -/
def Dev.connectChecked (d : Dev) (c : ConnectData) (livery : Nat) : Dev :=
  if c.qid = 0 then
    if c.cntlid ≠ 0xFFFF then d.refuseConnect c 0x82 (some 16)
    else match d.freeCntlid with
      | none => d.refuseConnect c 0x81 none
      | some n =>
        let k : Controller :=
          { cntlid := n, livery := livery, generation := d.generation livery, hostNqn := c.hostNqn, hostId := c.hostId,
            discovery := c.subNqn == discoveryNqn, cc := 0, csts := 0, katoMs := d.applyKato c.katoMs, kaAt := d.q, ioQueues := 0,
            aerConfig := 0, resvMask := 0, pendingNotice := [], changedNs := [], resvLog := [], errors := 0 }
        (d.onHqe fun h => { h with controllers := h.controllers ++ [k] }).joinQueue c livery n
  else
    match (d.controller? c.cntlid).filter fun k => k.hostNqn == c.hostNqn && k.livery == livery with
    | none => d.refuseConnect c 0x82 (some 16)
    | some k =>
      if k.ioQueues < c.qid ∨ d.hqe.queues.any fun q => q.cntlid == k.cntlid && q.qid == c.qid then
        d.sendCompletion c.qp c.cid (nvmeStatus 1 0x82 true) 42 [] |>.countHqe 3 1 |>.raise 0x141
      else d.joinQueue c livery k.cntlid

/-- A Connect is checked in the order of R189. -/
def Dev.connect (d : Dev) (c : ConnectData) : Dev :=
  match d.nvmeQp? c.qp with
  | none => d
  | some q =>
    let d := (d.firstPacket q).countHqe 0 1
    let subsystem := d.lvy.liveries.find? fun l => l.name == c.subNqn
    if (d.nvmeQueue? c.qp).isSome then d.sendCompletion c.qp c.cid sequenceError 0 []
    else if !(d.flag Reg.hqeCtl 0) then d.refuseConnect c 0x81 none
    else if subsystem.isNone && c.subNqn != discoveryNqn then d.refuseConnect c 0x82 (some 256)
    else match d.bindingOf c.hostNqn with
      | none => (d.raise 0x148).refuseConnect c 0x84 none
      | some b => match d.mapPid b.pid, subsystem with
        | some m, some l => if m = l.num then d.connectChecked c m else d.refuseConnect c 0x84 none
        | some m, none => d.connectChecked c m
        | none, _ => d.refuseConnect c 0x84 none

/-! ## Properties (R192) -/

/-- CAP: MQES, contiguous queues, the NVM command set, MPSMIN 4 KiB (R190); the other bits are the implementation's. -/
def capValue : Nat := setBits (setBits (setBits (setBits (Config.property 0).toNat 0 16 1023) 16 1 1) 37 1 1) 48 4 0

/-- A property's value; `none` for an offset without one. -/
def Controller.property (k : Controller) (off : Nat) : Option Nat :=
  match off with
  | 0x00 => some capValue
  | 0x08 => some ((Config.property 8).toNat % 2 ^ 32)
  | 0x14 => some k.cc.toNat
  | 0x1C => some k.csts.toNat
  | _ => none

/-- Property Get: the attribute in dword 10, the offset in dword 11. -/
def Dev.propertyGet (d : Dev) (c : Capsule) : Dev :=
  d.capsuleIn c fun d _ k =>
    match k.property c.cdw11.toNat with
    | some v => d.replyCapsule c 0 (if bits c.cdw10.toNat 0 3 = 1 then v else v % 2 ^ 32) []
    | none => d.replyCapsule c invalidField 0 []

/-- Property Set: CC alone is written. CC.EN = 0 resets the controller (R199), CC.EN = 1 makes it ready. -/
def Dev.propertySet (d : Dev) (c : Capsule) : Dev :=
  d.capsuleIn c fun d _ k =>
    if c.cdw11.toNat ≠ 0x14 then d.replyCapsule c invalidField 0 []
    else
      let v := c.cdw12
      let d := d.onController k.cntlid fun k => { k with cc := v }
      let d := if bit v.toNat 0 then d.onController k.cntlid fun k => { k with csts := 1 } else d.resetController k.cntlid
      let d := if bits v.toNat 14 2 = 0 then d else d.onController k.cntlid fun k => { k with csts := BitVec.ofNat 32 (setBits k.csts.toNat 2 2 2) }
      d.replyCapsule c 0 0 []

/-! ## Identify (R190, R192) -/

/-- A byte string with fields laid over it. -/
def overlay (l : List Byte) (fields : List (Nat × Nat × Nat)) : List Byte :=
  fields.foldl (fun l f => l.take f.1 ++ leBytes f.2.1 f.2.2 ++ l.drop (f.1 + f.2.1)) l

/-- `n` bytes of an NVMe data structure as the implementation fills them. -/
def reportBase (page n : Nat) : List Byte := (List.range n).map fun i => Config.reportByte page i

/-- Identify Controller (CNS 0x01) with the limits of R190. -/
def Dev.identifyCtrl (d : Dev) (k : Controller) : List Byte :=
  let l := overlay (reportBase 0x101 4096)
    [(77, 1, 11), (78, 2, k.cntlid), (92, 4, 0x900), (111, 1, if k.discovery then 2 else 1), (256, 2, 8), (259, 1, 3), (320, 2, 1), (342, 1, 2),
     (344, 4, 256), (348, 4, 256), (514, 2, 1024), (516, 4, 4096), (520, 2, 0x2C), (522, 2, 0), (525, 1, 0), (1792, 4, 516)]
  let nqn := if k.discovery then discoveryNqn else match d.livery? k.livery with | some x => x.name | none => []
  l.take 768 ++ fit 256 nqn ++ l.drop 1024

/-- Identify Namespace (CNS 0x00): 4,096-byte blocks without metadata; zeros for an NSID without a namespace. -/
def Dev.identifyNs (d : Dev) (k : Controller) (nsid : Nat) : List Byte :=
  match d.namespace? k.livery nsid with
  | none => List.replicate 4096 0
  | some o => overlay (reportBase 0x100 4096)
      [(0, 8, o.size), (8, 8, o.size), (16, 8, o.size), (25, 1, 0), (26, 1, 0), (27, 1, 0), (28, 1, 0), (29, 1, 0), (31, 1, 0x7F), (92, 4, k.livery + 1),
       (99, 1, b2n (o.kind == .exported)), (128, 4, 12 * 2 ^ 16)]

/-- The namespace IDs of a livery above one, in ascending order. -/
def Dev.nsids (d : Dev) (livery above : Nat) : List Nat :=
  (List.mergeSort ((d.namespacesOf livery).map fun o => o.num + 1)).filter fun n => decide (above < n)

/-- The data of Identify; `none` for a CNS that is not served. -/
def Dev.identifyData (d : Dev) (k : Controller) (cns nsid : Nat) : Option (List Byte) :=
  match cns with
  | 0 => some (d.identifyNs k nsid)
  | 1 => some (d.identifyCtrl k)
  | 2 => some (fit 4096 ((d.nsids k.livery nsid).flatMap fun n => leBytes 4 n))
  | 3 => some (if (d.namespace? k.livery nsid).isSome then reportBase (0x103 + 2 ^ 16 * nsid) 4096 else List.replicate 4096 0)
  | _ => none

/-- Identify. -/
def Dev.identify (d : Dev) (c : Capsule) : Dev :=
  d.adminIn c fun d k =>
    match d.identifyData k (bits c.cdw10.toNat 0 8) c.nsid with
    | some l => d.replyCapsule c 0 0 l
    | none => d.replyCapsule c invalidField 0 []

/-! ## Features (R190, R192, R200) -/

/-- I/O queues granted to controllers (HQE_STATUS.IOQ). -/
def Dev.ioGranted (d : Dev) : Nat := (d.hqe.controllers.map Controller.ioQueues).sum

/-- The reservation state of a namespace. -/
def Dev.resv (d : Dev) (nsid : Nat) : Reservation := (d.hqe.resvs.find? fun r => r.nsid == nsid).getD ⟨nsid, 0, false, [], none, 0⟩

/-- The reservation state of a namespace replaced. -/
def Dev.setResv (d : Dev) (r : Reservation) : Dev := d.onHqe fun h => { h with resvs := (h.resvs.filter fun x => x.nsid != r.nsid) ++ [r] }

/-- Get Features. -/
def Dev.getFeatures (d : Dev) (c : Capsule) : Dev :=
  d.adminIn c fun d k =>
    match bits c.cdw10.toNat 0 8 with
    | 0x07 => d.replyCapsule c 0 (((k.ioQueues + 65535) % 65536) * 65537) []
    | 0x0B => d.replyCapsule c 0 k.aerConfig.toNat []
    | 0x0F => d.replyCapsule c 0 k.katoMs []
    | 0x81 => d.replyCapsule c 0 0 (leBytes 16 k.hostId)
    | 0x82 => d.replyCapsule c 0 k.resvMask.toNat []
    | 0x83 => if (d.namespace? k.livery c.nsid).isSome then d.replyCapsule c 0 (b2n (d.resv c.nsid).ptpl) [] else d.replyCapsule c invalidNamespace 0 []
    | _ => d.replyCapsule c invalidField 0 []

/-- Number of Queues (R190): the smaller of the request, MAX_IOQ and what is free; IOQ_LIMIT when that is fewer than asked. -/
def Dev.grantQueues (d : Dev) (c : Capsule) (k : Controller) : Dev :=
  let asked := max (bits c.cdw11.toNat 0 16) (bits c.cdw11.toNat 16 16) + 1
  let free := 16384 - (d.ioGranted - k.ioQueues)
  let n := min asked (min (max 1 (d.fld Reg.hqeLimits 0 8)) free)
  let d := d.onController k.cntlid fun k => { k with ioQueues := n }
  (if n < asked then d.raise 0x147 else d).replyCapsule c 0 (((n + 65535) % 65536) * 65537) []

/-- Set Features. -/
def Dev.setFeatures (d : Dev) (c : Capsule) : Dev :=
  d.adminIn c fun d k =>
    let set (f : Controller → Controller) : Dev := (d.onController k.cntlid f).replyCapsule c 0 0 []
    match bits c.cdw10.toNat 0 8 with
    | 0x07 => d.grantQueues c k
    | 0x0B => set fun k => { k with aerConfig := c.cdw11 }
    | 0x0F => set fun x => { x with katoMs := d.applyKato c.cdw11.toNat }
    | 0x81 => set fun k => { k with hostId := fieldAt c.data 0 16 }
    | 0x82 => set fun k => { k with resvMask := c.cdw11 }
    | 0x83 =>
      if (d.namespace? k.livery c.nsid).isSome then
        (d.setResv { d.resv c.nsid with ptpl := bit c.cdw11.toNat 0 }).replyCapsule c 0 0 []
      else d.replyCapsule c invalidNamespace 0 []
    | _ => d.replyCapsule c invalidField 0 []

/-! ## Log pages (R187, R192, R203) -/

/-- The admin and I/O opcodes that are served (R192). -/
def servedAdmin : List Nat := [0x02, 0x06, 0x08, 0x09, 0x0A, 0x0C, 0x0D, 0x18]

/-- The I/O opcodes that are served (R192). -/
def servedIo : List Nat := [0x00, 0x01, 0x02, 0x08, 0x09, 0x0D, 0x0E, 0x11, 0x15]

/-- Commands Supported and Effects: bit 0 of each served opcode's dword. -/
def effectsPage : List Byte :=
  ((List.range 256).flatMap fun i => leBytes 4 (b2n (servedAdmin.contains i))) ++ ((List.range 256).flatMap fun i => leBytes 4 (b2n (servedIo.contains i)))
    ++ List.replicate 2048 0

/-- Asymmetric Namespace Access: one group, that of the controller's livery (R202). -/
def Dev.anaPage (d : Dev) (k : Controller) : List Byte :=
  let ns := d.nsids k.livery 0
  leBytes 8 d.hqe.anaCount ++ leBytes 2 1 ++ leBytes 6 0
    ++ leBytes 4 (k.livery + 1) ++ leBytes 4 ns.length ++ leBytes 8 d.hqe.anaCount ++ leBytes 1 d.anaState ++ leBytes 15 0 ++ ns.flatMap fun n => leBytes 4 n

/-- Decimal digits of a number below 256. -/
def decimal (n : Nat) : List Byte :=
  (if n < 100 then [] else [hexDigit (n / 100)]) ++ (if n < 10 then [] else [hexDigit (n / 10 % 10)]) ++ [hexDigit (n % 10)]

/-- An own address as text: dotted decimal, or eight groups of hexadecimal digits. -/
def addressText (ipv6 : Bool) (a : Nat) : List Byte :=
  if ipv6 then
    (List.range 8).flatMap fun i => (if i = 0 then [] else [0x3A]) ++ (List.range 4).map fun j => hexDigit (bits a (112 - 16 * i + 12 - 4 * j) 4)
  else
    (List.range 4).flatMap fun i => (if i = 0 then [] else [0x2E]) ++ decimal (bits a (24 - 8 * i) 8)

/-- The own addresses with the host role (R187): valid entries of the own-address table of R133 without MGMT, as IPv6 mark and
address. -/
def Dev.hostAddresses (d : Dev) : List (Bool × Nat) :=
  (List.range 64).filterMap fun i =>
    let w := sget (fun _ => []) d.tpk.tables (2 * 65536 + i)
    let w0 := w.getD 0 0
    if bit w0 31 && !(bit w0 14) then
      some (bit w0 12, w.getD 2 0 + 2 ^ 32 * w.getD 3 0 + 2 ^ 64 * w.getD 4 0 + 2 ^ 96 * w.getD 5 0)
    else none

/-- A Discovery log entry: transport RDMA, an NVM subsystem, dynamic controllers. -/
def Dev.discoveryEntry (d : Dev) (nqn : List Byte) (a : Bool × Nat) : List Byte :=
  let port := d.fld Reg.raeCm 16 16
  let text := (List.range 5).filterMap fun i => if port < 10 ^ (4 - i) ∧ i < 4 then none else some (hexDigit (port / 10 ^ (4 - i) % 10))
  leBytes 1 1 ++ leBytes 1 (if a.1 then 2 else 1) ++ leBytes 1 2 ++ leBytes 1 0 ++ leBytes 2 0 ++ leBytes 2 0xFFFF ++ leBytes 2 32 ++ leBytes 22 0
    ++ fit 32 text ++ leBytes 192 0 ++ fit 256 nqn ++ fit 256 (addressText a.1 a.2) ++ leBytes 256 0

/-- The Discovery log page of a controller's livery. -/
def Dev.discoveryPage (d : Dev) (k : Controller) : List Byte :=
  let nqn := match d.livery? k.livery with | some l => l.name | none => []
  let es := if (d.livery? k.livery).isSome then d.hostAddresses.map (d.discoveryEntry nqn) else []
  leBytes 8 0 ++ leBytes 8 es.length ++ leBytes 1008 0 ++ es.flatten

/-- A log page's bytes; `none` for one that is not served. -/
def Dev.logPage (d : Dev) (k : Controller) (lid : Nat) : Option (List Byte) :=
  match lid with
  | 0x01 => some (overlay (reportBase 0x201 64) [(0, 8, k.errors)])
  | 0x02 => some (reportBase 0x202 512)
  | 0x03 => some (overlay (reportBase 0x203 512) [(0, 1, d.clk.runningBank + 1)])
  | 0x04 => some (fit 4096 (if 1024 < k.changedNs.length then leBytes 4 0xFFFFFFFF else k.changedNs.flatMap fun n => leBytes 4 n))
  | 0x05 => some effectsPage
  | 0x0C => some (d.anaPage k)
  | 0x70 => some (d.discoveryPage k)
  | 0x80 => some (match k.resvLog with
      | [] => List.replicate 64 0
      | e :: t => fit 64 (leBytes 8 (t.length + 1) ++ leBytes 1 e.1 ++ leBytes 1 t.length ++ leBytes 2 0 ++ leBytes 4 e.2))
  | _ => none

/-- Get Log Page: `NUMD` dwords from the offset on; the changed namespaces and a reservation notification are read once. -/
def Dev.getLogPage (d : Dev) (c : Capsule) : Dev :=
  d.adminIn c fun d k =>
    let lid := bits c.cdw10.toNat 0 8
    let n := 4 * (bits c.cdw10.toNat 16 16 + 2 ^ 16 * bits c.cdw11.toNat 0 16 + 1)
    let off := c.cdw12.toNat + 2 ^ 32 * c.cdw13.toNat
    match d.logPage k lid with
    | none => d.replyCapsule c (nvmeStatus 1 0x09 true) 0 []
    | some l =>
      let d := d.onController k.cntlid fun k =>
        if bit c.cdw10.toNat 15 then k
        else if lid = 4 then { k with changedNs := [] }
        else if lid = 0x80 then { k with resvLog := k.resvLog.drop 1 } else k
      d.replyCapsule c 0 0 ((l.drop off).take n)

/-! ## Other admin commands -/

/-- Keep Alive restarts the timer (R200). -/
def Dev.keepAlive (d : Dev) (c : Capsule) : Dev :=
  d.adminIn c fun d k => (d.onController k.cntlid fun k => { k with kaAt := d.q }).replyCapsule c 0 0 []

/-- An Asynchronous Event Request is held; a fifth is refused (R190). -/
def Dev.asyncRequest (d : Dev) (c : Capsule) : Dev :=
  d.adminIn c fun d k =>
    let held := (d.hqe.cmds.filter fun x => x.op == 0x10C && x.qp == c.qp).length
    if 4 ≤ held then d.replyCapsule c (nvmeStatus 1 0x05 false) 0 []
    else match d.nvmeQueue? c.qp with
      | some q => (d.keepNvme c 0x10C q 0).sendNotices k.cntlid
      | none => d

/-- Abort aborts nothing (R198). -/
def Dev.abort (d : Dev) (c : Capsule) : Dev := d.adminIn c fun d _ => (d.replyCapsule c 0 1 []).countHqe 6 1

/-- Namespace Management (R192, R203): create makes a namespace of the livery, delete does what NS_DELETE does; it completes when
the change is in force (R556). -/
def Dev.nsManagement (d : Dev) (c : Capsule) : Dev :=
  d.adminIn c fun d k =>
    let fail (st : Nat) : Dev := d.replyCapsule c st 0 []
    let q := (d.nvmeQueue? c.qp).getD ⟨0, 0, 0, 0, 0, none⟩
    let lb := max d.geo.lb 1
    if d.anaState ≠ 1 then (fail (nvmeStatus 3 (if d.anaState = 3 then 2 else 3) false)).countHqe 8 1
    else if bits c.cdw10.toNat 0 4 = 0 then
      let stripes := ceilDiv (clampNat 1 (2 ^ 52 - 1) (fieldAt c.data 0 8)) lb
      match d.objectFault stripes, d.freeObject with
      | none, some n =>
        let o : Obj :=
          { num := n, kind := .ns, livery := k.livery, blocks := stripes * lb, length := 0, accepted := 0, reserved := stripes, frames := [],
            ordinal := 0, chunks := [(freeChunks d.allRuns (chunksFor stripes), chunksFor stripes)] }
        ((d.keepNvme c 0x10D q 0).onNvme c.qp c.cid fun x => { x with stage := 8, aux := [0, n] }).change (.objCreate o) none
      | some 0x0121, _ => (d.raise 0x168).replyCapsule c (nvmeStatus 1 0x16 true) 0 []
      | _, _ => fail (nvmeStatus 1 0x15 true)
    else match d.namespace? k.livery c.nsid with
      | none => fail invalidNamespace
      | some o =>
        if o.kind = .exported then
          ((d.keepNvme c 0x10D q 0).onNvme c.qp c.cid fun x => { x with stage := 8, aux := [2, o.num] }).change (.objKind o.num .closedTake 0) none
        else
          let d := d.keepNvme c 0x10D q 0
          let r := d.logUnmaps o.num (d.mappedStripes o.num)
          r.1.onNvme c.qp c.cid fun x => { x with stage := 9, aux := o.num :: r.2 }

/-! ## Reservations (R192) -/

/-- Whether a host is a registrant. -/
def Reservation.registered (r : Reservation) (host : Nat) : Bool := r.registrants.any fun x => x.1 == host

/-- Whether a host holds the reservation: for the all-registrants types every registrant does. -/
def Reservation.holds (r : Reservation) (host : Nat) : Bool :=
  if r.rtype = 5 ∨ r.rtype = 6 then r.registered host else r.holder == some host

/-- Whether a reservation forbids a host to write or to read. -/
def Reservation.forbids (r : Reservation) (host : Nat) (write : Bool) : Bool :=
  decide (r.rtype ≠ 0) && !(r.holds host) && !(decide (3 ≤ r.rtype) && r.registered host)
    && (write || r.rtype == 2 || r.rtype == 4 || r.rtype == 6)

/-- The reservation of a namespace is released. -/
def Reservation.release (r : Reservation) : Reservation := { r with holder := none, rtype := 0 }

/-- The key of a registrant. -/
def Reservation.keyOf (r : Reservation) (host : Nat) : Option Nat := (r.registrants.find? fun x => x.1 == host).map Prod.snd

/-- A reservation notification (type 1 registration preempted, 2 reservation released, 3 reservation preempted) to the other
hosts that are registered, by their masks. -/
def Dev.notifyResv (d : Dev) (hosts : List Nat) (livery type nsid : Nat) : Dev :=
  let p (k : Controller) : Bool := k.livery == livery && hosts.contains k.hostId && !(bit k.resvMask.toNat type) && !k.discovery
  let d := d.onHqe fun h => { h with controllers := h.controllers.map fun k => if p k then { k with resvLog := k.resvLog ++ [(type, nsid)] } else k }
  d.noticeAll p noticeReservation

/-- Reservation Register: dword 10 gives the action in bits 2 to 0, IEKEY in bit 3 and the change of PTPL in bits 31 to 30. -/
def Dev.resvRegister (d : Dev) (k : Controller) (c : Capsule) : Dev × Nat :=
  let r := d.resv c.nsid
  let cr := fieldAt c.data 0 8
  let nr := fieldAt c.data 8 8
  let ok := bit c.cdw10.toNat 3 || r.keyOf k.hostId == some cr
  let r := match bits c.cdw10.toNat 30 2 with | 2 => { r with ptpl := false } | 3 => { r with ptpl := true } | _ => r
  let others := r.registrants.filter fun x => x.1 != k.hostId
  match bits c.cdw10.toNat 0 3 with
  | 0 =>
    if r.registered k.hostId && r.keyOf k.hostId != some nr then (d, reservationConflict)
    else (d.setResv { r with registrants := others ++ [(k.hostId, nr)], generation := r.generation + 1 }, 0)
  | 1 =>
    if !(r.registered k.hostId) || !ok then (d, reservationConflict)
    else
      let left := r.holder == some k.hostId || (r.holds k.hostId && others.isEmpty)
      let r' := { (if left then r.release else r) with registrants := others, generation := r.generation + 1 }
      ((d.setResv r').when (left && decide (r.rtype ≠ 1) && decide (r.rtype ≠ 2)) fun d => d.notifyResv (others.map Prod.fst) k.livery 2 c.nsid, 0)
  | 2 =>
    if !(r.registered k.hostId && ok) && !(bit c.cdw10.toNat 3) then (d, reservationConflict)
    else (d.setResv { r with registrants := others ++ [(k.hostId, nr)], generation := r.generation + 1 }, 0)
  | _ => (d, invalidField)

/-- Reservation Acquire: the action in bits 2 to 0 of dword 10, IEKEY in bit 3, the type in bits 15 to 8. -/
def Dev.resvAcquire (d : Dev) (k : Controller) (c : Capsule) : Dev × Nat :=
  let r := d.resv c.nsid
  let cr := fieldAt c.data 0 8
  let pr := fieldAt c.data 8 8
  let t := bits c.cdw10.toNat 8 8
  if bit c.cdw10.toNat 3 ∨ t = 0 ∨ 6 < t then (d, invalidField)
  else if r.keyOf k.hostId ≠ some cr then (d, reservationConflict)
  else match bits c.cdw10.toNat 0 3 with
    | 0 =>
      if r.rtype = 0 then (d.setResv { r with holder := some k.hostId, rtype := t }, 0)
      else if r.holds k.hostId ∧ r.rtype = t then (d, 0)
      else (d, reservationConflict)
    | 1 | 2 =>
      let all := r.rtype == 5 || r.rtype == 6
      let gone (x : Nat × Nat) : Bool := x.1 != k.hostId && (x.2 == pr || (all && pr == 0))
      let lost := (r.registrants.filter gone).map Prod.fst
      let taken := (all && pr == 0) || (match r.holder with | some h => r.keyOf h == some pr | none => false)
      let r' := { r with registrants := r.registrants.filter fun x => !(gone x), generation := r.generation + 1 }
      let r' := if taken ∧ r.rtype ≠ 0 then { r' with holder := some k.hostId, rtype := t } else r'
      ((d.setResv r').notifyResv lost k.livery 1 c.nsid, 0)
    | _ => (d, invalidField)

/-- Reservation Release: the action in bits 2 to 0 of dword 10, IEKEY in bit 3, the type in bits 15 to 8. -/
def Dev.resvRelease (d : Dev) (k : Controller) (c : Capsule) : Dev × Nat :=
  let r := d.resv c.nsid
  let others := (r.registrants.filter fun x => x.1 != k.hostId).map Prod.fst
  if bit c.cdw10.toNat 3 then (d, invalidField)
  else if r.keyOf k.hostId ≠ some (fieldAt c.data 0 8) then (d, reservationConflict)
  else match bits c.cdw10.toNat 0 3 with
    | 0 =>
      if r.rtype = 0 ∨ !(r.holds k.hostId) then (d, 0)
      else if r.rtype ≠ bits c.cdw10.toNat 8 8 then (d, invalidField)
      else ((d.setResv r.release).when (decide (r.rtype ≠ 1) && decide (r.rtype ≠ 2)) fun d => d.notifyResv others k.livery 2 c.nsid, 0)
    | 1 => ((d.setResv { r.release with registrants := [], generation := r.generation + 1 }).notifyResv others k.livery 3 c.nsid, 0)
    | _ => (d, invalidField)

/-- The data of Reservation Report: the plain structure, or the extended one. -/
def Dev.resvReport (d : Dev) (k : Controller) (c : Capsule) : List Byte :=
  let r := d.resv c.nsid
  let ext := bit c.cdw11.toNat 0
  let id (h : Nat) : Nat := match d.hqe.controllers.find? fun x => x.hostId == h && x.livery == k.livery with | some x => x.cntlid | none => 0xFFFF
  let one (x : Nat × Nat) : List Byte :=
    if ext then leBytes 2 (id x.1) ++ leBytes 1 (b2n (r.holds x.1 && r.rtype != 0)) ++ leBytes 5 0 ++ leBytes 8 x.2 ++ leBytes 16 x.1 ++ leBytes 32 0
    else leBytes 2 (id x.1) ++ leBytes 1 (b2n (r.holds x.1 && r.rtype != 0)) ++ leBytes 5 0 ++ leBytes 8 x.1 ++ leBytes 8 x.2
  let l := leBytes 4 r.generation ++ leBytes 1 r.rtype ++ leBytes 2 r.registrants.length ++ leBytes 2 0 ++ leBytes 1 (b2n r.ptpl)
    ++ leBytes (if ext then 54 else 14) 0 ++ r.registrants.flatMap one
  l.take (4 * (c.cdw10.toNat + 1))

end Sys2Proof.Machine
end

