-- ==== Sys2Proof/Machine/HqeIo.lean ====
section
/-! DEFINITION. NVMe I/O (R191 to R197, R202): when a command may begin, Write and its pull, Read and its delivery, Flush, Write
Zeroes, Dataset Management, and the shelf power states that every drive command meets (R204 to R206). -/

namespace Sys2Proof.Machine

/-! ## Shelf power states (R204 to R206) -/

/-- The drives that take power-state commands. -/
def Dev.readyDrives (d : Dev) : List Nat := (d.drv.slots.filter fun s => s.drive == .ready).map Slot.num

/-- Set Features, Power Management, to every ready drive: an admin command each. -/
def Dev.setDrivePower (d : Dev) (code : Nat) : Dev := d.forEach d.readyDrives fun d k => d.admin k code

/-- Set Features, Power Management (feature 0x02) for the full state. -/
abbrev drivesFull : Nat := 0x20902

/-- The same for the lowest operational power state. -/
abbrev drivesLow : Nat := 0x10902

/-- The same for the non-operational power state. -/
abbrev drivesOff : Nat := 0x30902

/-- Whether power-state commands of `code` are outstanding. -/
def Dev.powerOut (d : Dev) (code : Nat) : Bool := d.drv.cmds.any fun c => c.purpose == .admin code

/-- The exit to P0 begins: the steps reached are reversed (R205). `slot` is the long operation that it ends. -/
def Dev.beginExit (d : Dev) (slot : Option Nat) : Dev :=
  let step := if d.hqe.pstate = 0 then d.hqe.pstep else if d.hqe.pstate = 2 then 4 else max 3 d.hqe.pstep
  let d := d.onHqe fun h => { h with pwaking := true, pslot := slot, pbegan := d.q, pstep := step }
  let d := if 3 ≤ step then d.forEach d.readyDrives fun d k => d.emit (.slotBus k 0x200) else d
  if 2 ≤ step then d.setDrivePower drivesFull else d

/-- An entry in progress ends at its step boundary and the shelf exits to P0 (R205, R206). -/
def Dev.cancelEntry (d : Dev) : Dev :=
  match d.powerEntry with
  | some l => if d.hqe.pwaking then d else (d.beginExit (some l.slot)).raise 0x146
  | none => if d.hqe.pstate = 2 ∧ !d.hqe.pwaking then d.beginExit none else d

/-- A command that needs a drive arrives: it wakes the shelf (R206). -/
def Dev.wakeShelf (d : Dev) : Dev := if d.shelfAsleep then (d.countHqe 12 1).cancelEntry else d

/-- The payload of POWER_STATE: the state in force, the state before, and the duration in µs. -/
def Dev.powerReply (d : Dev) (was : Nat) : List Byte := leBytes 1 d.hqe.pstate ++ leBytes 1 was ++ leBytes 2 0 ++ leBytes 4 (toUs (d.q - d.hqe.pbegan))

/-- The exit has run: P0 is in force, the entry that it ended finishes with detail 0x0303, and held submissions go. -/
def Dev.exitProgress (d : Dev) : Dev :=
  if !d.hqe.pwaking || d.powerOut drivesFull then d
  else
    let was := d.hqe.pstate
    let slot := d.hqe.pslot
    let d := d.onHqe fun h => { h with pstate := 0, pstep := 0, ptarget := 0, pwaking := false, pslot := none }
    let d := if was = 0 then d else d.raise 0x145
    match slot.bind d.longOp? with
    | some l => d.endLong l 0 0x0303 (d.powerReply was)
    | none => d

/-! ## Whether a command may begin (R195) -/

/-- Earlier commands of the same queue that are still in progress. -/
def Dev.earlierOf (d : Dev) (c : NvmeCmd) : List NvmeCmd := d.hqe.cmds.filter fun x => x.qp == c.qp && decide (x.sqSeq < c.sqSeq) && decide (x.op < 256)

/-- Whether the order of R195 lets a command begin: a fused first command after every earlier one, and only once its second has
arrived; nothing while an earlier fused command is in progress. -/
def Dev.inTurn (d : Dev) (c : NvmeCmd) : Bool :=
  let earlier := d.earlierOf c
  if c.fuse = 1 then earlier.isEmpty && d.hqe.cmds.any fun x => x.qp == c.qp && x.fuse == 2 && x.sqSeq == c.sqSeq + 1
  else !(earlier.any fun x => x.fuse != 0)

/-! ## Checks (R194, R202) -/

/-- The first block and the number of blocks of a Read, Write or Write Zeroes. -/
def NvmeCmd.extent (c : NvmeCmd) : Nat × Nat := (c.capsule.cdw10.toNat + 2 ^ 32 * c.capsule.cdw11.toNat, bits c.capsule.cdw12.toNat 0 16 + 1)

/-- Why an I/O command is refused: its status, and whether the path is not Optimized. The path comes first, then the livery,
the namespace, its range, its protection and its reservation (DEDUCED: assumption log, entry 29). -/
def Dev.ioFault (d : Dev) (c : NvmeCmd) (k : Controller) : Option Nat :=
  let write := c.op == 1 || c.op == 8 || c.op == 9
  let media := write || c.op == 2
  let frozen := match d.livery? k.livery with | some l => l.state != LiveryState.service | none => true
  if d.anaState = 3 then some (nvmeStatus 3 2 false)
  else if d.anaState ≠ 1 then some (nvmeStatus 3 3 false)
  else if frozen then some (nvmeStatus 0 0x82 false)
  else match d.namespace? k.livery c.capsule.nsid with
    | none => if c.op = 0 then none else some invalidNamespace
    | some o =>
      let e := c.extent
      if (c.op = 1 ∨ c.op = 2 ∨ c.op = 8) ∧ o.size < e.1 + e.2 then some (nvmeStatus 0 0x80 true)
      else if (c.op = 1 ∨ c.op = 2) ∧ 2048 < e.2 then some invalidField
      else if write && o.kind == ObjKind.exported then some (nvmeStatus 0 0x20 true)
      else if media && (d.resv c.capsule.nsid).forbids k.hostId write then some reservationConflict
      else none

/-- An I/O command ends as refused: path and reservation conflicts are counted. -/
def Dev.refuseIo (d : Dev) (c : NvmeCmd) (status : Nat) : Dev :=
  let d := d.countHqe 8 (b2n (bits status 8 3 == 3))
  (d.countHqe 9 (b2n (status == reservationConflict))).endFused c status 0 []

/-! ## Landing pages (R191) -/

/-- Bytes of a Write. -/
def NvmeCmd.bytes (c : NvmeCmd) : Nat := 4096 * c.extent.2

/-- Landing pages for a Write's data: they are taken when the ladder grants them. -/
def Dev.takeLanding (d : Dev) (c : NvmeCmd) (n : Nat) : Dev × Bool :=
  if d.freePages.length < n then (d.waitFor 6 true (nvmeWho c.qp c.cid), false)
  else
    let r := d.request 6 n true (nvmeWho c.qp c.cid)
    if r.2 then
      let pages := d.freePages.take n
      ((r.1.onRae fun x => { x with landing := x.landing ++ pages }).onNvme c.qp c.cid fun x => { x with landing := pages }, true)
    else (r.1, false)

/-- Bytes written to a command's landing pages. -/
def Dev.fillLanding (d : Dev) (pages : List Nat) (l : List Byte) : Dev :=
  d.forEach (List.range pages.length) fun d i => d.hbmWrite (pages.getD i 0 * 65536) ((l.drop (65536 * i)).take 65536)

/-- The HBM address of block `i` of a command's data. -/
def NvmeCmd.blockAddr (c : NvmeCmd) (i : Nat) : Nat := c.landing.getD (i / 16) 0 * 65536 + 4096 * (i % 16)

/-! ## Range locks of I/O (R196) -/

/-- The ranges of a Dataset Management: up to 256 of 16 bytes each, first block and count. -/
def NvmeCmd.ranges (c : NvmeCmd) : List (Nat × Nat) :=
  (List.range (bits c.capsule.cdw10.toNat 0 8 + 1)).map fun i => (fieldAt c.capsule.data (16 * i + 8) 8, fieldAt c.capsule.data (16 * i + 4) 4)

/-- The blocks that a command's lock covers before it is widened to whole stripes. -/
def NvmeCmd.span (c : NvmeCmd) : Nat × Nat :=
  if c.op = 9 then
    let l := c.ranges.filter fun r => r.2 != 0
    (l.foldl (fun a r => min a r.1) (2 ^ 64), l.foldl (fun a r => max a (r.1 + r.2)) 0)
  else (c.extent.1, c.extent.1 + c.extent.2)

/-- An exclusive lock over the whole data stripes that cover a command's blocks is asked for. -/
def Dev.askIoLock (d : Dev) (c : NvmeCmd) : Dev :=
  let lb := max d.geo.lb 1
  let s := c.span
  let r := d.askLock (c.capsule.nsid - 1) (s.1 / lb * lb) (ceilDiv s.2 lb * lb - 1) true (.hqe c.qp c.cid)
  r.1.onNvme c.qp c.cid fun x => { x with lock := some r.2, stage := 4 }

/-- Whether a command's lock is granted. -/
def Dev.lockGranted (d : Dev) (c : NvmeCmd) : Bool := match c.lock.bind d.lock? with | some l => l.granted.isSome | none => false

/-- Logical stripes that lie wholly in `[a, b)`. -/
def wholeStripes (lb a b : Nat) : List Nat := List.range' (ceilDiv a lb) (b / lb - ceilDiv a lb)

/-- The mapped logical stripes that a Write Zeroes or Dataset Management deallocates: those wholly within a range. -/
def Dev.doomed (d : Dev) (c : NvmeCmd) : List Nat :=
  let lb := max d.geo.lb 1
  let l := if c.op = 9 then c.ranges.flatMap fun r => wholeStripes lb r.1 (r.1 + r.2) else wholeStripes lb c.span.1 c.span.2
  l.dedup.filter fun s => (d.entry (c.capsule.nsid - 1) s).state != .unmapped

/-- The blocks of a Write Zeroes outside whole stripes whose stripe is mapped: they are written with zeros. -/
def Dev.partZeros (d : Dev) (c : NvmeCmd) : List Nat :=
  let lb := max d.geo.lb 1
  let s := c.span
  let whole := wholeStripes lb s.1 s.2
  if c.op = 8 then
    (List.range' s.1 (s.2 - s.1)).filter fun b => !(whole.contains (b / lb)) && (d.entry (c.capsule.nsid - 1) (b / lb)).state != .unmapped
  else []

/-! ## Handing to Nib (R191, R256) -/

/-- The blocks that a command hands to Nib. -/
def Dev.handed (d : Dev) (c : NvmeCmd) : List NameReq :=
  if c.op = 8 then (d.partZeros c).map fun b => ⟨b, c.blockAddr 0, 4096, some d.now, false⟩
  else (List.range c.extent.2).map fun i => ⟨c.extent.1 + i, c.blockAddr i, 4096, some d.now, false⟩

/-- A command whose lock is granted is handed to Nib under that lock, when the descriptors it needs are there (R261). -/
def Dev.handToNib (d : Dev) (c : NvmeCmd) : Dev :=
  let l := d.handed c
  let livery := d.liveryOfQp c.qp
  if d.descRoom (c.capsule.nsid - 1) l c.lock then
    let d := (d.endWait 5 (nvmeWho c.qp c.cid)).onNvme c.qp c.cid fun x => { x with stage := 6 }
    let j := d.newJob
      { id := 0, owner := .nvme c.qp c.cid, object := c.capsule.nsid - 1, livery := livery, accepted := d.q, due := none, dueFlag := false,
        takeOrdinal := 0, first := c.extent.1, lengthAfter := 0, frame := none, waits := [], pending := [], counts := [0, 0, 0, 0],
        durable := none, failed := none, isFlush := false, after := [] }
    let n := j.1.nameAll j.2 (c.capsule.nsid - 1) livery l c.lock
    n.1.forEach n.2 fun d i => d.closeDesc i
  else (d.raise 0x176).waitFor 5 false (nvmeWho c.qp c.cid)

/-- A command's lock goes and it ends with success. -/
def Dev.endLocked (d : Dev) (c : NvmeCmd) : Dev :=
  let d := match c.lock with | some l => d.releaseLock l | none => d
  d.endFused c 0 0 []

/-- The lock of a Write Zeroes or Dataset Management is granted: whole stripes are deallocated, and then the blocks that are left
are written with zeros (R192). -/
def Dev.startZeroes (d : Dev) (c : NvmeCmd) : Dev :=
  let r := d.logUnmaps (c.capsule.nsid - 1) (d.doomed c)
  r.1.onNvme c.qp c.cid fun x => { x with stage := 7, aux := r.2 }

/-- The deallocations of a Write Zeroes or Dataset Management are in force. -/
def Dev.zeroesDone (d : Dev) (c : NvmeCmd) : Dev :=
  let d := (d.applyUnmaps c.aux).onNvme c.qp c.cid fun x => { x with aux := [], stage := 5 }
  if (d.partZeros c).isEmpty then d.endLocked c
  else
    let r := d.takeLanding c 1
    if r.2 then
      match r.1.nvme? c.qp c.cid with
      | some x => (r.1.fillLanding x.landing (List.replicate 4096 0)).handToNib x
      | none => r.1
    else r.1

/-! ## A command goes on -/

/-- A Write begins: its pull and its landing pages (R191). -/
def Dev.writeGo (d : Dev) (c : NvmeCmd) : Dev :=
  let inline := !c.capsule.data.isEmpty
  let who := nvmeWho c.qp c.cid
  let a := if inline || c.pull then (d, true) else d.request 12 1 false who
  if !a.2 then a.1.onNvme c.qp c.cid fun x => { x with stage := 1 }
  else
    let d := a.1.onNvme c.qp c.cid fun x => { x with pull := !inline, stage := 2 }
    let b := d.takeLanding c (ceilDiv c.bytes 65536)
    if !b.2 then b.1
    else match b.1.nvme? c.qp c.cid with
      | none => b.1
      | some x =>
        if inline then (b.1.fillLanding x.landing (fit c.bytes c.capsule.data)).askIoLock x
        else (b.1.onNvme c.qp c.cid fun x => { x with stage := 3 }).emit (.rdmaReadRequest c.qp c.capsule.sglAddr c.capsule.sglKey c.bytes)

/-- A Read begins: its shared lock, and what it reads. -/
def Dev.readGo (d : Dev) (c : NvmeCmd) : Dev :=
  let e := c.extent
  (d.onNvme c.qp c.cid fun x => { x with stage := 6 }).startRead (.nvme c.qp c.cid) (d.liveryOfQp c.qp) (c.capsule.nsid - 1) 0 e.1 e.2 (4096 * e.1)
    (4096 * e.2) c.qp c.capsule.sglAddr c.capsule.sglKey false c.at_

/-- A reservation command is served. -/
def Dev.resvGo (d : Dev) (c : NvmeCmd) (k : Controller) : Dev :=
  if c.op = 0x0E then d.endFused c 0 0 (d.resvReport k c.capsule)
  else
    let r := if c.op = 0x0D then d.resvRegister k c.capsule else if c.op = 0x11 then d.resvAcquire k c.capsule else d.resvRelease k c.capsule
    (r.1.countHqe 9 (b2n (r.2 == reservationConflict))).endFused c r.2 0 []

/-- A command that may begin does. -/
def Dev.beginIo (d : Dev) (c : NvmeCmd) (k : Controller) : Dev :=
  match d.ioFault c k with
  | some st => d.refuseIo c st
  | none =>
    if c.op = 0 then (if (d.earlierOf c).any fun x => x.op == 1 then d else d.endFused c 0 0 [])
    else if c.op = 1 then d.writeGo c
    else if c.op = 2 then d.readGo c
    else if c.op = 8 then d.askIoLock c
    else if c.op = 9 then (if bit c.capsule.cdw11.toNat 2 && decide (c.span.1 < c.span.2) then d.askIoLock c else d.endFused c 0 0 [])
    else d.resvGo c k

/-- A command in progress goes as far as it can. -/
def Dev.nvmeStep (d : Dev) (qp cid : Nat) : Dev :=
  match d.nvme? qp cid, d.controllerOf qp with
  | some c, k? =>
    match c.stage with
    | 0 =>
      if 256 ≤ c.op then d
      else
        let a := if c.buffer then (d, true) else d.request 11 1 false (nvmeWho qp cid)
        if !a.2 then a.1
        else
          let d := a.1.onNvme qp cid fun x => { x with buffer := true }
          match k? with
          | some k => if d.inTurn c && !d.shelfAsleep then d.beginIo { c with buffer := true } k else d
          | none => d
    | 1 => d.writeGo c
    | 2 => d.writeGo c
    | 4 => if d.lockGranted c then (if c.op = 1 then (d.onNvme qp cid fun x => { x with stage := 5 }).handToNib c else d.startZeroes c) else d
    | 5 => if c.op = 1 ∨ !c.landing.isEmpty then d.handToNib c else d.zeroesDone c
    | 7 => if d.allAcked c.aux then d.zeroesDone c else d
    | 8 => match c.aux with
      | [0, n] => if (d.obj? n).isSome then d.endNvme c 0 (n + 1) [] else d
      | [1, n] => if (d.obj? n).isNone then d.endNvme c 0 0 [] else d
      | [2, n] => (match d.obj? n with | some o => if o.kind = .closedTake then d.endNvme c 0 0 [] else d | none => d.endNvme c 0 0 [])
      | _ => d
    | 9 =>
      if d.allAcked (c.aux.drop 1) then
        ((d.applyUnmaps (c.aux.drop 1)).onNvme qp cid fun x => { x with stage := 8, aux := [1, c.aux.headD 0] }).change (.objDelete (c.aux.headD 0)) none
      else d
    | _ => d
  | none, _ => d

/-- Every command in progress goes as far as it can, in the order of arrival. -/
def Dev.nvmeProgress (d : Dev) : Dev := d.forEach (d.hqe.cmds.map fun c => (c.qp, c.cid)) fun d x => d.nvmeStep x.1 x.2

/-! ## Arrival and the ends of Reads and Writes -/

/-- An I/O command arrives (R191, R195): the fused mark of the command before it is settled, and it begins when it may. A command on
an admin queue has an opcode that is not served there. -/
def Dev.ioIn (d : Dev) (c : Capsule) (op : Nat) : Dev :=
  d.capsuleIn c fun d q _ =>
    if q.qid = 0 then d.replyCapsule c invalidOpcode 0 []
    else
      let first := q.lastFuse.bind fun cid => d.nvme? c.qp cid
      let setFuse (f : Option Nat) (d : Dev) : Dev := d.onHqe fun h => { h with queues := modifyAt NvmeQueue.qp c.qp (fun q => { q with lastFuse := f }) h.queues }
      let d := (setFuse (if c.fuse = 1 then some c.cid else none) d).wakeShelf
      if c.fuse = 2 then
        match q.lastFuse, first with
        | some _, some _ => (d.keepNvme c op q 2).nvmeProgress
        | some _, none => d.replyCapsule c (nvmeStatus 0 0x09 false) 0 []
        | none, _ => d.replyCapsule c (nvmeStatus 0 0x0A false) 0 []
      else
        let d := match first with | some x => d.endNvme x (nvmeStatus 0 0x0A false) 0 [] | none => d
        (d.keepNvme c op q (if c.fuse = 1 then 1 else 0)).nvmeProgress

/-- A command with an opcode that is not served (R192); as the first of a fused pair it makes the second fail (R195). -/
def Dev.invalidIn (d : Dev) (c : Capsule) : Dev :=
  d.capsuleIn c fun d q _ =>
    let first := q.lastFuse.bind fun cid => d.nvme? c.qp cid
    let d := d.onHqe fun h => { h with queues := modifyAt NvmeQueue.qp c.qp (fun q => { q with lastFuse := if c.fuse = 1 then some c.cid else none }) h.queues }
    let d := match first with
      | some x => d.endNvme x (if c.fuse = 2 then nvmeStatus 0 0x09 false else nvmeStatus 0 0x0A false) 0 []
      | none => d
    d.replyCapsule c invalidOpcode 0 []

/-- RDMA_READ_PULL_DONE: the data of a Write lies in its landing pages (R191). -/
def Dev.pullDone (d : Dev) (qp cid : Nat) (data : List Byte) : Dev :=
  match (d.nvme? qp cid).filter fun c => c.stage == 3 with
  | none => d
  | some c =>
    let d := (((d.fillLanding c.landing (fit c.bytes data)).release 12 1).countHqe 10 c.bytes).onNvme qp cid fun x => { x with pull := false }
    ((d.askIoLock c).nvmeProgress)

/-- The status of a Write whose job failed (R194). -/
def writeFailure (status : Nat) : Nat :=
  if status = 0x8009 then nvmeStatus 2 0x81 true else if status = 0x800D then nvmeStatus 0 0x04 false else nvmeStatus 0 0x06 false

/-- A Write's job is over (R191, R276, R277): its completion is sent and its landing pages are free. -/
def Dev.writeEnds (d : Dev) (qp cid : Nat) (failed : Option (Nat × Nat)) : Dev :=
  match d.nvme? qp cid with
  | none => d
  | some c => d.endFused c (match failed with | some f => writeFailure f.1 | none => 0) 0 []

/-- A Read of an NVMe command goes on: ready runs leave in order, unrecovered blocks are passed over, and after the last byte its lock
goes and the completion follows (R191, R194, R196, R318). The data of a dropped command stays in the module. -/
def Dev.nvmeReadProgress (d : Dev) (id : Nat) : Dev :=
  let d := (d.advanceRows id).advanceRows id
  match d.read? id with
  | none => d
  | some r =>
    match r.owner with
    | .packet _ => d
    | .nvme qp cid =>
      let k := r.skip r.blocks r.delivered
      let n := if r.poisoned.isSome then 0 else d.readyRun r k
      let dropped := match d.nvme? qp cid with | some c => c.dropped | none => true
      let s := r.span k n
      let d := if n == 0 || dropped then d else (d.emit (.rdmaWrite qp (r.addr + s.1) r.key (r.payload k n))).countHqe 11 (s.2 - s.1)
      let r' := { r with delivered := r.skip r.blocks (k + n) }
      let d := (d.onRead id fun _ => r').freeGranules id (if k + n = r.blocks then r.granules else (k + n) * 4096 / 65536)
      if r'.submitted && ((r'.delivered == r.blocks && r.rows.isEmpty) || r.poisoned.isSome) then
        let d := ((d.dropRead r').countRead 1 r.bytesDelivered).countLivery r.livery 7 r.bytesDelivered
        match d.nvme? qp cid with
        | some c =>
          if r.poisoned.isSome then d.endFused c (nvmeStatus 0 0x04 false) 0 []
          else d.endFused c (if r.unrec.isEmpty then 0 else nvmeStatus 2 0x81 true) 0 []
        | none => d
      else d

/-- A keep-alive timer expires (R200): the controller ends, its QPs are asked to disconnect, and KATO_EXPIRED is raised. -/
def Dev.katoExpires (d : Dev) (k : Controller) : Dev :=
  let qps := (d.hqe.queues.filter fun q => q.cntlid == k.cntlid).map NvmeQueue.qp
  let d := (d.endController k.cntlid).emitAll (qps.map fun q => .cm q .dreq)
  (d.countHqe 4 1).raise 0x140

end Sys2Proof.Machine
end

