-- ==== Sys2Proof/Machine/Livery.lean ====
section
/-! DEFINITION. Liveries (R208 to R231, R558): their commands, reset, freeze, save, restore and thaw, the livery image, and the
deletion of objects in steps. -/

namespace Sys2Proof.Machine

/-- LVY_STATE.STATE of livery `n`; 0 for one that does not exist. -/
def Dev.liveryState (d : Dev) (n : Nat) : Nat := match d.livery? n with | some l => l.state.code | none => 0

/-- A livery's state is set (R217). -/
def Dev.setLivery (d : Dev) (n : Nat) (s : LiveryState) : Dev := d.onLivery n fun l => { l with state := s }

/-- The QPs of a livery. -/
def Dev.qpsOf (d : Dev) (n : Nat) : List Qp := d.rae.qps.filter fun q => q.livery == some n

/-- The discard of new messages on a livery's QPs (R220, step 3). -/
def Dev.setFreezeDrop (d : Dev) (n : Nat) (b : Bool) : Dev :=
  d.onRae fun r => { r with qps := r.qps.map fun q => if q.livery = some n then { q with freezeDrop := b } else q }

/-! ## Long operations on a livery end (R222, R224) -/

/-- The running long operation of opcode `op` on target `t`. -/
def Dev.longOn (d : Dev) (op t : Nat) : Option LongOp := d.cp.longOps.find? fun l => l.op == op && l.target == t && l.mode != .heldBack

/-- A long operation is ended from outside with detail 0x0303. -/
def Dev.endEarly (d : Dev) (op t : Nat) : Dev := match d.longOn op t with | some l => d.endLong l 0 0x0303 [] | none => d

/-- A buffer is no longer used by a save or restore; an unfinished save leaves it invalid (R225). -/
def Dev.freeBuffer (d : Dev) (b : Nat) (spoil : Bool) : Dev :=
  d.onLvy fun l =>
    { l with busyBuffers := l.busyBuffers.erase b
             buffers := if spoil then l.buffers.map fun x => if x.1 = b then (x.1, { x.2 with valid := false }) else x else l.buffers }

/-- A save or restore in progress on a livery ends at its step boundary. -/
def Dev.endTransfers (d : Dev) (n : Nat) : Dev :=
  let d := match d.longOn 0x0606 n with | some l => d.freeBuffer (fieldAt l.pkt.params 2 1 % 4) true | none => d
  let d := match d.longOn 0x0607 n with | some l => d.freeBuffer (fieldAt l.pkt.params 2 1 % 4) false | none => d
  (d.endEarly 0x0606 n).endEarly 0x0607 n

/-! ## Reset (R184, R199, R224, R286) -/

/-- A livery's service state is destroyed: QPs, queues, Inkwells, controllers, OPEN descriptors, reads. -/
def Dev.destroyService (d : Dev) (n : Nat) : Dev := ((((d.resetHqe n).resetRae n).discardDescs n).discardReads n).setFreezeDrop n false

/-- LVY_RESET and the first step of LVY_DELETE: what runs on the livery ends, and its service state goes (R224). -/
def Dev.clearLivery (d : Dev) (n : Nat) : Dev := ((d.endEarly 0x0605 n).endTransfers n).destroyService n

/-! ## Deletion of objects in steps (R192, R252, R254) -/

/-- A step of the deletion of object `n`: up to 1,024 entries are deallocated, and at the end the object goes. The progress is empty
between steps; 1 with the RSNs while records are awaited; 2 while the catalogue's change is. -/
def Dev.deleteStep (d : Dev) (n : Nat) (prog : List Nat) : Dev × StepEnd :=
  match prog with
  | [] =>
    let l := (d.mappedStripes n).take 1024
    if l.isEmpty then (d.change (.objDelete n) none, .waits [2])
    else
      let r := d.logUnmaps n l
      (r.1, .waits (1 :: r.2))
  | 1 :: rsns => if d.allAcked rsns then (d.applyUnmaps rsns, .more []) else (d, .waits prog)
  | _ => if (d.obj? n).isNone then (d, .done 0 0 []) else (d, .waits prog)

/-- The same step with `p` before its progress. -/
def StepEnd.under (p : List Nat) : StepEnd → StepEnd
  | .more l => .more (p ++ l)
  | .waits l => .waits (p ++ l)
  | .done a b c => .done a b c

/-! ## Commands without steps (R230, R558) -/

/-- The livery that a command names in byte 0. -/
def Cmd.target (c : Cmd) : Nat := c.par 0 1

/-- LVY_CREATE. -/
def Dev.runLvyCreate (d : Dev) (c : Cmd) : Dev :=
  if (d.livery? c.target).isSome then d.rangeFault c 0
  else d.changeAll c [.liveryCreate c.target 1] (leBytes 2 1 ++ leBytes 6 0) []

/-- The NQN of LVY_CONFIGURE and its clamp entry (R558); none for an empty one. -/
def Dev.nqnParam (d : Dev) (n : Nat) (p : List Byte) : Option (List Byte) × List ClampEntry :=
  let raw := (fit 240 p).drop 16
  let s := (raw.take 223).takeWhile fun b => b != 0
  if s.isEmpty then
    (none, [⟨16, 0, 8, 1, 0, (match d.livery? n with | some l => l.name.length | none => 0)⟩])
  else if s.length = 223 ∧ raw.getD 223 0 ≠ 0 then (some s, [⟨16, 0, 8, 2, 224, 223⟩])
  else (some s, [])

/-- LVY_CONFIGURE. -/
def Dev.runLvyConfigure (d : Dev) (c : Cmd) : Dev :=
  let p := c.pkt.params
  let n := c.target
  if (d.livery? n).isNone then d.rangeFault c 0
  else
    let w := clampParam p 2 0 16 1 1023
    let pf := clampParam p 4 0 16 0 4095
    let pc := clampParam p 6 0 16 0 (4096 - pf.1)
    let q := d.nqnParam n p
    let changes := [MetaChange.liveryConfig n pf.1 pc.1 (c.par 8 8) w.1, .liverySwitches n (bit (c.par 1 1) 0) (bit (c.par 1 1) 1)]
      ++ (match q.1 with | some s => [.liveryNqn n s] | none => [])
    d.changeAll c changes [] (reservedParam p 1 2 6 ++ w.2 ++ pf.2 ++ pc.2 ++ q.2)

/-- LVY_MAP_PID. -/
def Dev.runLvyMapPid (d : Dev) (c : Cmd) : Dev :=
  let p := c.pkt.params
  let i := clampParam p 0 0 16 0 1023
  let n := clampParam p 2 0 16 1 (min 1019 (1024 - i.1))
  let entry (k : Nat) : MetaChange × List ClampEntry :=
    let o := 8 + 8 * k
    let f := clampParam p o 0 24 0 0xFFFFF
    let l := clampParam p (o + 3) 0 24 0 0xFFFFF
    (.liveryMap (i.1 + k) f.1 l.1 (c.par (o + 6) 1) (bit (c.par (o + 7) 1) 0), f.2 ++ l.2 ++ reservedParam p (o + 7) 1 7)
  let es := (List.range n.1).map entry
  d.changeAll c (es.map Prod.fst) [] (i.2 ++ n.2 ++ es.flatMap Prod.snd)

/-- LVY_RESET (R224): a livery in DELETING stays there. -/
def Dev.runLvyReset (d : Dev) (c : Cmd) : Dev :=
  let n := c.target
  if (d.livery? n).isNone then d.rangeFault c 0
  else
    let deleting := d.liveryState n == 6
    let g := nextGeneration (d.generation n)
    let d := d.clearLivery n
    let d := (if deleting then d else d.setLivery n .service).raiseL 0x152 (some n)
    d.changeAll c [.liveryGen n g] (leBytes 2 g ++ leBytes 6 0) []

/-- LVY_THAW (R222, R223). -/
def Dev.runLvyThaw (d : Dev) (c : Cmd) : Dev :=
  let n := c.target
  let thaw (d : Dev) : Dev := (((d.setLivery n .service).setFreezeDrop n false).raiseL 0x154 (some n)).done c []
  match d.liveryState n with
  | 1 => d.done c []
  | 2 => thaw (d.endEarly 0x0605 n)
  | 3 => thaw d
  | _ => d.rangeFault c 0

/-- Whether a command's session reads a livery's counters as zero (R229). -/
def Dev.hidesCounters (d : Dev) (c : Cmd) (n : Nat) : Bool :=
  c.pkt.src.transport != .mailbox && c.livery == n && (match d.livery? n with | some l => l.config.getD 0 0 == 0 | none => false)

/-- LVY_QUERY. -/
def Dev.runLvyQuery (d : Dev) (c : Cmd) : Dev :=
  let n := c.target
  if (d.livery? n).isNone then d.rangeFault c 0
  else
    let hide := d.hidesCounters c n
    d.done c (leBytes 1 (d.liveryState n) ++ leBytes 1 (b2n !hide) ++ leBytes 2 (d.generation n) ++ leBytes 4 (d.qpsOf n).length
      ++ leBytes 4 (d.rae.inks.filter fun k => k.livery == n).length ++ leBytes 4 (d.hqe.controllers.filter fun k => k.livery == n).length
      ++ leBytes 16 0 ++ (List.range 16).flatMap fun i => leBytes 8 (if hide then 0 else d.ctr 0x24 n i))

/-! ## LVY_DELETE -/

/-- LVY_DELETE is accepted (R210, R230). -/
def Dev.runLvyDelete (d : Dev) (c : Cmd) : Dev :=
  let n := c.target
  let owns := d.lay.objects.any fun o => o.livery == n
  if n = 0 ∨ (d.livery? n).isNone then d.rangeFault c 0
  else if !(bit (c.par 1 1) 0) && owns then d.rangeFault c 1
  else d.acceptLong c n (reservedParam c.pkt.params 1 1 7) []

/-- A step of LVY_DELETE: the service state goes and DELETING is set; then the objects; then the generation advances and the
livery is gone (R216, R224). -/
def Dev.lvyDeleteStep (d : Dev) (slot : Nat) (prog : List Nat) : Dev × StepEnd :=
  match d.longOp? slot with
  | none => (d, .done 0x800F 0 [])
  | some l =>
    let n := l.target
    match prog with
    | [] => if (d.livery? n).isNone then (d, .done 0x8008 0x1000 []) else ((d.clearLivery n).setLivery n .deleting, .more [1])
    | 1 :: o :: rest =>
      let r := d.deleteStep o rest
      (r.1, match r.2 with | .done _ _ _ => .more [1] | e => e.under [1, o])
    | [1] =>
      match d.lay.objects.find? fun o => o.livery == n with
      | some o => (d, .more [1, o.num])
      | none =>
        let g := nextGeneration (d.generation n)
        ((d.change (.liveryGen n g) none).change (.liveryDelete n) none, .waits [2])
    | _ => if (d.livery? n).isNone then (d, .done 0 0 []) else (d, .waits [2])

/-! ## LVY_FREEZE (R220, R223) -/

/-- LVY_FREEZE is accepted, or answers at once. -/
def Dev.runLvyFreeze (d : Dev) (c : Cmd) : Dev :=
  match d.liveryState c.target with
  | 1 => d.acceptLong c c.target [] []
  | 2 => d.acceptLong c c.target [] []
  | 3 => d.done c []
  | 4 => d.done c []
  | _ => d.rangeFault c 0

/-- Whether work that a livery's hosts asked for before quantum `t` is unfinished (R220, step 2): commands of groups other than 0x00
and 0x06, long operations, and NVMe-oF commands but held Asynchronous Event Requests. -/
def Dev.unfinished (d : Dev) (n t : Nat) : Bool :=
  (d.cp.cmds.any fun c => c.livery == n && decide (c.arrived ≤ t) && c.op / 256 != 0 && c.op / 256 != 6)
    || (d.cp.longOps.any fun l => l.livery == n && l.op / 256 != 6 && l.mode != .heldBack)
    || (d.hqe.cmds.any fun c => d.liveryOfQp c.qp == n && decide (c.at_ ≤ t) && c.op != 0x10C)

/-- Whether a message is partly placed or a work request is in flight on a livery's QPs (R220, step 3). -/
def Dev.inFlight (d : Dev) (n : Nat) : Bool :=
  (d.qpsOf n).any fun q => q.admitted.isSome || (match q.rq with | some r => r.reqs.any WorkReq.started | none => false)

/-- A step of LVY_FREEZE. -/
def Dev.lvyFreezeStep (d : Dev) (slot : Nat) (prog : List Nat) : Dev × StepEnd :=
  match d.longOp? slot with
  | none => (d, .done 0x800F 0 [])
  | some l =>
    let n := l.target
    match prog with
    | [] =>
      match d.liveryState n with
      | 1 => (d.setLivery n .freezing, .more [1, d.q])
      | 3 => (d, .done 0 0 [])
      | 4 => (d, .done 0 0 [])
      | _ => (d, .done 0x8008 0x1000 [])
    | [1, t] => if d.unfinished n t then (d, .waits prog) else (d, .more [2])
    | [2] => (d.setFreezeDrop n true, .waits [3])
    | [3] => if d.inFlight n then (d, .waits prog) else (d, .more [4])
    | _ => ((d.setLivery n .frozen).raiseL 0x153 (some n), .done 0 0 [])

/-! ## The image (R225 to R227) -/

/-- The sections of an image: type, number of records and bytes of a record. -/
def Image.sections (i : Image) : List (Nat × Nat × Nat) :=
  let rqs := (i.qps.filter fun q => q.rq.isSome).length
  ([(1, i.qps.length, 256), (2, rqs, 128), (3, i.inks.length, 32), (4, i.controllers.length, 256), (5, 13 + i.config.getD 2 0, 16), (6, 1, 128),
    (7, i.objects.length, 4), (8, 1, 256)]).filter fun s => s.2.1 != 0

/-- The length of an image in bytes. -/
def Image.length (i : Image) : Nat := 32 + 8 * i.sections.length + (i.sections.map fun s => s.2.1 * s.2.2).sum

/-- An image as bytes. The records' layouts are not given: their bytes are the implementation's (DESIGN CHOICE: assumption log, entry 30). -/
def Image.bytes (i : Image) : List Byte :=
  let dir := (i.sections.foldl (fun (acc : List Byte × Nat) s =>
    (acc.1 ++ leBytes 1 s.1 ++ leBytes 1 0 ++ leBytes 2 s.2.1 ++ leBytes 4 acc.2, acc.2 + s.2.1 * s.2.2)) ([], 32 + 8 * i.sections.length)).1
  let head (crc : Nat) : List Byte := leBytes 1 i.version ++ leBytes 1 i.livery ++ leBytes 2 i.generation ++ leBytes 4 i.length ++ leBytes 2 i.module ++ leBytes 6 0
    ++ leBytes 8 i.rts ++ leBytes 4 i.sections.length ++ leBytes 4 crc
  let body := dir ++ (List.range ((i.sections.map fun s => s.2.1 * s.2.2).sum)).map fun k => Config.reportByte 0x400 k
  head (crc32c (head 0 ++ body)) ++ body

/-- The image of a frozen livery. -/
def Dev.imageOf (d : Dev) (n : Nat) : Image :=
  let l := (d.livery? n).getD ⟨n, .service, 0, [], 0, 0, 0, []⟩
  let ks := d.hqe.controllers.filter fun k => k.livery == n
  { valid := true, version := 0x11, livery := n, generation := l.generation, module := d.fld Reg.tdmId 0 16, rts := d.now, crcOk := true,
    objects := (d.lay.objects.filter fun o => o.livery == n).map Obj.num, keyMask := l.keyMask,
    config := [d.raw (bank Reg.tssWfqWt n), l.polFirst, l.polCount], qps := d.qpsOf n, inks := d.rae.inks.filter fun k => k.livery == n,
    controllers := ks, queues := d.hqe.queues.filter fun q => ks.any fun k => k.cntlid == q.cntlid,
    counters := (List.range 16).map fun i => (i, d.ctr 0x24 n i) }

/-- Where an image buffer lies in DDR5 (R480). -/
def bufferBase (b : Nat) : Nat := 0x3FF0000000 + b * 64 * 2 ^ 20

/-- Whether the bytes of a buffer are still those of its image. -/
def Dev.imageIntact (d : Dev) (b : Nat) (i : Image) : Bool := d.spaceRead false (bufferBase b) i.length == i.bytes

/-! ## LVY_SAVE (R225) -/

/-- LVY_SAVE is accepted. -/
def Dev.runLvySave (d : Dev) (c : Cmd) : Dev :=
  let p := c.pkt.params
  let dst := if 2 < c.par 1 1 then 0 else c.par 1 1
  let buf := clampParam p 2 0 8 0 3
  if d.liveryState c.target ≠ 3 then d.rangeFault c 0
  else if dst = 2 ∧ !(d.rqOpen (c.par 4 4) c.livery) then d.rangeFault c 4
  else if dst ≠ 2 ∧ buf.1 ∈ d.lvy.busyBuffers then d.fail c 0x800B 0x0113
  else d.acceptLong c c.target (replaceParam p 1 0 8 3 dst ++ buf.2) []

/-- A step of LVY_SAVE: the image is built and written, a remote one is flushed, and the livery is FROZEN again. -/
def Dev.lvySaveStep (d : Dev) (slot : Nat) (prog : List Nat) : Dev × StepEnd :=
  match d.longOp? slot with
  | none => (d, .done 0x800F 0 [])
  | some l =>
    let n := l.target
    let p := l.pkt.params
    let dst := if 2 < fieldAt p 1 1 then 0 else fieldAt p 1 1
    let b := min 3 (fieldAt p 2 1)
    let rq := fieldAt p 4 4
    match prog with
    | [] =>
      if d.liveryState n ≠ 3 then (d, .done 0x8008 0x1000 [])
      else
        let d := d.setLivery n .saving
        (if dst = 2 then d else d.onLvy fun x => { x with busyBuffers := b :: x.busyBuffers, buffers := dropAt (·.1) b x.buffers }, .more [1])
    | [1] =>
      let im := d.imageOf n
      if dst = 0 then ((d.spaceWrite false (bufferBase b) im.bytes).onLvy fun x => { x with buffers := x.buffers ++ [(b, im)] }, .more [3, im.length])
      else if dst = 1 then (d.emit (.partnerImage b), .more [3, im.length])
      else if !(d.rqRoom rq) then (d, .waits [1])
      else
        let before := match d.rq? rq with | some r => r.done + r.reqs.length + 2 | none => 0
        let d := (d.postWork rq (.plain (.write (fieldAt p 8 8) (fieldAt p 16 4) im.bytes) none none)).postFlush rq none none
        (d, .waits [2, im.length, before % 2 ^ 32])
    | [2, len, count] =>
      match d.rq? rq with
      | some r => if r.ending.isSome then ((d.setLivery n .frozen), .done 0x800C 1 []) else if reached32 r.done count then (d, .more [3, len]) else (d, .waits prog)
      | none => ((d.setLivery n .frozen), .done 0x800C 4 [])
    | _ =>
      let d := (((d.freeBuffer b false).setLivery n .frozen).raiseL 0x155 (some n))
      (d, .done 0 0 (leBytes 4 (prog.getD 1 0) ++ leBytes 4 0))

/-! ## LVY_RESTORE (R226) -/

/-- LVY_RESTORE is accepted; its checks are made in its first step. -/
def Dev.runLvyRestore (d : Dev) (c : Cmd) : Dev :=
  let p := c.pkt.params
  let src := if c.par 1 1 = 2 then 2 else 0
  if (d.livery? c.target).isNone then d.rangeFault c 0
  else d.acceptLong c c.target (replaceParam p 1 0 8 3 src ++ (clampParam p 2 0 8 0 3).2) []

/-- The first failure of the checks of R226, as status and detail. -/
def Dev.restoreFault (d : Dev) (n b : Nat) : Option (Nat × Nat) :=
  if d.liveryState n ≠ 1 ∨ !(d.qpsOf n).isEmpty ∨ (d.rae.inks.any fun k => k.livery == n) ∨ (d.hqe.controllers.any fun k => k.livery == n) then some (0x8008, 0x1000)
  else match d.lvy.buffers.find? fun x => x.1 == b with
    | none => if b ∈ d.lvy.busyBuffers then some (0x800B, 0x0113) else some (0x8008, 0x1001)
    | some (_, i) =>
      let missing := (List.range 64).find? fun k => bit i.keyMask k && (d.keySlot k).state == 0
      if !i.valid ∨ !i.crcOk ∨ !(d.imageIntact b i) ∨ i.version < 0x10 ∨ 0x11 < i.version then some (0x8008, 0x1001)
      else if i.objects.any fun o => (match d.obj? o with | some x => x.livery != n | none => true) then some (0x8008, 0x1001)
      else match missing with
        | some k => some (0x800E, k)
        | none =>
          if i.qps.any fun q => (d.qp? q.num).isSome then some (0x800B, 0x0110)
          else if (i.inks.any fun k => (d.inkOf k.index).isSome) ∨ d.freePages.length < (i.inks.map fun k => k.pages.length).sum then some (0x800B, 0x0111)
          else if 4096 < d.hqe.controllers.length + i.controllers.length ∨ 16384 < d.ioGranted + (i.controllers.map Controller.ioQueues).sum then some (0x800B, 0x0112)
          else if b ∈ d.lvy.busyBuffers then some (0x800B, 0x0113)
          else none

/-- An Inkwell of an image gets fresh pages. -/
def Dev.installInk (d : Dev) (n : Nat) (k : Inkwell) : Dev :=
  let pages := d.freePages.take k.pages.length
  d.onRae fun r => { r with inks := r.inks ++ [{ k with livery := n, pages := pages, revoking := none, revokeCmd := none }], freeInks := r.freeInks.erase k.index }

/-- A controller of an image, under its number when that is free. -/
def Dev.installController (d : Dev) (n : Nat) (i : Image) (k : Controller) : Dev :=
  let num := if (d.controller? k.cntlid).isNone then k.cntlid else d.freeCntlid.getD k.cntlid
  d.onHqe fun h =>
    { h with controllers := h.controllers ++ [{ k with cntlid := num, livery := n, kaAt := d.q }]
             queues := h.queues ++ (i.queues.filter fun q => q.cntlid == k.cntlid).map fun q => { q with cntlid := num } }

/-- The service state of an image is installed: QPs keep their numbers and PSNs, Inkwells their keys. -/
def Dev.installImage (d : Dev) (n : Nat) (i : Image) : Dev :=
  let qps := i.qps.map fun q => { q with livery := some n, freezeDrop := false, resident := false, parked := [], fetching := false }
  let d := d.onRae fun r => { r with qps := r.qps ++ qps, freeQps := r.freeQps.filter fun x => !(qps.any fun q => q.num == x) }
  let d := d.forEach i.inks fun d k => d.installInk n k
  let d := d.forEach i.controllers fun d k => d.installController n i k
  d.forEach i.counters fun d c => { d with counters := sput (fun _ => 0) d.counters (ctrKey 0x24 n c.1) c.2 }

/-- A step of LVY_RESTORE. A remote image comes by RDMA Read into the buffer first. -/
def Dev.lvyRestoreStep (d : Dev) (slot : Nat) (prog : List Nat) : Dev × StepEnd :=
  match d.longOp? slot with
  | none => (d, .done 0x800F 0 [])
  | some l =>
    let n := l.target
    let p := l.pkt.params
    let b := min 3 (fieldAt p 2 1)
    let rq := fieldAt p 4 4
    let check (d : Dev) : Dev × StepEnd :=
      match d.restoreFault n b with
      | some f => ((if f.2 = 0x1001 then d.raiseL 0x159 (some n) else d), .done f.1 f.2 [])
      | none => ((d.setLivery n .restoring).onLvy fun x => { x with busyBuffers := b :: x.busyBuffers }, .more [2])
    match prog with
    | [] =>
      if fieldAt p 1 1 = 2 then
        if !(d.rqOpen rq l.livery) then (d, .done 0x8008 0x1004 [])
        else if !(d.rqRoom rq) then (d, .waits [])
        else
          let before := match d.rq? rq with | some r => r.done + r.reqs.length + 1 | none => 0
          (d.postWork rq (.plain (.read (fieldAt p 8 8) (fieldAt p 16 4) (fieldAt p 20 4)) none none), .waits [1, before % 2 ^ 32])
      else check d
    | [1, count] =>
      match d.rq? rq with
      | some r => if r.ending.isSome then (d, .done 0x800C 1 []) else if reached32 r.done count then check d else (d, .waits prog)
      | none => (d, .done 0x800C 4 [])
    | [2] =>
      match d.lvy.buffers.find? fun x => x.1 == b with
      | some (_, i) => ((d.installImage n i).change (.liveryGen n (nextGeneration i.generation)) none, .waits [3, nextGeneration i.generation])
      | none => (d.setLivery n .service, .done 0x800F 0 [])
    | _ =>
      let g := prog.getD 1 0
      if d.generation n = g then
        (((d.freeBuffer b false).setLivery n .service).raiseL 0x156 (some n), .done 0 0 (leBytes 2 g ++ leBytes 6 0))
      else (d, .waits prog)

end Sys2Proof.Machine
end

