-- ==== Sys2Proof/Machine/Events.lean ====
section
/-! DEFINITION. Events, counters and latency monitors (R440 to R459): event packets, masks and pending bits, the performance
counters with their freeze, snapshot, overflow and preset, the monitors, and the commands of group 0x0A. -/

namespace Sys2Proof.Machine

/-! ## Event packets (R445 to R447) -/

/-- The payload of an event packet, format 1.0 (R447). -/
def QueuedEvent.payload (e : QueuedEvent) (drops : Nat) : List Byte :=
  leBytes 2 e.source ++ leBytes 1 (b2n e.livery.isSome + 2 * b2n (decide (drops ≠ 0))) ++ leBytes 1 0 ++ leBytes 4 e.seq ++ leBytes 8 e.rts
    ++ leBytes 1 (e.livery.getD 0) ++ leBytes 1 0 ++ leBytes 2 e.generation ++ leBytes 4 drops
    ++ fit 24 (if e.source = 0x019 then e.longop else leBytes 4 e.err.toNat)

/-- The event packet of a session (R447): `count` is the session's own event count. -/
def Session.eventReply (s : Session) (e : QueuedEvent) (count : Nat) : Reply :=
  { dst := s.src, session := some s.id, version := s.version, flags := 5, opcode := 0x0A80, tag := count % 2 ^ 32, status := 0, detail := e.source,
    generation := if e.livery.isSome then e.generation else 0, completion := e.rts, cookie := 0, payload := e.payload s.drops }

/-- Whether a session's transport takes one more packet now: a mailbox reply ring needs a free slot (R484). -/
def Dev.transportReady (d : Dev) (s : Session) : Bool :=
  match s.src.transport with
  | .mailbox =>
    let w := d.raw (Reg.mepRingRsp + 16 * s.src.key)
    decide ((bits w 0 16 + 65536 - bits w 16 16) % 65536 < 8) && (d.mep.rings.getD s.src.key Ring.empty).waiting.isEmpty
  | _ => true

/-- The event at the head of a session's queue: discarded when its livery's generation has advanced (R446), sent otherwise. -/
def Dev.sendEvent (d : Dev) (s : Session) : Dev :=
  match s.queue with
  | [] => d
  | e :: rest =>
    let stale := match e.livery with | some l => d.generation l != e.generation | none => false
    if stale then ((d.onSession s.id fun s => { s with queue := rest }).countLivery (e.livery.getD 0) 2 1).raise 0x157
    else if !d.transportReady s then d
    else (d.onSession s.id fun s => { s with queue := rest, sent := s.sent + 1, drops := 0 }).send (s.eventReply e (s.sent + 1))

/-! ## Performance counters (R448 to R453) -/

/-- `f` applied to the performance counters. -/
def Dev.onPmc (d : Dev) (f : Pmc → Pmc) : Dev := { d with pmc := f d.pmc }

/-- The key of PMC_OVFm of counter `i`. -/
def pmcOvfReg (i : Nat) : Nat := Reg.pmcOvf + 4 * (i / 32)

/-- Whether the counters are frozen (R450). -/
def Dev.pmcFrozen (d : Dev) : Bool := d.flag Reg.pmcCtl 0

/-- The updates of class 1 that still count after an overflow freezes the counters: how many of the 16 that R451 allows each counter is
free (DESIGN CHOICE: assumption log, entry 3). `left` is how many of the updates in flight each counter may still take. -/
def skidTake (left : Nat) : List (Nat × Nat) → List (Nat × Nat) → List (Nat × Nat)
  | [], _ => []
  | u :: t, seen =>
    if (seen.filter fun x => x.1 == u.1).length < left then u :: skidTake left t (u :: seen) else skidTake left t seen

/-- An update of counter `i` by `n` (R451): 48 bits, wrapping, with the overflow bit, LAST_OVF and PMC_OVERFLOW. -/
def Dev.pmcAdd (d : Dev) (i n : Nat) : Dev :=
  let v := d.pmcVal i + n
  let d := d.onPmc fun p => { p with vals := sput zeroDflt p.vals i (v % 2 ^ 48) }
  if v < 2 ^ 48 then d
  else
    let d := (d.setRaw (pmcOvfReg i) (setBit (d.raw (pmcOvfReg i)) (i % 32))).onPmc fun p => { p with lastOvf := i }
    if d.flag (bank Reg.pmcSel i) 24 then d.raise 0x080 else d

/-- The freeze of R451, with its skid over the updates in flight. -/
def Dev.pmcSkid (d : Dev) : Dev :=
  let f := d.takeFree
  let late := skidTake (f.1 % 17) f.2.pmc.inflight []
  let d := f.2.forEach late fun d u => d.pmcAdd u.1 u.2
  ((d.setFld Reg.pmcCtl 0 1 1).onPmc fun p => { p with frozenByOvf := true, inflight := [] }).raise 0x081

/-- An update of counter `i` by `n` and what follows from a wrap (R451). -/
def Dev.pmcCount (d : Dev) (i n : Nat) : Dev :=
  let wraps := decide (2 ^ 48 ≤ d.pmcVal i + n)
  let d := d.pmcAdd i n
  if wraps && d.flag (bank Reg.pmcSel i) 25 then d.pmcSkid else d

/-- The counters whose class is `k`. -/
def Dev.pmcOfClass (d : Dev) (k : Nat) : List Nat :=
  d.regs.filterMap fun p => if p.1 % 2 ^ 24 = Reg.pmcSel ∧ bits p.2.toNat 0 2 = k then some (p.1 / 2 ^ 24) else none

/-- What a counter that counts by itself takes for `cycles` cycles of 1 ns: the cycles in class 3; a free number of control-core events
in class 2 for an item that the list has (R448; DESIGN CHOICE: assumption log, entry 3). -/
def Dev.pmcRun (d : Dev) (cycles i : Nat) : Dev :=
  let w := d.raw (bank Reg.pmcSel i)
  if d.pmcFrozen then d
  else if bits w 0 2 = 3 then d.pmcCount i cycles
  else if bits w 8 7 < 6 then
    let f := d.takeFree
    f.2.pmcCount i (f.1 % 2 ^ 48)
  else d

/-- Classes 2 and 3 brought up to the present quantum: 5 cycles in 4 quanta (R448). -/
def Dev.pmcSync (d : Dev) : Dev :=
  let cycles := d.q * 5 / 4 - d.pmc.cycleQ * 5 / 4
  let d := if d.pmcFrozen || decide (cycles = 0) then d else d.forEach (d.pmcOfClass 2 ++ d.pmcOfClass 3) fun d i => d.pmcRun cycles i
  d.onPmc fun p => { p with cycleQ := d.q }

/-- The oldest update in flight arrives (R449): it counts, or is lost while the counters are frozen (R450). -/
def Dev.pmcArrive (d : Dev) : Dev :=
  match d.pmc.inflight with
  | [] => d
  | u :: rest =>
    let d := d.onPmc fun p => { p with inflight := rest }
    if d.pmcFrozen then d else d.pmcCount u.1 u.2

/-- The counters freeze or go on (R450); thawing clears FROZEN_BY_OVF. -/
def Dev.pmcFreeze (d : Dev) (on : Bool) : Dev :=
  let d := d.pmcSync.setFld Reg.pmcCtl 0 1 (b2n on)
  if on then d else d.onPmc fun p => { p with frozenByOvf := false }

/-- A snapshot (R450): values and overflow bits to the shadows, with the RTS. -/
def Dev.pmcSnapshot (d : Dev) : Dev :=
  let d := d.pmcSync
  d.onPmc fun p => { p with shadow := p.vals, snapRts := d.now, shadowOvf := ((List.range 256).filter d.pmcOvf).map fun i => (i, true) }

/-- A preset of counter `i` (R452). -/
def Dev.pmcPreset (d : Dev) (i v : Nat) : Dev :=
  let d := d.pmcSync.onPmc fun p => { p with vals := sput zeroDflt p.vals i (v % 2 ^ 48) }
  d.setRaw (pmcOvfReg i) (clearBit (d.raw (pmcOvfReg i)) (i % 32))

/-- A write of PMC_CTL: FREEZE takes the written value; SNAP, written 1, takes a snapshot, after the freeze (R450). -/
def Dev.writePmcCtl (d : Dev) (v : Nat) : Dev :=
  let d := d.pmcFreeze (bit v 0)
  if bit v 1 then d.pmcSnapshot else d

/-- A write of PMC_VAL_HI presets the indexed counter with PMC_VAL_LO (R452). -/
def Dev.writePmcValHi (d : Dev) (v : Nat) : Dev := d.pmcPreset (d.fld Reg.pmcIdx 0 8) (bits v 0 16 * 2 ^ 32 + d.raw Reg.pmcValLo)

/-- PMC_SEL as the register keeps it: reserved bits clear, BLOCK at most 0x38. -/
def pmcSelWord (v : Nat) : Nat := setBits (setBits (Nat.land v 0x07FF7FFF) 15 1 0) 2 6 (min 0x38 (bits v 2 6))

/-- A selection of counter `i` (R448). -/
def Dev.pmcSelect (d : Dev) (i v : Nat) : Dev := d.pmcSync.setRaw (bank Reg.pmcSel i) (pmcSelWord v)

/-! ## Latency monitors (R455 to R457) -/

/-- `f` applied to the latency monitors. -/
def Dev.onLmon (d : Dev) (f : Lmon → Lmon) : Dev := { d with lmon := f d.lmon }

/-- Monitor `i`. -/
def Dev.monitor (d : Dev) (i : Nat) : Monitor := sget monitorDflt d.lmon.mons i

/-- A monitor is cleared (R456). -/
def Dev.clearMonitor (d : Dev) (i : Nat) : Dev := d.onLmon fun l => { l with mons := sput monitorDflt l.mons i Monitor.cleared }

/-- Every monitor is cleared. -/
def Dev.clearMonitors (d : Dev) : Dev := d.onLmon fun l => { l with mons := [] }

/-- A write of LMON_IDX copies the monitor (R456). -/
def Dev.copyMonitor (d : Dev) (v : Nat) : Dev :=
  let d := d.setFld Reg.lmonIdx 0 6 v
  d.onLmon fun l => { l with copy := d.monitor (v % 64) }

/-- LMON_SEL as the register keeps it: reserved bits clear, SOURCE 15 to 31 applied as 0. -/
def lmonSelWord (v : Nat) : Nat :=
  let w := Nat.land v 0xFF03FF1F
  if 14 < bits w 0 5 then setBits w 0 5 0 else w

/-- A selection of monitor `i`, which clears it (R456). -/
def Dev.lmonSelect (d : Dev) (i v : Nat) : Dev := (d.setRaw (bank Reg.lmonSel i) (lmonSelWord v)).clearMonitor i

/-- A write of LMON_CTL. -/
def Dev.writeLmonCtl (d : Dev) (v : Nat) : Dev :=
  let d := if bit v 0 then d.clearMonitor (d.fld Reg.lmonIdx 0 6) else d
  if bit v 1 then d.clearMonitors else d

/-- The highest index of a source's filter (R454); 255 for a source without one. -/
def lmonHighest (source : Nat) : Nat :=
  if source = 4 ∨ source = 5 ∨ source = 6 then 47 else if source = 13 then 11 else if source = 14 then 95 else 255

/-! ## Commands of group 0x0A (R458) -/

/-- The source set of a subscription as a number, bit s for source s. -/
def sourceSet (p : List Byte) : Nat := leNat (fit 64 p)

/-- The sources of a set that a chapter lists. -/
def listedSources : Nat := (List.range 512).foldl (fun a s => if isSource s then setBit a s else a) 0

/-- The number of sources in a set. -/
def setSize (n : Nat) : Nat := ((List.range 512).filter fun s => bit n s).length

/-- The clamp entries of reserved sources in a set, one for each byte (R85, R458). -/
def reservedSources (p : List Byte) : List ClampEntry :=
  (List.range 64).filterMap fun k =>
    let v := fieldAt p k 1
    let a := Nat.land v (bits listedSources (8 * k) 8)
    if v = a then none else some ⟨k, 0, 8, 4, v, a⟩

/-- EVT_SUBSCRIBE. A request without a session subscribes nothing. -/
def Dev.runEvtSubscribe (d : Dev) (c : Cmd) : Dev :=
  let p := c.pkt.params
  let set := Nat.land (sourceSet p) listedSources
  let replace := bit (c.par 64 1) 0
  let clamps := reservedSources p ++ reservedParam p 64 1 7
  match c.session with
  | none => d.doneClamped c (leBytes 8 0) clamps
  | some n =>
    let d := d.onSession n fun s => { s with subs := if replace then set else Nat.lor s.subs set }
    d.doneClamped c (leBytes 2 (match d.session? n with | some s => setSize s.subs | none => 0) ++ leBytes 6 0) clamps

/-- EVT_UNSUBSCRIBE. -/
def Dev.runEvtUnsubscribe (d : Dev) (c : Cmd) : Dev :=
  let set := sourceSet c.pkt.params
  match c.session with
  | none => d.done c (leBytes 8 0)
  | some n =>
    let d := d.onSession n fun s => { s with subs := s.subs - Nat.land s.subs set }
    d.done c (leBytes 2 (match d.session? n with | some s => setSize s.subs | none => 0) ++ leBytes 6 0)

/-- The mask of one destination for source `s`. -/
def Dev.maskSource (d : Dev) (reg s : Nat) (on : Bool) : Dev :=
  let k := reg + 4 * (s / 32)
  d.setRaw k (setBits (d.raw k) (s % 32) 1 (b2n on))

/-- The pending bits of `v` in group `g` are cleared (R442). -/
def Dev.clearPending (d : Dev) (g v : Nat) : Dev :=
  let k := Reg.evtPend + 4 * g
  d.setRaw k (d.raw k - Nat.land (d.raw k) v)

/-- EVT_MASK. -/
def Dev.runEvtMask (d : Dev) (c : Cmd) : Dev :=
  let p := c.pkt.params
  let first := c.par 0 2
  if 511 < first then d.rangeFault c 0
  else
    let n := clampParam p 2 0 16 1 (512 - first)
    let m := c.par 4 1
    let d := d.forEach (List.range' first n.1) fun d s =>
      let d := ((d.maskSource Reg.evtMsixMask s (bit m 0)).maskSource Reg.evtAlertMask s (bit m 1)).maskSource Reg.evtPktMask s (bit m 2)
      if bit (c.par 5 1) 0 then d.clearPending (s / 32) (2 ^ (s % 32)) else d
    d.doneClamped c [] (n.2 ++ reservedParam p 4 3 5 ++ reservedParam p 5 1 7)

/-- One entry of PMC_CONFIGURE, for counter `i` with its bytes at `o`. -/
def Dev.pmcEntry (d : Dev) (c : Cmd) (i o : Nat) : Dev :=
  let sel := setBits (c.par o 4) 26 1 (c.par (o + 5) 1)
  let d := (d.pmcSelect i sel).setRaw (bank Reg.pmcOwn i) (c.par (o + 4) 1)
  if bit (c.par (o + 5) 1) 1 then d.pmcPreset i (c.par (o + 8) 6) else d

/-- The clamps of an entry of PMC_CONFIGURE. -/
def pmcClamps (p : List Byte) (o : Nat) : List ClampEntry :=
  (clampParam p o 2 6 0 0x38).2 ++ reservedParam p o 15 1 ++ reservedParam p o 27 5 ++ reservedParam p (o + 5) 2 6
    ++ reservedParam p (o + 8) 48 16

/-- PMC_CONFIGURE. -/
def Dev.runPmcConfigure (d : Dev) (c : Cmd) : Dev :=
  let p := c.pkt.params
  let first := c.par 0 2
  if 255 < first then d.rangeFault c 0
  else
    let n := clampParam p 2 0 16 1 (256 - first)
    let d := d.forEach (List.range n.1) fun d k => d.pmcEntry c (first + k) (8 + 16 * k)
    d.doneClamped c [] (n.2 ++ (List.range n.1).flatMap fun k => pmcClamps p (8 + 16 * k))

/-- PMC_SNAPSHOT. -/
def Dev.runPmcSnapshot (d : Dev) (c : Cmd) : Dev :=
  let p := c.pkt.params
  let b := c.par 0 1
  let d := if bit b 0 then d.pmcFreeze true else if bit b 1 then d.pmcFreeze false else d
  let d := if bit b 2 then d.pmcSnapshot else d
  d.doneClamped c (leBytes 8 (if bit b 2 then d.pmc.snapRts else 0))
    ((if bit b 0 && bit b 1 then replaceParam p 0 1 1 3 0 else []) ++ reservedParam p 0 3 5)

/-- Whether a counter or monitor with an owner field reads as zero in a command's session (R453, R457). -/
def Dev.gatedFor (d : Dev) (c : Cmd) (valid : Bool) (owner : Nat) : Bool := valid && d.hidesCounters c owner

/-- One entry of a PMC_QUERY reply. -/
def Dev.pmcReport (d : Dev) (c : Cmd) (i : Nat) (shadow : Bool) : List Byte :=
  let x := d.pmcShows i shadow
  if d.gatedFor c (d.flag (bank Reg.pmcSel i) 26) (d.fld (bank Reg.pmcOwn i) 0 8) then leBytes 6 0 ++ leBytes 2 2
  else leBytes 6 x.1 ++ leBytes 2 (b2n x.2)

/-- PMC_QUERY. -/
def Dev.runPmcQuery (d : Dev) (c : Cmd) : Dev :=
  let p := c.pkt.params
  let first := clampParam p 0 0 16 0 255
  let n := clampParam p 2 0 16 1 (256 - first.1)
  let shadow := bit (c.par 4 1) 0
  let d := d.pmcSync
  d.doneClamped c (leBytes 8 (if shadow then d.pmc.snapRts else d.now) ++ (List.range n.1).flatMap fun k => d.pmcReport c (first.1 + k) shadow)
    (first.2 ++ n.2 ++ reservedParam p 4 1 7)

/-- The SOURCE that an entry of LMON_CONFIGURE applies. -/
def lmonSource (v : Nat) : Nat := if 14 < v then 0 else v

/-- One entry of LMON_CONFIGURE, for monitor `i` with its bytes at `o`. -/
def Dev.lmonEntry (d : Dev) (c : Cmd) (i o : Nat) : Dev :=
  let f := c.par (o + 3) 1
  if bit f 2 then d.clearMonitor i
  else
    let src := lmonSource (c.par o 1)
    d.lmonSelect i (src + 256 * min (lmonHighest src) (c.par (o + 1) 1) + 65536 * (f % 4) + 2 ^ 24 * c.par (o + 2) 1)

/-- The clamps of an entry of LMON_CONFIGURE. -/
def lmonClamps (p : List Byte) (o : Nat) : List ClampEntry :=
  let src := lmonSource (fieldAt p o 1)
  replaceParam p o 0 8 3 src ++ (clampParam p (o + 1) 0 8 0 (lmonHighest src)).2 ++ reservedParam p (o + 3) 3 5

/-- LMON_CONFIGURE. -/
def Dev.runLmonConfigure (d : Dev) (c : Cmd) : Dev :=
  let p := c.pkt.params
  let first := clampParam p 0 0 8 0 63
  let n := clampParam p 1 0 8 1 (64 - first.1)
  let d := d.forEach (List.range n.1) fun d k => d.lmonEntry c (first.1 + k) (8 + 8 * k)
  d.doneClamped c [] (first.2 ++ n.2 ++ (List.range n.1).flatMap fun k => lmonClamps p (8 + 8 * k))

/-- A monitor as LMON_QUERY reports it, from byte 4 to byte 159. -/
def Monitor.bytes (m : Monitor) : List Byte :=
  leBytes 4 m.min ++ leBytes 4 m.max ++ leBytes 4 0 ++ leBytes 8 m.count ++ leBytes 8 m.sum
    ++ (List.range 32).flatMap fun k => leBytes 4 (sget zeroDflt m.bins k)

/-- LMON_QUERY. -/
def Dev.runLmonQuery (d : Dev) (c : Cmd) : Dev :=
  let i := c.par 0 1
  if 63 < i then d.rangeFault c 0
  else
    let w := d.raw (bank Reg.lmonSel i)
    let gated := d.gatedFor c (bit w 17) (bits w 24 8)
    d.done c (leBytes 1 (bits w 0 5) ++ leBytes 1 (bits w 8 8) ++ leBytes 1 (b2n gated) ++ leBytes 1 0
      ++ (if gated then leBytes 164 0 else (d.monitor i).bytes ++ leBytes 8 d.now))

/-! ## Events of the table -/

/-- EVENT_PACKET_SEND: a queued event packet leaves its session queue (R445 to R447). -/
def execEventPacketSend (session : Nat) (s : State) : Host.Outcome State Fault Refusal :=
  s.run true fun d => match d.session? session with | some x => d.sendEvent x | none => d

/-- EVT_PEND_CLEAR: a W1C of EVT_PENDg (R442). -/
def execEvtPendClear (_m : Master) (group : Nat) (value : Word) (s : State) : Host.Outcome State Fault Refusal :=
  s.run (decide (group < 16)) fun d => d.clearPending group value.toNat

/-- EVT_ALERT_MASK_WRITE: a write of EVT_ALERT_MASKg (R443); EVT_ALERT# follows from it (`Dev.alert`). -/
def execEvtAlertMaskWrite (_m : Master) (group : Nat) (value : Word) (s : State) : Host.Outcome State Fault Refusal :=
  s.run (decide (group < 16)) fun d => d.setRaw (Reg.evtAlertMask + 4 * group) value.toNat

/-- PMC_UPDATE_ARRIVAL: the oldest counter update in flight arrives (R449). -/
def execPmcUpdateArrival (s : State) : Host.Outcome State Fault Refusal := s.run true Dev.pmcArrive

/-- PMC_FREEZE: a write of PMC_CTL (R450). -/
def execPmcFreeze (_m : Master) (value : Word) (s : State) : Host.Outcome State Fault Refusal := s.run true fun d => d.writePmcCtl value.toNat

/-- PMC_SNAP: a write of 1 to SNAP (R450). -/
def execPmcSnap (_m : Master) (s : State) : Host.Outcome State Fault Refusal := s.run true Dev.pmcSnapshot

/-- PMC_VAL_PRESET: a write of PMC_VAL_HI (R452). -/
def execPmcValPreset (_m : Master) (value : Word) (s : State) : Host.Outcome State Fault Refusal := s.run true fun d => d.writePmcValHi value.toNat

/-- LMON_IDX_COPY: a write of LMON_IDX (R456). -/
def execLmonIdxCopy (_m : Master) (value : Word) (s : State) : Host.Outcome State Fault Refusal := s.run true fun d => d.copyMonitor value.toNat

/-- LMON_CLEAR: the indexed monitor is cleared (R456). -/
def execLmonClear (_m : Master) (s : State) : Host.Outcome State Fault Refusal := s.run true fun d => d.clearMonitor (d.fld Reg.lmonIdx 0 6)

/-- LMON_CLEAR_ALL: every monitor is cleared (R456). -/
def execLmonClearAll (_m : Master) (s : State) : Host.Outcome State Fault Refusal := s.run true Dev.clearMonitors

/-- LMON_SEL_WRITE: the indexed monitor's selection is set, and it is cleared (R456). -/
def execLmonSelWrite (_m : Master) (value : Word) (s : State) : Host.Outcome State Fault Refusal :=
  s.run true fun d => d.lmonSelect (d.fld Reg.lmonIdx 0 6) value.toNat

end Sys2Proof.Machine
end

