-- ==== Sys2Proof/Machine/Waybill.lean ====
section
/-! DEFINITION. Waybill (R460 to R474): the ring on the NAND, writing, faults, the start-up scan, reading and clearing. -/

namespace Sys2Proof.Machine

/-- `f` applied to Waybill. -/
def Dev.onWbl (d : Dev) (f : Wbl → Wbl) : Dev := { d with wbl := f d.wbl }

/-- The next good block after `b` (R460, R461). -/
def Wbl.nextGood (w : Wbl) (b : Nat) : Nat :=
  ((List.range' 1 4096).find? fun k => !(w.bad.contains ((b + k) % 4096))).elim b fun k => (b + k) % 4096

/-- A block is erased: its records go. The first erase after WBL_ERR was cleared raises WBL_WRAP (R460). -/
def Dev.eraseBlock (d : Dev) (b : Nat) : Dev := (d.onWbl fun w => { w with ring := w.ring.filter fun s => s.block != b }).raise 0x091

/-- The record at the head of the queue is programmed in the next slot (R460, R463); one that enters the first slot of a block has the
next good block erased first. -/
def Dev.writeRecord (d : Dev) : Dev :=
  match d.wbl.queue with
  | [] => d
  | r :: rest =>
    let b := d.wbl.headBlock
    let d := if d.wbl.headSlot = 0 then d.eraseBlock (d.wbl.nextGood b) else d
    d.onWbl fun w =>
      { w with queue := rest, ring := w.ring ++ [⟨b, w.headSlot, r⟩]
               headBlock := if w.headSlot = 511 then w.nextGood b else b, headSlot := if w.headSlot = 511 then 0 else w.headSlot + 1 }

/-- A program or erase reports failure (R461): the block is marked bad, and the record goes to the first slot of the next good one. -/
def Dev.blockFails (d : Dev) : Dev :=
  if d.wbl.queue.isEmpty then d
  else ((d.onWbl fun w => { w with bad := w.bad ++ [w.headBlock], headBlock := w.nextGood w.headBlock, headSlot := 0 }).writeRecord).raise 0x092

/-- The sequence number of the newest WBL_CLEARED record of the ring; 0 without one (R472). -/
def Wbl.clearedAt (w : Wbl) : Nat := w.ring.foldl (fun a s => if s.record.trigger = 0x204 then max a s.record.seq else a) 0

/-- The records that readers see, oldest first (R471, R472). -/
def Wbl.readable (w : Wbl) : List WblRecord :=
  List.mergeSort ((w.ring.map WblSlot.record).filter fun r => decide (w.clearedAt ≤ r.seq)) fun a b => decide (a.seq ≤ b.seq)

/-- The oldest record returned (WBL_OLDEST). -/
def Wbl.oldestSeq (w : Wbl) : Nat := match w.readable with | r :: _ => r.seq | [] => w.seq

/-- A record as its 512 bytes (R462). -/
def WblRecord.bytes (r : WblRecord) : List Byte :=
  let body := leBytes 1 0x10 ++ leBytes 1 r.kind ++ leBytes 2 r.trigger ++ leBytes 2 r.snaps.length ++ leBytes 2 0 ++ leBytes 8 r.seq
    ++ leBytes 4 r.hours ++ leBytes 4 r.cycles ++ leBytes 8 0 ++ fit 472 ((r.snaps.map fun s => leBytes 4 s.1 ++ leBytes 4 s.2).flatten)
  body ++ leBytes 4 (crc32c body) ++ leBytes 4 0x57424C56

/-- The start-up scan (R465, R473): the next sequence number, hours from the newest record of kind 1 to 3, and its power cycles plus
one. -/
def Dev.scanRing (d : Dev) : Dev :=
  let rs := d.wbl.ring.map WblSlot.record
  let timed := (rs.filter fun r => r.kind != 0).foldl (fun (a : Option WblRecord) r =>
    match a with
    | some x => if x.seq < r.seq then some r else a
    | none => some r) none
  let seq := rs.foldl (fun a r => max a (r.seq + 1)) 0
  let base := d.q / 11250000000 % 2 ^ 32
  d.onWbl fun w =>
    { w with seq := max seq w.seq, scanned := true, oldest := w.oldestSeq
             hours := match timed with | some r => (r.hours + 2 ^ 32 - base) % 2 ^ 32 | none => w.hours
             cycles := match timed with | some r => r.cycles + 1 | none => 1 }

/-- WBL_QUERY (R471). -/
def Dev.runWblQuery (d : Dev) (c : Cmd) : Dev :=
  let rs := d.wbl.readable
  let want := c.par 0 8
  let low := match rs with | r :: _ => r.seq | [] => want
  let first := max want low
  let l := (rs.filter fun r => decide (first ≤ r.seq)).take 15
  let next := match (rs.filter fun r => decide (first ≤ r.seq)).drop 15 with | r :: _ => r.seq | [] => 2 ^ 64 - 1
  d.doneClamped c (leBytes 8 next ++ (l.map WblRecord.bytes).flatten) (if want < low then [⟨0, 0, 64, 1, want, low⟩] else [])

/-- WBL_CLEAR is accepted. -/
def Dev.runWblClear (d : Dev) (c : Cmd) : Dev := d.acceptLong c 0 [] []

/-- The block that holds the newest WBL_CLEARED record. -/
def Wbl.keptBlock (w : Wbl) : Nat := match w.ring.find? fun s => s.record.seq == w.clearedAt && s.record.trigger == 0x204 with | some s => s.block | none => 4096

/-- A step of WBL_CLEAR (R472): the WBL_CLEARED record, then one good block after the other. -/
def Dev.wblClearStep (d : Dev) (prog : List Nat) : Dev × StepEnd :=
  match prog with
  | [] =>
    let r := (d.onWbl fun w => { w with clearing := true }).queueRecord 0x204
    if r.2 then (r.1.raise 0x090, .waits []) else (r.1, .waits [1, d.wbl.seq])
  | [1, seq] => if d.wbl.ring.any fun s => s.record.seq == seq then (d, .more [2, 0]) else (d, .waits prog)
  | [2, b] =>
    match (List.range' b (4096 - b)).find? fun k => !(d.wbl.bad.contains k) && k != d.wbl.keptBlock && k != d.wbl.headBlock with
    | some k => (d.eraseBlock k, .more [2, k + 1])
    | none => ((d.onWbl fun w => { w with clearing := false, oldest := w.oldestSeq }).raise 0x093, .done 0 0 [])
  | _ => (d, .done 0x800F 0 [])

/-! ## Events and registers of the table -/

/-- WBL_RECORD_WRITE: the record at the head of the queue is written (R469). -/
def execWblRecordWrite (s : State) : Host.Outcome State Fault Refusal := s.run true fun d => if d.wbl.scanned then d.writeRecord else d

/-- WBL_FAULT: a program or erase reports failure (R461). -/
def execWblFault (s : State) : Host.Outcome State Fault Refusal := s.run true fun d => if d.wbl.scanned then d.blockFails else d

/-- WBL_MANUAL: a write of 1 to WBL_CTL.MANUAL triggers a record (R466). -/
def execWblManual (_m : Master) (s : State) : Host.Outcome State Fault Refusal := s.run true fun d => d.trigger 0x203

end Sys2Proof.Machine
end

