-- ==== Sys2Proof/Machine/Resets.lean ====
section
/-! DEFINITION. Module reset and power-on reset (R514 to R516): what each clears and keeps, and the stop at a power failure (R303). -/

namespace Sys2Proof.Machine

/-- `f` applied to the start-up unit. -/
def Dev.onClk (d : Dev) (f : Clk → Clk) : Dev := { d with clk := f d.clk }

/-- `f` applied to the power entry supervisor. -/
def Dev.onPes (d : Dev) (f : Pes → Pes) : Dev := { d with pes := f d.pes }

/-- `f` applied to the failover unit. -/
def Dev.onFov (d : Dev) (f : Fov → Fov) : Dev := { d with fov := f d.fov }

/-- `f` applied to the pins. -/
def Dev.onPins (d : Dev) (f : Pins → Pins) : Dev := { d with pins := f d.pins }

/-- The last take ordinal whose COMMIT took effect. -/
def Dev.appliedOrdinal (d : Dev) (o : Obj) : Nat :=
  match (d.nib.jobs.filter fun j => j.object == o.num && !j.isFlush).map WriteJob.takeOrdinal with
  | [] => o.ordinal
  | l => l.foldl min (o.ordinal + 1) - 1

/-- The array metadata as the drives hold it (DESIGN CHOICE: assumption log, entry 31): what is in force, with takes at what was made durable. -/
def Dev.savedNow (d : Dev) : Option Saved :=
  match d.lay.geo with
  | none => d.lay.saved
  | some g => some
    { identity := g.identity
      objects := d.lay.objects.map fun o => { o with accepted := o.length, ordinal := d.appliedOrdinal o }
      retired := (d.lay.phys.filter fun p => p.2 == 3).map (·.1)
      lost := d.lay.lost, built := d.rly.built, suspects := d.otr.suspects, cursor := d.otr.recordedCursor
      liveries := d.lvy.liveries.map fun l => { l with state := if l.state = .deleting then .deleting else .service }
      table := d.lvy.table, records := d.cve.records }

/-- A slot over a reset: its drive, its power and what it showed stay; the module's own view starts again. -/
def Slot.afterReset (s : Slot) : Slot :=
  { Slot.empty s.num with
    present := s.present, pgood := s.pgood, powerEn := s.powerEn, capacity := s.capacity, formatted := s.formatted, otherHolder := s.otherHolder
    drive := if s.present && s.pgood then .initialising else .absent }

/-- The block of the key of a register. -/
def blockOf (k : Nat) : Nat := k % 2 ^ 24 / 0x10000

/-- The pins over a module reset: inputs as they are driven, outputs released, ACT_OWN low (R398, R514). -/
def Pins.afterReset (p : Pins) : Pins :=
  { p with actOwn := false, fenceOut := false, fenceAck := p.fenceIn, partnerPwrEn := true, hbOut := false }

/-- Every block but PES and every memory back at reset values (R514); the operating hours, CLK_RST_CAUSE, the firmware selector and
CLK_BOOT, the NAND, and what lies on the drives stay. -/
def Dev.moduleCleared (d : Dev) : Dev :=
  let z := Dev.reset
  { z with
    q := d.q, free := d.free, out := d.out, pes := d.pes
    pins := { d.pins.afterReset with partnerPwrEn := d.pes.partnerPulse.isNone }
    regs := d.regs.filter fun r => blockOf r.1 == 3
    counters := d.counters.filter fun c => c.1 / 2 ^ 32 == 3
    clk := { d.clk with step := 0, done := false, failed := false, cause := 0, next := 4, startMs := 0, khz := [], faulty := [], drivesLate := false,
                        sysOk := false, resetPending := false }
    wbl := { z.wbl with ring := d.wbl.ring, headBlock := d.wbl.headBlock, headSlot := d.wbl.headSlot, bad := d.wbl.bad, hours := d.wbl.hours, seq := d.wbl.seq }
    lay := { z.lay with saved := d.savedNow }
    drv := { z.drv with slots := d.drv.slots.map Slot.afterReset } }

/-- The release of PERST# or of module reset samples FIXMAP# (R481): while it is low the windows are preset, with Memory Space Enable
and Bus Master Enable set. -/
def Dev.sampleStrap (d : Dev) : Dev :=
  if d.pins.fixmapStrap then { d with mep := { d.mep with presetBars := true, memSpace := true, bme := true } } else d

/-- A trigger of module reset begins (R515): 0 power on, 1 pin, 2 command, 3 fence, 4 power fail, 5 clock. A new reset first clears
every cause. -/
def Dev.enterReset (d : Dev) (cause : Nat) : Dev :=
  if d.clk.inReset then
    d.onClk fun c => { c with active := if cause ∈ c.active then c.active else c.active ++ [cause], rstCause := setBit c.rstCause cause }
  else d.moduleCleared.onClk fun c => { c with inReset := true, active := [cause], rstCause := 2 ^ cause }

/-- A trigger ends; in the cycle after the last one the sequence starts again at step 4 (R515, R516). -/
def Dev.leaveReset (d : Dev) (cause : Nat) : Dev :=
  if !d.clk.inReset then d
  else
    let d := d.onClk fun c => { c with active := c.active.erase cause }
    if d.clk.active.isEmpty then d.sampleStrap.onClk fun c => { c with inReset := false, step := 4, stepStart := d.q, origin := d.q } else d

/-- A trigger that ends in its own cycle. -/
def Dev.resetOnce (d : Dev) (cause : Nat) : Dev := (d.enterReset cause).leaveReset cause

/-- Power good after the input was off (R514): every block and memory, and the always-on island; the kept state of PES, its
non-volatile cell, the NOR, the NAND and the drives stay. The sequence goes on with step 3 (R506). -/
def Dev.powerOnReset (d : Dev) : Dev :=
  let r := d.moduleCleared
  { r with
    pes := { r.pes with partnerPulse := none, pfInternal := false, pfReleasedAt := none }
    pins := { r.pins with partnerPwrEn := true }
    regs := r.regs.filter fun k => k.1 == Reg.pesFault
    wbl := { r.wbl with hours := 0 }
    clk := { r.clk with step := 3, stepStart := d.q, origin := d.q, inReset := false, active := [], rstCause := 1, fellBack := false } }

/-! ## The stop at a power failure (R303, R501 to R503) -/

/-- The stop of R303: no new work, POWER_FAIL_ASSERTED, the Waybill record at the head of its queue, and module reset. -/
def Dev.powerFails (d : Dev) : Dev :=
  let d := (d.onPes fun p => { p with pfReleasedAt := none }).bump 0x03 0 4 1
  if d.clk.inReset then d.enterReset 4
  else
    let d := { (d.raise 0x006) with nib := { d.nib with halted := true } }
    let d := (d.onBlt fun b => { b with stopped := true }).trigger 0x201
    d.writeRecord.enterReset 4

/-- The records still queued are written. -/
def Dev.drainRecords (d : Dev) : Nat → Dev
  | 0 => d
  | k + 1 => if d.wbl.queue.isEmpty then d else d.writeRecord.drainRecords k

/-- MOD_RESET (R521) after its reply: the Waybill record 0x202, then module reset. -/
def Dev.commandReset (d : Dev) : Dev := ((d.trigger 0x202).drainRecords 64).resetOnce 2

end Sys2Proof.Machine
end

