-- ==== Sys2Proof/Machine/Failover.lean ====
section
/-! DEFINITION. The failover unit and the partner link (R397 to R416): roles and the interlock, heartbeats, the takeover sequence, the fence
and the handover. -/

namespace Sys2Proof.Machine

/-- A counter of the failover unit. -/
def Dev.countFov (d : Dev) (item : Nat) : Dev := d.bump 0x0D 0 item 1

/-- A role is entered (R402, R417). -/
def Dev.setRole (d : Dev) (r : Role) : Dev :=
  let d := d.onFov fun f => { f with role := r, roleRts := d.now }
  match r with
  | .active => d.raise 0x0A0
  | .standby => d.raise 0x0A1
  | _ => d

/-! ## Heartbeats (R404, R405) -/

/-- Whether both paths run: kicked within WDOG_MS, or the watchdog is off, and start-up has not failed (R404, R509). -/
def Dev.pathsRun (d : Dev) : Bool := (d.fov.running || !(d.flag Reg.fovCtl 3)) && !d.clk.failed && !d.clk.inReset

/-- A message to the partner (R405). -/
def Dev.tellPartner (d : Dev) (value : Nat) : Dev :=
  let m : PartnerMsg :=
    { version := BitVec.ofNat 8 d.fov.partnerVersion, role := d.fov.role.code, slotId := d.pins.slotIdStrap, eligible := d.eligible,
      hbInAlive := d.fov.hblAlive, sequence := d.fov.sentSeq, value := value }
  (d.onFov fun f => { f with sentSeq := (f.sentSeq + 1) % 2 ^ 32 }).emit (.partner m)

/-- DEGRADED follows the two paths (R405): exactly one of them silent. -/
def Dev.judgePaths (d : Dev) : Dev :=
  let one := d.fov.ptlAlive != d.fov.hblAlive
  let was := d.fov.degraded
  let d := d.onFov fun f => { f with degraded := one }
  if one && !was then d.raise 0x0A2 else d

/-- A message of the partner's arrives. A partner that says it is CLAIMING or ACTIVE has ACT_OWN asserted (DEDUCED: assumption log, entry 33). -/
def Dev.heardPartner (d : Dev) (m : PartnerMsg) : Dev :=
  let d := d.onFov fun f =>
    { f with ptlAlive := true, ptlHeard := d.q, partnerRole := m.role, partnerEligible := m.eligible, partnerHbIn := m.hbInAlive, partnerSlot := m.slotId }
  let owns := m.role == 2 || m.role == 4
  let d := if owns then (d.onPins fun p => { p with actPeer := true }).onFov fun f => { f with peerLowAt := none } else d
  (d.bump 0x0E 0 6 1)

/-! ## Roles at start-up (R400, R401, R403) -/

/-- Start-up step 12 begins: a module that finds ACT_PEER high is STANDBY; another watches it and, in slot B, listens. -/
def Dev.settleRole (d : Dev) : Dev :=
  if d.pins.actPeer then d.setRole .standby
  else d.onFov fun f =>
    { f with peerLowAt := some (f.peerLowAt.getD d.q), discoverAt := if d.pins.slotIdStrap then some (d.q + quantaMs (clampNat 100 1000 (d.fld Reg.fovTiming2 0 10))) else none }

/-- ACT_OWN is asserted and the guard runs (R400, R401). -/
def Dev.claim (d : Dev) : Dev :=
  (d.onPins fun p => { p with actOwn := true }).onFov fun f => { f with guardAt := some (d.q + quantaUs 100), peerLowAt := none }

/-- Whether ACT_PEER has been low for 2 ms at quantum `q`. -/
def Dev.peerLow (d : Dev) : Option Nat := if d.pins.actPeer then none else d.fov.peerLowAt.map fun t => t + quantaMs 2

/-- Whether the module waits to claim at start-up: slot A, or slot B once discovery has timed out (R403). -/
def Dev.mayClaim (d : Dev) : Bool :=
  d.fov.role == .init && d.clk.step == 12 && d.fov.guardAt.isNone && (!d.pins.slotIdStrap || d.fov.discoverAt.isNone)

/-! ## The takeover sequence (R409 to R411) -/

/-- Step 1: FENCE_OUT# is asserted. -/
def Dev.takeoverBegin (d : Dev) : Dev :=
  let d := (d.setRole .takeover).onFov fun f => { f with tstep := 1, declaredAt := d.q, fenceAt := some (d.q + quantaMs 20), fenced := true, blocked := false, releaseAt := none }
  (d.onPins fun p => { p with fenceOut := true }).countFov 1

/-- Step 3: the interlock is seized once ACT_PEER has been low for 2 ms. -/
def Dev.takeoverSeize (d : Dev) : Dev :=
  d.onFov fun f => { f with tstep := 3, fenceAt := none, cutAt := none, blocked := false, peerLowAt := if d.pins.actPeer then none else some (f.peerLowAt.getD d.q) }

/-- Step 2: the partner's input is cut. -/
def Dev.takeoverCut (d : Dev) : Dev :=
  let cut := d.q + quantaMs (clampNat 10 1000 (d.fld Reg.fovTiming 0 16))
  let d := (d.onPins fun p => { p with partnerPwrEn := false }).onFov fun f => { f with tstep := 2, fenceAt := none, cutAt := some cut, pwrCut := true }
  let d := (d.raise 0x0A5).countFov 2
  if d.pins.actPeer then d else d.takeoverSeize

/-- Step 4: every member drive's reservation is acquired. -/
def Dev.takeoverAcquire (d : Dev) : Dev := (d.onFov fun f => { f with tstep := 4, guardAt := none }).acquireAll

/-- Whether step 4 has ended: each drive has acquired, or has entered escalation (R409). -/
def Dev.allAcquired (d : Dev) : Bool :=
  (List.range d.members).all fun m =>
    let s := d.slotAt (d.memberSlot m)
    48 ≤ d.memberSlot m || s.holder || s.drive != .ready

/-- Step 5: the mirror is replayed when it was LIVE, else replay and map load run in full (R307). -/
def Dev.takeoverReplay (d : Dev) : Dev :=
  let full := d.fov.resumeFull || d.blt.mirror != .live
  let d := d.onFov fun f => { f with tstep := 5, resumeFull := full }
  if full then d.onBlt fun b => { b with replay := 0, mirror := .none } else d.replayMirror

/-- The host-role links that are up. -/
def Dev.hostLinks (d : Dev) : List Nat :=
  (d.tpk.ports.filter fun p => p.role == 0).flatMap fun p => ((List.range 8).filter fun s => bit p.up s).map fun s => 8 * p.num + s

/-- Step 6: one announcement of each ACTIVE_ONLY own address on every host-role link (R108, R409). -/
def Dev.announceAll (d : Dev) : Dev :=
  let own := d.tpk.tables.filter fun e => e.1 / 65536 == 2 && bit (e.2.getD 0 0) 31 && bit (e.2.getD 0 0) 13
  d.emitAll (own.flatMap fun e => d.hostLinks.map fun l =>
    Output.announce (e.2.getD 2 0 + 2 ^ 32 * (e.2.getD 3 0 + 2 ^ 32 * (e.2.getD 4 0 + 2 ^ 32 * e.2.getD 5 0))) (bit (e.2.getD 0 0) 12) l)

/-- A livery that a handover froze serves again (R415). -/
def Dev.thawAll (d : Dev) : Dev :=
  d.forEach (d.lvy.liveries.filter fun l => l.state == LiveryState.freezing || l.state == LiveryState.frozen) fun d l =>
    ((d.setLivery l.num .service).setFreezeDrop l.num false).raiseL 0x154 (some l.num)

/-- Every livery's generation advances at the entry to active service (R216). -/
def Dev.advanceAll (d : Dev) : Dev := d.forEach d.lvy.liveries fun d l => d.advanceGeneration l.num none

/-- Step 7: generations advance, key counts start, host work is admitted. -/
def Dev.takeoverEnd (d : Dev) : Dev :=
  let us := min (toUs (d.q - d.fov.declaredAt)) 0xFFFFF
  let live := !d.fov.resumeFull
  let back := d.fov.releasedAt != 0
  let d := d.advanceAll.takeoverKeys
  let d := if back then d.thawAll else d
  let rel := if d.flag Reg.fovCtl 1 ∧ d.fov.fenced then some (d.q + quantaMs (1000 * clampNat 1 3600 (d.fld Reg.fovTiming2 20 12))) else none
  let d := (d.onFov fun f => { f with tstep := 7, lastUs := us, releaseAt := rel, resumeFull := false, releasedAt := 0 }).countFov 0
  let d := (d.setRole .active).raise 0x0A7
  let d := if 800000 < us && live then d.raise 0x0A8 else d
  if back then d else d.tellPartner us

/-- The takeover goes on as far as it can. -/
def Dev.takeoverProgress (d : Dev) : Dev :=
  if d.fov.role ≠ .takeover then d
  else if d.fov.tstep = 4 then (if d.allAcquired then d.takeoverReplay else d)
  else if d.fov.tstep = 5 then (if d.blt.replay = 3 then (d.onFov fun f => { f with tstep := 6 }).announceAll else d)
  else if d.fov.tstep = 6 then d.takeoverEnd
  else d

/-- A path has fallen silent (R405 to R408). -/
def Dev.pathSilent (d : Dev) (line : Bool) : Dev :=
  let d := (d.onFov fun f => { f with ptlAlive := f.ptlAlive && line, hblAlive := f.hblAlive && !line }).countFov (if line then 5 else 4)
  let d := d.judgePaths
  if d.fov.ptlAlive || d.fov.hblAlive then d
  else if d.fov.role = .active then (d.raise 0x0A3).loseMirror
  else if d.fov.role = .standby then
    let d := (d.raise 0x0A4).countFov 8
    if !d.eligible then d.raise 0x0AA else if d.flag Reg.fovCtl 0 then d.takeoverBegin else d
  else d

/-- FENCE_OUT# is released and PARTNER_PWR_EN raised together (R412); a pulse of R498 still holds the pin low. -/
def Dev.releaseFence (d : Dev) : Dev :=
  (d.onPins fun p => { p with fenceOut := false, partnerPwrEn := d.pes.partnerPulse.isNone }).onFov fun f => { f with fenced := false, pwrCut := false, releaseAt := none }

/-! ## Planned handover (R414, R415) -/

/-- Whether the partner checks of R414 step 1 pass. -/
def Dev.handoverReady (d : Dev) : Bool :=
  d.fov.partnerRole == 1 && d.fov.partnerEligible && d.blt.mirror == .live && d.fov.ptlAlive && d.fov.hblAlive

/-- The liveries to carry, each once (R416). -/
def carriedList (p : List Byte) : List Nat × List ClampEntry :=
  (List.range 4).foldl (fun (a : List Nat × List ClampEntry) i =>
    let n := fieldAt p i 1
    if n = 0xFF then a
    else if n ∈ a.1 then (a.1, a.2 ++ [⟨i, 0, 8, 3, n, 0xFF⟩])
    else (a.1 ++ [n], a.2)) ([], [])

/-- FOV_HANDOVER is accepted: the role is HANDOVER. -/
def Dev.runFovHandover (d : Dev) (c : Cmd) : Dev :=
  let l := carriedList c.pkt.params
  if d.fov.role ≠ .active then d.fail c 0x8008 0x1002
  else if l.1.any fun n => (d.livery? n).isNone then d.rangeFault c 0
  else if !d.handoverReady then d.fail c 0x8008 0x1001
  else (d.acceptLong c 0 l.2 []).onFov fun f => { f with role := .handover, roleRts := d.now, carried := l.1 }

/-- The reservations of every drive that this module holds are released. -/
def Dev.releaseDrives (d : Dev) : Dev :=
  d.forEach (d.drv.slots.filter Slot.holder) fun d s => ((d.submit s.num (.admin 0x1500) 0 0 6 (.admin 0x1500)).1).onSlot s.num fun s => { s with holder := false }

/-- Step 5: the reservations and ACT_OWN go, and HANDOVER is sent. -/
def Dev.handOver (d : Dev) : Dev :=
  let d := d.releaseDrives.onPins fun p => { p with actOwn := false }
  let until_ := d.q + quantaMs (clampNat 100 10000 (d.fld Reg.fovTiming 16 16))
  (d.onFov fun f => { f with releasedAt := d.q, handoverAt := some until_ }).tellPartner d.lastRsn

/-- A step of FOV_HANDOVER (R414). -/
def Dev.handoverStep (d : Dev) (slot : Nat) (prog : List Nat) : Dev × StepEnd :=
  let busy := d.lvy.liveries.filter fun l => !(d.qpsOf l.num).isEmpty || d.hqe.controllers.any (fun k => k.livery == l.num) || d.rae.inks.any fun k => k.livery == l.num
  match prog with
  | [] =>
    if !d.handoverReady then ({ d with fov := { d.fov with role := .active, roleRts := d.now } }, .done 0x8008 0x1001 [])
    else (d.forEach (busy.filter fun l => l.state == LiveryState.service) fun d l => d.setLivery l.num .freezing, .more [1, d.q])
  | [1, t] =>
    let froze := d.lvy.liveries.filter fun l => l.state == LiveryState.freezing
    if froze.any fun l => d.unfinished l.num t then (d, .waits prog)
    else (d.forEach froze fun d l => d.setFreezeDrop l.num true, .waits [2])
  | [2] =>
    let froze := d.lvy.liveries.filter fun l => l.state == LiveryState.freezing
    if froze.any fun l => d.inFlight l.num then (d, .waits prog)
    else (d.forEach froze fun d l => (d.setLivery l.num .frozen).raiseL 0x153 (some l.num), .more [3])
  | [3] => (d.emitAll ((List.range d.fov.carried.length).map Output.partnerImage), .more [4])
  | [4] =>
    if d.lastRsn ≤ d.blt.mirrored ∧ (d.blt.head = 0 ∨ d.posAcked (d.blt.head - 1)) then
      (d.handOver.onFov fun f => { f with handoverSlot := some slot }, .waits [5])
    else (d, .waits prog)
  | _ => (d, .waits prog)

/-- RESUMED arrives (R414 step 7): the reply is formed against the generations held now; then the partner's are taken on, the remaining
service state goes and the module is STANDBY. -/
def Dev.resumed (d : Dev) : Dev :=
  let us := toUs (d.q - d.fov.releasedAt)
  let d := match d.fov.handoverSlot.bind d.longOp? with
    | some l => d.endLong l 0 0 (leBytes 4 us ++ leBytes 1 d.fov.carried.length ++ leBytes 3 0)
    | none => d
  let d := d.forEach d.lvy.liveries fun d l => (d.destroyService l.num).onLivery l.num fun l => { l with state := .service, generation := nextGeneration l.generation }
  let d := d.onFov fun f => { f with handoverAt := none, handoverSlot := none, carried := [], releasedAt := 0, tstep := 0 }
  let d := d.onBlt fun b => { b with records := [], open_ := [], positions := [], payloads := [], mirror := .none, mirrored := 0, warm := [], warmPayloads := [], replay := 0 }
  (((d.setUse 1 0).setUse 2 0).setRole .standby |>.raise 0x0AB).countFov 6

/-- HANDOVER arrives on a standby (R414 step 6): it takes over from step 3. -/
def Dev.handoverArrives (d : Dev) : Dev :=
  if d.fov.role = .standby then ((d.setRole .takeover).onFov fun f => { f with declaredAt := d.q, fenced := false }).takeoverSeize else d

/-- No RESUMED came in time (R415): the role is taken back from step 1. -/
def Dev.handoverFails (d : Dev) : Dev :=
  let slot := d.fov.handoverSlot
  let d := d.onFov fun f => { f with handoverAt := none, handoverSlot := none, carried := [], resumeFull := true }
  let d := match slot.bind d.longOp? with
    | some l => d.endLong l 0x800F 0x0901 []
    | none => d
  ((d.raise 0x0AC).countFov 7).takeoverBegin

/-! ## Commands (R416) -/

/-- FOV_CONFIGURE. -/
def Dev.runFovConfigure (d : Dev) (c : Cmd) : Dev :=
  let p := c.pkt.params
  let a := clampParam p 2 0 16 100 1000
  let b := clampParam p 4 0 16 10 1000
  let h := clampParam p 6 0 16 100 10000
  let r := clampParam p 8 0 16 1 3600
  let w := clampParam p 10 0 8 1 15
  let d := (d.setFld Reg.fovCtl 0 2 (c.par 0 1 % 4)).setFld Reg.fovTiming2 0 10 a.1
  let d := ((d.setFld Reg.fovTiming 0 16 b.1).setFld Reg.fovTiming 16 16 h.1).setFld Reg.fovTiming2 20 12 r.1
  (d.setFld Reg.fovTiming2 16 4 w.1).doneClamped c [] (reservedParam p 0 2 6 ++ a.2 ++ b.2 ++ h.2 ++ r.2 ++ w.2)

/-- FOV_QUERY. -/
def Dev.runFovQuery (d : Dev) (c : Cmd) : Dev :=
  let f := d.fov
  let flags := b2n f.ptlAlive + 2 * b2n f.hblAlive + 4 * b2n f.degraded + 8 * b2n d.eligible + 16 * b2n d.pins.fenceOut + 32 * b2n f.pwrCut + 64 * b2n f.blocked
  d.done c (leBytes 1 f.role.code ++ leBytes 1 f.partnerRole ++ leBytes 1 flags ++ leBytes 1 (b2n d.pins.slotIdStrap) ++ leBytes 4 (d.ctr 0x0D 0 0)
    ++ leBytes 8 f.roleRts ++ leBytes 4 f.lastUs ++ leBytes 12 0)

/-! ## Events of the table -/

/-- ACT_PEER_LOW_2MS: ACT_PEER has been low continuously for 2 ms (R400, R403, R410). -/
def execActPeerLow2ms (s : State) : Host.Outcome State Fault Refusal :=
  s.run true fun d =>
    match d.peerLow with
    | none => d
    | some t =>
      if d.mayClaim then (((d.upTo t).setRole .claiming).claim)
      else if d.fov.role = .takeover ∧ d.fov.tstep = 3 ∧ d.fov.guardAt = none ∧ !d.pins.actOwn then (d.upTo t).claim
      else if d.fov.role = .takeover ∧ d.fov.tstep = 2 then (d.upTo t).takeoverSeize.claim
      else d

/-- GUARD_EXPIRY: the guard has passed (R401, R403). -/
def execGuardExpiry (s : State) : Host.Outcome State Fault Refusal :=
  s.run true fun d =>
    match d.fov.guardAt with
    | none => d
    | some t =>
      let d := (d.upTo t).onFov fun f => { f with guardAt := none }
      if d.fov.role = .claiming then d.setRole .active
      else if d.fov.role = .takeover ∧ d.fov.tstep = 3 then d.takeoverAcquire
      else d

/-- CLAIM_LOST: ACT_PEER is high in the guard; the module in slot B gives way, the one in slot A keeps ACT_OWN (R401). One that was
CLAIMING is INIT again, finds ACT_PEER high and becomes STANDBY (R403). -/
def execClaimLost (s : State) : Host.Outcome State Fault Refusal :=
  s.run true fun d =>
    if d.fov.guardAt.isNone || !d.pins.slotIdStrap then d
    else
      let d := (d.onPins fun p => { p with actOwn := false, actPeer := true }).onFov fun f => { f with guardAt := none, peerLowAt := none }
      let d := (d.countFov 3).raise 0x0A9
      if d.fov.role = .claiming then (d.setRole .init).settleRole else d

/-- DISCOVER_TIMEOUT: neither heartbeat path was heard for DISCOVER_MS, so the module in slot B may claim (R403). -/
def execDiscoverTimeout (s : State) : Host.Outcome State Fault Refusal :=
  s.run true fun d =>
    match d.fov.discoverAt with
    | none => d
    | some t =>
      if d.fov.ptlAlive || d.fov.hblAlive then d
      else
        let d := (d.upTo t).onFov fun f => { f with discoverAt := none }
        match d.peerLow with
        | some u => if u ≤ d.q ∧ d.mayClaim then (d.setRole .claiming).claim else d
        | none => d

/-- HEARTBEAT_SEND: a heartbeat message leaves every 100 µs while the paths run (R404). -/
def execHeartbeatSend (s : State) : Host.Outcome State Fault Refusal :=
  s.run true fun d => if d.pathsRun && d.flag Reg.ptlCtl 0 then (d.tellPartner 0).bump 0x0E 0 5 1 else d

/-- HB_LINE_TOGGLE: the heartbeat line changes level every 500 µs while the paths run (R404). -/
def execHbLineToggle (s : State) : Host.Outcome State Fault Refusal :=
  s.run true fun d => if d.pathsRun then d.onPins fun p => { p with hbOut := !p.hbOut } else d

/-- A kick of the watchdog (R404). -/
def Dev.kickWdog (d : Dev) : Dev := d.onFov fun f => { f with kickAt := d.q, running := true }

/-- FOV_WDOG_KICK: a write of 1 to FOV_WDOG.KICK (R404). -/
def execFovWdogKick (_m : Master) (s : State) : Host.Outcome State Fault Refusal := s.run true Dev.kickWdog

/-- WDOG_EXPIRY: no kick within WDOG_MS: both paths stop (R404). -/
def execWdogExpiry (s : State) : Host.Outcome State Fault Refusal :=
  s.run true fun d =>
    if d.fov.running then (d.upTo (d.fov.kickAt + quantaMs (max 1 (d.fld Reg.fovTiming2 16 4)))).onFov fun f => { f with running := false } else d

/-- HEARTBEAT_RECEIVED (R405). -/
def execHeartbeatReceived (msg : PartnerMsg) (s : State) : Host.Outcome State Fault Refusal :=
  s.run msg.wf fun d => if d.flag Reg.ptlCtl 0 then (d.heardPartner msg).judgePaths else d

/-- HB_IN_CHANGE: HB_IN_P/N changes level (R405). -/
def execHbInChange (s : State) : Host.Outcome State Fault Refusal :=
  s.run true fun d => ((d.onPins fun p => { p with hbIn := !p.hbIn }).onFov fun f => { f with hblAlive := true, hblHeard := d.q }).judgePaths

/-- PATH_SILENT: 1 ms without a message, or 5 ms without a level change (R405). -/
def execPathSilent (line : Bool) (s : State) : Host.Outcome State Fault Refusal :=
  s.run true fun d =>
    if line then (if d.fov.hblAlive then (d.upTo (d.fov.hblHeard + quantaMs 5)).pathSilent true else d)
    else if d.fov.ptlAlive then (d.upTo (d.fov.ptlHeard + quantaMs 1)).pathSilent false
    else d

/-- FENCE_ACK_SEEN: FENCE_ACK_IN ends step 1, and no power cut follows (R409). -/
def execFenceAckSeen (s : State) : Host.Outcome State Fault Refusal :=
  s.run true fun d =>
    let d := d.onPins fun p => { p with fenceAckIn := true }
    if d.fov.role = .takeover ∧ d.fov.tstep = 1 then d.takeoverSeize else d

/-- FENCE_TIMEOUT: 20 ms pass without FENCE_ACK_IN, and the partner's input is cut (R409). -/
def execFenceTimeout (s : State) : Host.Outcome State Fault Refusal :=
  s.run true fun d =>
    match d.fov.fenceAt with
    | some t => if d.fov.role = .takeover ∧ d.fov.tstep = 1 then (d.upTo t).takeoverCut else d
    | none => d

/-- ACT_PEER_FALL: the partner's ACT_OWN falls; it ends step 2 (R409). -/
def execActPeerFall (s : State) : Host.Outcome State Fault Refusal :=
  s.run true fun d =>
    let d := (d.onPins fun p => { p with actPeer := false }).onFov fun f => { f with peerLowAt := some d.q }
    if d.fov.role = .takeover ∧ d.fov.tstep = 2 ∧ !d.fov.blocked then d.takeoverSeize else d

/-- TAKEOVER_BLOCKED: ACT_PEER has not fallen within CUT_MS of the start of step 2 (R410). -/
def execTakeoverBlocked (s : State) : Host.Outcome State Fault Refusal :=
  s.run true fun d =>
    match d.fov.cutAt with
    | some t =>
      if d.fov.role = .takeover ∧ d.fov.tstep = 2 ∧ d.pins.actPeer then ((d.upTo t).onFov fun f => { f with blocked := true, cutAt := none }).raise 0x0A6 else d
    | none => d

/-- FENCE_IN_ASSERTED: module reset, ACT_OWN low, FENCE_ACK; slot A ignores it while its own FENCE_OUT# is asserted (R398). -/
def execFenceInAsserted (s : State) : Host.Outcome State Fault Refusal :=
  s.run true fun d =>
    let d := d.onPins fun p => { p with fenceIn := true }
    if d.pins.fenceOut && !d.pins.slotIdStrap then d else (d.enterReset 3).onPins fun p => { p with fenceAck := true }

/-- FENCE_IN_RELEASED: the module starts again from the always-on island step (R399, R516). -/
def execFenceInReleased (s : State) : Host.Outcome State Fault Refusal :=
  s.run true fun d =>
    let d := d.onPins fun p => { p with fenceIn := false, fenceAck := false }
    if d.clk.active.contains 3 then d.leaveReset 3 else d

/-- A write of FOV_CTL.RELEASE (R412). -/
def Dev.fenceReleased (d : Dev) : Dev :=
  let d := if d.fov.fenced then d.releaseFence else d
  if d.pins.fenceIn && !d.pins.fenceAck then (d.enterReset 3).onPins fun p => { p with fenceAck := true } else d

/-- FENCE_RELEASE: a write of 1 to FOV_CTL.FENCE_RELEASE (R412). Slot A then obeys a FENCE_IN# that it ignored (R398). -/
def execFenceRelease (_m : Master) (s : State) : Host.Outcome State Fault Refusal := s.run true Dev.fenceReleased

/-- AUTO_RELEASE_EXPIRY: RELEASE_S after the end of step 7 (R412). -/
def execAutoReleaseExpiry (s : State) : Host.Outcome State Fault Refusal :=
  s.run true fun d =>
    match d.fov.releaseAt with
    | some t => if d.flag Reg.fovCtl 1 then (d.upTo t).releaseFence else d
    | none => d

/-- HANDOVER_MESSAGE (R403, R414). -/
def execHandoverMessage (msg : PartnerMsg) (s : State) : Host.Outcome State Fault Refusal :=
  s.run msg.wf fun d => if d.flag Reg.ptlCtl 0 then ((d.heardPartner msg).judgePaths).handoverArrives else d

/-- RESUMED_MESSAGE (R403, R414). -/
def execResumedMessage (msg : PartnerMsg) (s : State) : Host.Outcome State Fault Refusal :=
  s.run msg.wf fun d =>
    let d := if d.flag Reg.ptlCtl 0 then (d.heardPartner msg).judgePaths else d
    if d.fov.role = .handover ∧ d.fov.handoverAt.isSome then d.resumed else d

/-- HANDOVER_TIMEOUT: no RESUMED within HANDOVER_MS of the release of ACT_OWN (R403, R415). -/
def execHandoverTimeout (s : State) : Host.Outcome State Fault Refusal :=
  s.run true fun d =>
    match d.fov.handoverAt with
    | some t => if d.fov.role = .handover then (d.upTo t).handoverFails else d
    | none => d

/-- The lanes of the partner link that are up change (R417). -/
def Dev.lanesChange (d : Dev) (lanes : Nat) : Dev :=
  let was := d.fov.lanes
  let lost := ((List.range 8).filter fun i => bit was i && !(bit lanes i)).length
  let d := d.onFov fun f => { f with lanes := lanes, partnerVersion := if lanes = 0 then 0 else f.partnerVersion }
  let d := if lost = 0 then d else (d.bump 0x0E 0 4 lost).raise 0x0B2
  if was = 0 ∧ lanes ≠ 0 then d.raise 0x0B0 else if was ≠ 0 ∧ lanes = 0 then d.raise 0x0B1 else d

/-- PARTNER_LINK_CHANGE: the lanes that are up, one bit each. -/
def execPartnerLinkChange (lanes : Nat) (s : State) : Host.Outcome State Fault Refusal :=
  s.run (decide (lanes < 256)) fun d => d.lanesChange lanes

end Sys2Proof.Machine
end

