-- ==== Sys2Proof/Machine/Power.lean ====
section
/-! DEFINITION. Power entry (R491 to R505): the input window, the insertion delay, the ramp, faults and retries, the state kept across
removal, the partner's pulse, and power failure. -/

namespace Sys2Proof.Machine

/-- Whether the input counts as inside the window in a PES state (R491): 43 V rising and 42 V falling, 62 V rising and 61 V falling. -/
def inWindow (s : PesState) (mv : Nat) : Bool :=
  match s with
  | .off => decide (43000 ≤ mv) && decide (mv < 62000)
  | .ov => decide (42000 < mv) && decide (mv ≤ 61000)
  | _ => decide (42000 < mv) && decide (mv < 62000)

/-- A bit of PES_FAULT is set, and LAST names it. -/
def Dev.pesFault (d : Dev) (i : Nat) : Dev := d.setRaw Reg.pesFault (setBits (setBit (d.raw Reg.pesFault) i) 16 4 i)

/-- The FET turns off under a running module: it is dark until power good (R504, R514). -/
def Dev.goDark (d : Dev) : Dev := d.moduleCleared.onClk fun c => { c with inReset := true, active := [0] }

/-- The FET is off from now on, and the supervisor is in state `s`. -/
def Dev.fetOff (d : Dev) (s : PesState) : Dev :=
  let d := if d.pes.state = .on then d.goDark else d
  d.onPes fun p => { p with state := s, onSince := none, delayEnd := none }

/-- The end of the off-time of the last fault (R497, R498). -/
def Pes.offEnd (p : Pes) : Nat := match p.faultAt with | some t => t + quantaMs 2560 | none => 0

/-- The insertion delay starts (R492); no ramp starts within the off-time of the last fault (R498, R500). -/
def Dev.startDelay (d : Dev) : Dev := d.onPes fun p => { p with state := .delay, delayEnd := some (max (d.q + quantaMs p.insertMs) p.offEnd) }

/-- A ramp starts (R493). -/
def Dev.startRamp (d : Dev) : Dev := (d.onPes fun p => { p with state := .ramp, delayEnd := none }).bump 0x03 0 1 1

/-- The input has entered the window (R491, R492, R500). -/
def Dev.inputEnters (d : Dev) : Dev :=
  let p := d.pes
  if !d.pins.pwrEnIn then d.onPes fun p => { p with state := .held }
  else if p.state = .latched then d
  else
    let resumed := p.state == .cool && decide (d.q < p.offEnd)
    let d := if resumed then (d.setRaw Reg.pesFault (setBit (d.raw Reg.pesFault) 7)).bump 0x03 0 5 1 else d
    d.startDelay

/-- The input returns after it was gone (R499): the kept state is restored when it is still held. -/
def Dev.inputReturns (d : Dev) : Dev :=
  (d.onPes fun p => { p with inputGone := false, kept := p.keptUntil.isSome, keptUntil := none, insertMs := p.insertNext }).bump 0x03 0 0 1

/-- A fault that turns the FET off (R493 to R497). -/
def Dev.pesTrip (d : Dev) (i : Nat) : Dev :=
  let d := ((d.pesFault i).bump 0x03 0 2 1).onPes fun p => { p with faultAt := some d.q }
  if d.pes.retries = 7 then (((d.setRaw Reg.pesFault (setBit (d.raw Reg.pesFault) 6)).bump 0x03 0 3 1).fetOff .latched) else d.fetOff .cool

/-- The input crosses a threshold and stands at `mv` (R491, R505). -/
def Dev.inputAt (d : Dev) (mv : Nat) : Dev :=
  let s := d.pes.state
  let d := d.onPes fun p => { p with inputMv := mv }
  let powered := s == .on || s == .ramp || s == .delay
  let d := if d.pes.inputGone && inWindow .off mv then d.inputReturns else d
  if 62000 ≤ mv ∧ s ≠ .cool ∧ s ≠ .latched then (if s == .on || s == .ramp then d.pesFault 1 else d).fetOff .ov
  else if mv ≤ 42000 ∧ (powered || s == .ov) then (if s == .on || s == .ramp then d.pesFault 0 else d).fetOff .off
  else if (s == .off || s == .ov) && inWindow s mv then d.inputEnters
  else if (s == .cool || s == .latched) && inWindow .off mv && d.pes.kept && s == .cool && d.pes.delayEnd.isNone then d.inputEnters
  else
    let d := if s = .on ∧ mv < 44000 then d.raise 0x007 else d
    if s = .on ∧ 60000 < mv then d.raise 0x008 else d

/-- PWR_EN_IN falls or rises (R399, R492, R498). -/
def Dev.pwrEnIn (d : Dev) (level : Bool) : Dev :=
  let was := d.pins.pwrEnIn
  let s := d.pes.state
  let d := d.onPins fun p => { p with pwrEnIn := level }
  if was && !level then
    let d := d.onPes fun p => { p with pwrEnLowAt := some d.q }
    if s == .on || s == .ramp || s == .delay then (if s == .delay then d else d.pesFault 8).fetOff .held else d
  else if !was && level then
    let long := match d.pes.pwrEnLowAt with | some t => decide (t + quantaMs 100 ≤ d.q) | none => false
    let d := d.onPes fun p => { p with pwrEnLowAt := none, retries := if long then 0 else p.retries }
    if (s == .latched && long) || s == .held then (if inWindow .off d.pes.inputMv then d.startDelay else d.onPes fun p => { p with state := .off }) else d
  else d

/-! ## Events of the table -/

/-- INPUT_THRESHOLD (R491). -/
def execInputThreshold (millivolts : Nat) (s : State) : Host.Outcome State Fault Refusal :=
  s.run (decide (millivolts < 65536)) fun d => d.inputAt millivolts

/-- INSERTION_DELAY_EXPIRY: the insertion delay, and any off-time, has passed: the ramp starts (R492, R500). -/
def execInsertionDelayExpiry (s : State) : Host.Outcome State Fault Refusal :=
  s.run true fun d =>
    match d.pes.delayEnd with
    | some t => if d.pes.state = .delay then (d.upTo t).startRamp else d
    | none => d

/-- INRUSH_TRIP: 40 ms at the limit (R493). -/
def execInrushTrip (s : State) : Host.Outcome State Fault Refusal := s.run true fun d => if d.pes.state = .ramp then d.pesTrip 2 else d

/-- ENERGY_TRIP: 4.5 J in the FET (R494). -/
def execEnergyTrip (s : State) : Host.Outcome State Fault Refusal := s.run true fun d => if d.pes.state = .ramp then d.pesTrip 3 else d

/-- POWER_GOOD: the ramp ends, and the module starts (R495, R514). -/
def execPowerGood (s : State) : Host.Outcome State Fault Refusal :=
  s.run true fun d => if d.pes.state = .ramp then (d.onPes fun p => { p with state := .on, onSince := some d.q }).powerOnReset else d

/-- BREAKER_TRIP: 14 A for 1 ms (R496). -/
def execBreakerTrip (s : State) : Host.Outcome State Fault Refusal := s.run true fun d => if d.pes.state = .on then d.pesTrip 4 else d

/-- FAST_TRIP: 40 A (R496). -/
def execFastTrip (s : State) : Host.Outcome State Fault Refusal := s.run true fun d => if d.pes.state = .on then d.pesTrip 5 else d

/-- OFFTIME_EXPIRY: 2,560 ms after the fault a new ramp starts at once (R497). -/
def execOfftimeExpiry (s : State) : Host.Outcome State Fault Refusal :=
  s.run true fun d =>
    if d.pes.state = .cool ∧ !d.pes.inputGone then
      let d := d.upTo d.pes.offEnd
      if !d.pins.pwrEnIn then d.onPes fun p => { p with state := .held }
      else if inWindow .cool d.pes.inputMv then (d.onPes fun p => { p with retries := min 7 (p.retries + 1) }).startRamp
      else d.onPes fun p => { p with state := if 62000 ≤ p.inputMv then .ov else .off }
    else d

/-- RETRY_COUNT_RESET: 60 s in ON without a fault (R497). -/
def execRetryCountReset (s : State) : Host.Outcome State Fault Refusal :=
  s.run true fun d =>
    match d.pes.onSince with
    | some t => (d.upTo (t + quantaMs 60000)).onPes fun p => { p with retries := 0 }
    | none => d

/-- PWR_EN_IN_CHANGE (R399, R498). -/
def execPwrEnInChange (level : Bool) (s : State) : Host.Outcome State Fault Refusal := s.run true fun d => d.pwrEnIn level

/-- PES_CTL.PARTNER_CYCLE: PARTNER_PWR_EN goes low for 200 ms (R498). -/
def Dev.partnerCycle (d : Dev) : Dev :=
  (d.onPins fun p => { p with partnerPwrEn := false }).onPes fun p => { p with partnerPulse := some (d.q + quantaMs 200) }

/-- PARTNER_CYCLE: a write of 1 to PES_CTL.PARTNER_CYCLE drives PARTNER_PWR_EN low for 200 ms (R498). -/
def execPartnerCycle (_m : Master) (s : State) : Host.Outcome State Fault Refusal := s.run true Dev.partnerCycle

/-- PARTNER_CYCLE_END: the pulse ends; the pin stays low while the failover unit holds it (R498). -/
def execPartnerCycleEnd (s : State) : Host.Outcome State Fault Refusal :=
  s.run true fun d =>
    match d.pes.partnerPulse with
    | some t => ((d.upTo t).onPes fun p => { p with partnerPulse := none }).onPins fun p => { p with partnerPwrEn := !d.fov.pwrCut }
    | none => d

/-- INPUT_LOST: the module is pulled or the shelf loses its supply; the state is kept for at least 3 s (R499). -/
def execInputLost (s : State) : Host.Outcome State Fault Refusal :=
  s.run true fun d =>
    let st := d.pes.state
    (d.fetOff (if st = .latched then .latched else if st = .cool then .cool else .off)).onPes fun p =>
      { p with inputMv := 0, inputGone := true, keptUntil := some (d.q + quantaMs 3000), kept := false }

/-- KEPT_STATE_EXPIRY: the kept state is lost, between 3 s and 30 s after the input (R499). -/
def execKeptStateExpiry (s : State) : Host.Outcome State Fault Refusal :=
  s.run true fun d =>
    match d.pes.keptUntil with
    | some t =>
      if d.pes.inputGone then
        ((d.upTo t).setRaw Reg.pesFault 0).onPes fun p => { p with keptUntil := none, retries := 0, faultAt := none, state := .off }
      else d
    | none => d

/-- PWR_FAIL_ASSERTED: PWR_FAIL# stops the module (R303, R501). -/
def execPwrFailAsserted (s : State) : Host.Outcome State Fault Refusal :=
  s.run true fun d => if d.pins.pwrFail then d else if d.pes.pfInternal then d.onPins fun p => { p with pwrFail := true }
    else (d.onPins fun p => { p with pwrFail := true }).powerFails

/-- PF_INTERNAL_THRESHOLD: the input has been below PF_THR for 10 µs, with PF_INT_EN (R502). -/
def execPfInternalThreshold (s : State) : Host.Outcome State Fault Refusal :=
  s.run true fun d =>
    if d.flag Reg.pesCfg 25 && decide (d.pes.inputMv < 100 * d.fld Reg.pesCfg 16 9) && !d.pes.pfInternal then
      let was := d.pwrFail
      let d := d.onPes fun p => { p with pfInternal := true }
      if was then d else d.powerFails
    else d

/-- PWR_FAIL_DEASSERTED: PWR_FAIL# is released; the 10 ms count starts (R503). -/
def execPwrFailDeasserted (s : State) : Host.Outcome State Fault Refusal :=
  s.run true fun d =>
    if d.pwrFail then (d.onPins fun p => { p with pwrFail := false }).onPes fun p => { p with pfInternal := false, pfReleasedAt := some d.q } else d

/-- PWR_FAIL_RELEASED: 10 ms after the release, with the input in the window, module reset ends (R503). -/
def execPwrFailReleased (s : State) : Host.Outcome State Fault Refusal :=
  s.run true fun d =>
    match d.pes.pfReleasedAt with
    | some t =>
      let d := d.upTo (t + quantaMs 10)
      if inWindow d.pes.state d.pes.inputMv then (d.onPes fun p => { p with pfReleasedAt := none }).leaveReset 4 else d
    | none => d

end Sys2Proof.Machine
end

