-- ==== Sys2Proof/Machine/Startup.lean ====
section
/-! DEFINITION. Start-up (R506 to R513), the firmware banks (R517 to R521) and module reset by pin and register. -/

namespace Sys2Proof.Machine

/-! ## Firmware banks (R517 to R519) -/

/-- A bank by number. -/
def Clk.bank (c : Clk) (i : Nat) : Bank := c.banks.getD i ⟨0, 0, 0, 0⟩

/-- `f` applied to bank `i`. -/
def Clk.onBank (c : Clk) (i : Nat) (f : Bank → Bank) : Clk := { c with banks := c.banks.modify i f }

/-- The bank that step 9 tries first (R518, R519). -/
def Clk.bootFirst (c : Clk) : Nat := if c.trialRunning then c.previous else c.preferred

/-- Step 9 loads a valid bank, the other one with FW_FALLBACK; with none, the step fails (R518, R519). TRIAL_RUNNING left from the last
start stays noted until step 10 has raised FW_TRIAL_FAILED. -/
def Dev.loadFirmware (d : Dev) : Dev :=
  let b := d.clk.bootFirst
  let other := 1 - b
  let trial := d.clk.trial && !d.clk.trialRunning
  if (d.clk.bank b).state = 1 then
    d.onClk fun c => { c with runningBank := b, fellBack := false, fwVersion := (c.bank b).version, trial := trial, trialRunning := c.trialRunning || trial }
  else if (d.clk.bank other).state = 1 then
    (d.onClk fun c => { c with runningBank := other, fellBack := true, fwVersion := (c.bank other).version, trial := trial, trialRunning := c.trialRunning || trial }).raise 0x024
  else d.onClk fun c => { c with failed := true, cause := 3 }

/-! ## The steps (R506 to R513) -/

/-- The maximum of a step in quanta (R506). -/
def stepMax (n : Nat) : Nat :=
  match n with
  | 1 => quantaMs 400
  | 2 => quantaUs 24300
  | 3 => quantaMs 12
  | 4 => quantaMs 2
  | 5 => quantaMs 5
  | 6 => quantaMs 400
  | 7 => quantaMs 1600
  | 8 => quantaUs 100
  | 9 => quantaMs 1010
  | 10 => quantaMs 300
  | 11 => quantaMs 30000
  | 12 => quantaUs 1002100
  | 13 => quantaMs 350
  | 14 => quantaMs 2000
  | 15 => 0
  | _ => quantaMs 5

/-- A step begins. A standby skips step 13 (R512). -/
def Dev.beginStep (d : Dev) (n : Nat) : Dev :=
  let n := if n = 13 ∧ d.fov.role = .standby then 14 else n
  let d := d.onClk fun c => { c with step := n, stepStart := d.q }
  if n = 12 then d.settleRole else d

/-- The kept PES faults as sources, in ascending order (R504, R505). -/
def Dev.keptFaults (d : Dev) : List Nat :=
  let f := d.raw Reg.pesFault
  [(0x000, bit f 0), (0x001, bit f 1), (0x002, bit f 2 || bit f 3), (0x003, bit f 4 || bit f 5), (0x004, bit f 6), (0x005, bit f 7), (0x009, bit f 8)].filterMap
    fun x => if x.2 then some x.1 else none

/-- Step 10 (R465, R473, R504, R519, R523, R526). -/
def Dev.startRecords (d : Dev) : Dev :=
  let d := d.scanRing.trigger 0x200
  let d := (d.forEach d.keptFaults fun d s => d.raise s).raise 0x022
  let d := if bit d.clk.rstCause 5 then d.raise 0x023 else d
  if d.clk.trialRunning && !d.clk.trial then (d.onClk fun c => { c with trialRunning := false }).raise 0x025 else d

/-- The end of step 16 (R216, R513, R519). -/
def Dev.startDone (d : Dev) : Dev :=
  let d := d.onClk fun c => { c with done := true, trial := false, trialRunning := false, startMs := (d.q - c.origin) / 800000 }
  let d := if d.fov.role = .active then d.advanceAll else d
  d.raise 0x020

/-- Whether the condition that ends a step holds, as far as the state shows it. -/
def Dev.stepMayEnd (d : Dev) (n : Nat) : Bool :=
  match n with
  | 7 => d.mem.filled
  | 12 => d.fov.role == .standby || d.fov.role == .active
  | 13 => d.blt.replay == 1 || d.blt.stopped
  | 14 => d.blt.replay != 2 && d.rly.jobs.isEmpty
  | 15 => d.rul.state == .locked || d.rul.state == .free
  | _ => true

/-- What a step does that ends. -/
def Dev.endStep (d : Dev) (n : Nat) : Dev :=
  match n with
  | 5 => d.startRuling
  | 9 => d.loadFirmware
  | 10 => d.startRecords
  | 16 => d.startDone
  | _ => d

/-- The running step ends and the next begins; the first begins when none has. -/
def Dev.stepComplete (d : Dev) : Dev :=
  let n := d.clk.step
  if d.clk.inReset || d.clk.failed || d.clk.done then d
  else if n = 0 then d.beginStep 1
  else if !d.stepMayEnd n then d
  else
    let d := d.endStep n
    if d.clk.failed || d.clk.done then d
    else
      let d := if n = 9 then { d with cp := { d.cp with run := 15 } } else d
      d.beginStep (n + 1)

/-- The step whose failure a cause stands for (R509). -/
def failStep (cause : Nat) : Nat := if cause = 1 then 6 else if cause = 2 then 7 else if cause = 3 then 9 else 10

/-! ## Commands (R521) -/

/-- FW_QUERY. -/
def Dev.runFwQuery (d : Dev) (c : Cmd) : Dev :=
  let k := d.clk
  let a := k.bank 0
  let b := k.bank 1
  d.done c (leBytes 1 k.runningBank ++ leBytes 1 k.preferred ++ leBytes 1 (b2n k.trial + 2 * b2n k.fellBack) ++ leBytes 1 0 ++ leBytes 1 a.state ++ leBytes 1 b.state
    ++ leBytes 2 0 ++ leBytes 1 a.version ++ leBytes 1 b.version ++ leBytes 6 0 ++ leBytes 8 a.sequence ++ leBytes 8 b.sequence)

/-- FW_UPDATE is accepted (R520, R521). -/
def Dev.runFwUpdate (d : Dev) (c : Cmd) : Dev :=
  let b := clampParam c.pkt.params 0 0 8 0 3
  let len := c.par 4 4
  if b.1 ∈ d.lvy.busyBuffers then d.fail c 0x800B 0x0113
  else if len < 32 ∨ 50331648 < len then d.rangeFault c 4
  else d.acceptLong c 0 b.2 []

/-- The boot header in a livery image buffer (R517). -/
def Dev.fwHeader (d : Dev) (b : Nat) : List Byte := d.spaceRead false (bufferBase b) 32

/-- Whether a buffer holds a valid image of a length: the boot header, then the image (R517, R520; DEDUCED: assumption log, entry 34). -/
def Dev.fwIntact (d : Dev) (b len : Nat) : Bool :=
  let h := d.fwHeader b
  h.take 4 == [0x53, 0x44, 0x46, 0x57] && decide (fieldAt h 16 4 = len) && decide (fieldAt h 24 4 = crc32c (h.take 24))
    && decide (fieldAt h 20 4 = crc32c (d.spaceRead false (bufferBase b + 32) len))

/-- A step of FW_UPDATE (R520): the check of the image, then one 256 KiB sector at a time, then the verification. A buffer whose image no
longer holds at the last step leaves a bank that reads back wrong (DEDUCED: assumption log, entry 34). -/
def Dev.fwUpdateStep (d : Dev) (slot : Nat) (prog : List Nat) : Dev × StepEnd :=
  match d.longOp? slot with
  | none => (d, .done 0x800F 0 [])
  | some l =>
    let len := fieldAt l.pkt.params 4 4
    let b := min 3 (fieldAt l.pkt.params 0 1)
    let bank := 1 - d.clk.runningBank
    let last := ceilDiv (len + 32) 262144
    match prog with
    | [] =>
      if d.fwIntact b len then
        ((d.onClk fun c => c.onBank bank fun x => { x with state := 3 }).onLvy fun x => { x with busyBuffers := b :: x.busyBuffers }, .more [1, 0])
      else (d, .done 0x8008 0x1001 [])
    | [1, k] => if k < last then (d, .more [1, k + 1]) else (d, .more [2])
    | _ =>
      let h := d.fwHeader b
      let ok := d.fwIntact b len
      let d := d.onLvy fun x => { x with busyBuffers := x.busyBuffers.erase b }
      if ok then (d.onClk fun c => c.onBank bank fun _ => ⟨1, fieldAt h 4 1, fieldAt h 8 8, len⟩, .done 0 0 (leBytes 1 bank ++ leBytes 7 0))
      else (d.onClk fun c => c.onBank bank fun x => { x with state := 2 }, .done 0x800F 0x0C02 [])

/-- A cancelled FW_UPDATE leaves its bank invalid (R520). -/
def Dev.fwUpdateStops (d : Dev) (l : LongOp) : Dev :=
  if l.prog.isEmpty then d
  else (d.onClk fun c => c.onBank (1 - c.runningBank) fun x => { x with state := 2 }).onLvy fun x => { x with busyBuffers := x.busyBuffers.erase (min 3 (fieldAt l.pkt.params 0 1)) }

/-- FW_ACTIVATE (R521): it writes the selector. -/
def Dev.runFwActivate (d : Dev) (c : Cmd) : Dev :=
  let b := clampParam c.pkt.params 0 0 8 0 1
  let trial := bit (c.par 1 1) 0
  if (d.clk.bank b.1).state ≠ 1 then d.rangeFault c 0
  else
    let d := d.onClk fun k => { k with previous := k.runningBank, preferred := b.1, trial := trial, trialRunning := false }
    d.doneClamped c [] (b.2 ++ reservedParam c.pkt.params 1 1 7)

/-- MOD_RESET (R521). -/
def Dev.runModReset (d : Dev) (c : Cmd) : Dev := (d.done c []).commandReset

/-! ## Events of the table -/

/-- START_STEP_COMPLETE: the running step ends and the next begins (R506). -/
def execStartStepComplete (s : State) : Host.Outcome State Fault Refusal := s.run true Dev.stepComplete

/-- START_STEP_SLOW: a step runs beyond its maximum (R513). -/
def execStartStepSlow (s : State) : Host.Outcome State Fault Refusal :=
  s.run true fun d =>
    if 1 ≤ d.clk.step ∧ !d.clk.done ∧ !d.clk.failed ∧ !d.clk.inReset then (d.upTo (d.clk.stepStart + stepMax d.clk.step)).raise 0x021 else d

/-- START_STEP_FAILED: a step fails and the sequence stops (R509). -/
def execStartStepFailed (cause : Nat) (s : State) : Host.Outcome State Fault Refusal :=
  s.run (decide (1 ≤ cause) && decide (cause ≤ 4)) fun d =>
    if d.clk.step = failStep cause ∧ !d.clk.done ∧ !d.clk.inReset ∧ !d.clk.failed then d.onClk fun c => { c with failed := true, cause := cause } else d

/-- DRIVES_LATE: BOOT_MS has passed since step 11 began (R510). -/
def execDrivesLate (s : State) : Host.Outcome State Fault Refusal :=
  s.run true fun d =>
    if d.clk.step = 11 ∧ !d.clk.done ∧ !d.clk.drivesLate then
      ((d.upTo (d.clk.stepStart + quantaMs (d.fld Reg.dpcSlotpwr 16 16))).onClk fun c => { c with drivesLate := true }).raise 0x026
    else d

/-- MOD_RST_PIN: MOD_RST# goes low or high (R514, R515). -/
def execModRstPin (asserted : Bool) (s : State) : Host.Outcome State Fault Refusal :=
  s.run true fun d =>
    let d := d.onPins fun p => { p with modRst := asserted }
    if asserted then d.enterReset 1 else if d.clk.active.contains 1 then d.leaveReset 1 else d

/-- CLK_RST_CTL_MOD_RESET: a write of 1, as MOD_RESET without a reply (R514). -/
def execClkRstCtlModReset (_m : Master) (s : State) : Host.Outcome State Fault Refusal := s.run true Dev.commandReset

end Sys2Proof.Machine
end

