-- ==== Sys2Proof/Machine/Endpoint.lean ====
section
/-! DEFINITION. The management endpoint: configuration space, BARs, DMA channels, Bus Master Enable, endpoint resets, reply rings,
and the state of the SMBus sideband (R475 to R490). -/

namespace Sys2Proof.Machine

/-- `f` applied to the endpoint. -/
def Dev.onMep (d : Dev) (f : Mep → Mep) : Dev := { d with mep := f d.mep }

/-- The endpoint counts (MEP_CNT_IDX). -/
def Dev.countMep (d : Dev) (item n : Nat) : Dev := d.bump 0x0F 0 item n

/-! ## Reply rings (R484) -/

/-- Replies freed by a write of RSP.CI; those that wait are written in order. -/
def Dev.freeReplies (d : Dev) (r ci : Nat) : Dev :=
  let d := d.setFld (Reg.mepRingRsp + 16 * r) 16 16 ci
  let l := (d.mep.rings.getD r Ring.empty).waiting
  let d := d.onMep fun m => { m with rings := m.rings.modify r fun g => { g with waiting := [] } }
  d.forEach l fun d x => d.ringReply r x

/-! ## DMA channels (R485, R486) -/

/-- A channel by number. -/
def Dev.dma (d : Dev) (c : Nat) : DmaChannel := d.mep.dma.getD c DmaChannel.idle

/-- `f` applied to a channel. -/
def Dev.onDma (d : Dev) (c : Nat) (f : DmaChannel → DmaChannel) : Dev := d.onMep fun m => { m with dma := m.dma.modify c f }

/-- Whether a channel that is not stopped has a descriptor to run. -/
def Dev.dmaWork (d : Dev) (c : Nat) : Bool :=
  d.flag (Reg.mepDmaCtl + 0x20 * c) 0 && d.fld (Reg.mepDmaPi + 0x20 * c) 0 16 != (d.dma c).ci

/-- A channel that is idle starts when it has work. -/
def Dev.dmaKick (d : Dev) (c : Nat) : Dev := if (d.dma c).state = 0 ∧ d.dmaWork c then d.onDma c fun x => { x with state := 1 } else d

/-- RESUME restarts a stopped channel. -/
def Dev.dmaResume (d : Dev) (c : Nat) : Dev :=
  if (d.dma c).state = 2 then (d.onDma c fun x => { x with state := 0, cause := 0, stopping := false }).dmaKick c else d

/-- The host address of the descriptor a channel runs. -/
def Dev.dmaDescAt (d : Dev) (c : Nat) : Nat :=
  d.raw (Reg.mepDmaRingLo + 0x20 * c) + 2 ^ 32 * d.raw (Reg.mepDmaRingHi + 0x20 * c) + 32 * ((d.dma c).ci % 2 ^ d.fld (Reg.mepDmaCtl + 0x20 * c) 8 4)

/-- Whether a descriptor's length and place keep their bounds. -/
def dmaInRange (x : DmaDescriptor) : Bool :=
  decide (x.length % 4 = 0) && decide (4 ≤ x.length) && decide (x.length ≤ 16 * 2 ^ 20) && decide (x.offset + x.length ≤ spaceBytes x.hbm)

/-- Whether the transfer of a descriptor to the host meets a poisoned word of the module's memory. -/
def Dev.dmaPoison (d : Dev) (x : DmaDescriptor) : Option (Nat × Nat) := if x.toHost then d.poisonIn x.hbm x.offset x.length else none

/-- The transfer of a descriptor, with its status (R485). Data of a descriptor that does not end DONE is not moved (DEDUCED: assumption log, entry 35). -/
def Dev.dmaMove (d : Dev) (x : DmaDescriptor) (ending : DmaEnd) (data : List Byte) : Dev × Nat :=
  if !(dmaInRange x) then (d, 5)
  else match d.dmaPoison x with
    | some _ => (d.notePoison x.hbm x.offset x.length, 3)
    | none =>
      match ending with
      | .poisoned => (d, 3)
      | .hostError => (d.onMep fun m => { m with aer := m.aer + 1 }, 4)
      | .done =>
        let d := if x.toHost then (d.correctIn x.hbm x.offset x.length).emit (.hostWrite x.hostAddr (d.spaceRead x.hbm x.offset x.length))
          else d.spaceWrite x.hbm x.offset (fit x.length data)
        (d.countMep 4 x.length, 1)

/-- A descriptor ends: status written back, CI, the stop and its cause, and the events (R485, R486). While BME is 0 the write-back is
held, and no descriptor ends. -/
def Dev.dmaDone (d : Dev) (c : Nat) (x : DmaDescriptor) (ending : DmaEnd) (data : List Byte) : Dev :=
  if (d.dma c).state ≠ 1 ∨ !d.mep.bme then d
  else
    let r := d.dmaMove x ending data
    let st := if r.2 = 1 ∧ (d.dma c).stopping then 2 else r.2
    let d := (r.1.emit (.hostWrite (d.dmaDescAt c + 24) (leBytes 4 st))).countMep 3 1
    let d := d.onDma c fun k => { k with ci := (k.ci + 1) % 65536, state := if st = 1 then 0 else 2, cause := if st = 1 then 0 else st, stopping := false }
    let d := if x.irq then d.raise (0x0C8 + c) else d
    if st = 2 then d.raise 0x0CC else if 3 ≤ st then d.raise 0x0CD else d.dmaKick c

/-- Bus Master Enable changes (R486): falling, it stops running channels at the end of their descriptor; rising, pended vectors go. -/
def Dev.setBme (d : Dev) (v : Bool) : Dev :=
  if d.mep.bme == v then d
  else if v then (d.onMep fun m => { m with bme := true }).flushVectors
  else (d.onMep fun m => { m with bme := false, dma := m.dma.map fun c => { c with stopping := c.stopping || c.state == 1 } }).raise 0x0CE

/-! ## Endpoint resets (R487) -/

/-- PERST#, hot reset and Function Level Reset: the MEP block and configuration space at reset values, DMA descriptors ended, the
mailbox sessions closed; PERST# takes the link down and clears the sticky fields. -/
def Dev.endpointReset (d : Dev) (perst : Bool) : Dev :=
  let d := if perst ∧ d.mep.speed ≠ 0 then d.raise 0x0D2 else d
  let z := Dev.reset.mep
  let d := (d.cp.sessions.filter fun s => s.src.transport == .mailbox).foldl (fun d s => d.closeSession s.id) d
  let d := { d with
    regs := d.regs.filter fun r => blockOf r.1 != 0x0F
    counters := d.counters.filter fun c => c.1 / 2 ^ 32 != 0x0F
    mep := { z with
      speed := if perst then 0 else d.mep.speed, width := if perst then 0 else d.mep.width, aer := if perst then 0 else d.mep.aer
      smbOffset := d.mep.smbOffset, smbStatus := d.mep.smbStatus } }
  (((if perst then d.sampleStrap else d).countMep 10 1)).raise 0x0CF

/-! ## Configuration space (R475 to R477, R481) -/

/-- The writable bits of the base registers (R478): 16 MiB, 4 GiB and 1 MiB windows, and the 2 MiB ROM with its enable. -/
def barMask (register : Nat) : Nat :=
  match register with
  | 0x10 => 0xFF000000
  | 0x14 => 0xFFFFFFFF
  | 0x1C => 0xFFFFFFFF
  | 0x20 => 0xFFF00000
  | 0x24 => 0xFFFFFFFF
  | 0x30 => 0xFFE00001
  | _ => 0

/-- A change of the power state: D0 or D3hot; another code is ignored. Vectors pended in D3hot go in D0 (R477). -/
def Dev.setDstate (d : Dev) (v : Nat) : Dev :=
  if v = 0 then (d.onMep fun m => { m with dstate := 0 }).flushVectors else if v = 3 then d.onMep fun m => { m with dstate := 3 } else d

/-- A configuration write: Command, the base registers, PMCSR, MSI-X Message Control and Device Control; every other register of the
header and the capabilities is read-only here. -/
def Dev.configWrite (d : Dev) (register v : Nat) : Dev :=
  if register = 0x04 then (d.onMep fun m => { m with memSpace := bit v 1 }).setBme (bit v 2)
  else if register = 0x44 then d.setDstate (bits v 0 2)
  else if register = 0x50 then (d.onMep fun m => { m with msixEnable := bit v 31, functionMask := bit v 30 }).flushVectors
  else if register = 0x68 then (if bit v 15 then d.endpointReset false else d)
  else if barMask register = 0 ∨ d.mep.presetBars then d
  else d.onMep fun m => { m with config := sput (fun _ => 0) m.config register (BitVec.ofNat 32 (Nat.land v (barMask register))) }

/-! ## BAR2 (R479) -/

/-- Where BAR2 offset `a` lies in the memory that MEP_WIN selects. -/
def Dev.winAddr (d : Dev) (a : Nat) : Nat := d.fld Reg.mepWin 8 8 * 2 ^ 30 + a

/-- A read through BAR2: a poisoned word makes the completion poisoned, recorded by AER (R434). -/
def Dev.bar2Read (d : Dev) (a n : Nat) : Dev :=
  let hbm := d.flag Reg.mepWin 0
  let w := d.winAddr a
  match d.poisonIn hbm w n with
  | some _ =>
    ((d.notePoison hbm w n).onMep fun m => { m with aer := m.aer + 1 }).emit (.barData (d.spaceRead hbm w n) true)
  | none => (d.correctIn hbm w n).emit (.barData (d.spaceRead hbm w n) false)

/-- A write through BAR2, discarded while WIN_WR_EN is 0. -/
def Dev.bar2Write (d : Dev) (a : Nat) (l : List (Bool × Byte)) : Dev :=
  if d.flag Reg.mepCtl 1 then d.spaceWriteWhere (d.flag Reg.mepWin 0) (d.winAddr a) l else d.countMep 9 1

/-- Whether the endpoint takes memory requests: Memory Space Enable is set and the state is D0 (R477). -/
def Dev.bar2Open (d : Dev) : Bool := d.mep.memSpace && d.mep.dstate == 0

/-! ## Commands -/

/-- MAILBOX_REPLY_FREE (R484). -/
def execMailboxReplyFree (_m : Master) (ring ci : Nat) (s : State) : Host.Outcome State Fault Refusal :=
  s.run (decide (ring < 8) && decide (ci < 65536)) fun d => d.freeReplies ring ci

/-- DMA_PI_WRITE (R485). -/
def execDmaPiWrite (_m : Master) (channel : Nat) (value : Word) (s : State) : Host.Outcome State Fault Refusal :=
  s.run (wfChannel channel) fun d => (d.setRaw (Reg.mepDmaPi + 0x20 * channel) (value.toNat % 65536)).dmaKick channel

/-- DMA_DESCRIPTOR_DONE (R485). -/
def execDmaDescriptorDone (channel : Nat) (x : DmaDescriptor) (ending : DmaEnd) (data : List Byte) (s : State) : Host.Outcome State Fault Refusal :=
  s.run (wfChannel channel) fun d => d.dmaDone channel x ending data

/-- DMA_RESUME (R486). -/
def execDmaResume (_m : Master) (channel : Nat) (s : State) : Host.Outcome State Fault Refusal := s.run (wfChannel channel) fun d => d.dmaResume channel

/-- BME_CHANGE (R486). -/
def execBmeChange (value : Bool) (s : State) : Host.Outcome State Fault Refusal := s.run true fun d => d.setBme value

/-- BAR2_ACCESS (R479). -/
def execBar2Access (write : Bool) (address : Nat) (enables : List Bool) (data : List Byte) (s : State) : Host.Outcome State Fault Refusal :=
  s.run (decide (data.length = enables.length) && decide (address + data.length ≤ 0x100000000)) fun d =>
    if !d.bar2Open then d else if write then d.bar2Write address (enables.zip data) else d.bar2Read address data.length

/-- PERST (R487). -/
def execPerst (s : State) : Host.Outcome State Fault Refusal := s.run true fun d => d.endpointReset true

/-- HOT_RESET (R487). -/
def execHotReset (s : State) : Host.Outcome State Fault Refusal := s.run true fun d => d.endpointReset false

/-- FUNCTION_LEVEL_RESET (R487). -/
def execFunctionLevelReset (s : State) : Host.Outcome State Fault Refusal := s.run true fun d => d.endpointReset false

/-- EP_LINK_CHANGE (R490): the link trains, changes or goes down. -/
def execEpLinkChange (speed width : Nat) (s : State) : Host.Outcome State Fault Refusal :=
  s.run (decide (speed < 8) && decide (width < 64)) fun d =>
    if d.mep.speed = speed ∧ d.mep.width = width then d else (d.onMep fun m => { m with speed := speed, width := width }).raise 0x0D2

/-- CONFIG_SPACE_WRITE (R477, R481). -/
def execConfigSpaceWrite (register : Nat) (value : Word) (s : State) : Host.Outcome State Fault Refusal :=
  s.run (decide (register < 4096)) fun d => d.configWrite register value.toNat

/-! ## SMBus (R488, R489) -/

/-- Whether the sideband answers: SMB_EN is set, and its clock runs (R489, R523). -/
def Dev.smbOn (d : Dev) : Bool := d.flag Reg.mepCtl 0 && !(d.clk.faulty.contains 57)

/-- SMBUS_ADDR sets the offset; a failed PEC leaves it. While SMB_EN is 0 the sideband does not answer. -/
def execSmbusAddr (offset : Nat) (pecOk : Bool) (s : State) : Host.Outcome State Fault Refusal :=
  s.run (decide (offset < 0x100000000)) fun d =>
    if !d.smbOn then d
    else if pecOk then (d.onMep fun m => { m with smbOffset := offset, smbStatus := 0 }).countMep 7 1
    else (d.onMep fun m => { m with smbStatus := 2 }).countMep 7 1

/-- SMBUS_STATUS returns the status of the last command. -/
def execSmbusStatus (s : State) : Host.Outcome State Fault Refusal :=
  s.run true fun d => if d.smbOn then (d.emit (.smbus [BitVec.ofNat 8 d.mep.smbStatus])).countMep 7 1 else d

/-- SMBUS_TIMEOUT: SCL stayed low for 25 ms (R489). -/
def execSmbusTimeout (s : State) : Host.Outcome State Fault Refusal :=
  s.run true fun d => if d.smbOn then (d.countMep 8 1).raise 0x0D1 else d

end Sys2Proof.Machine
end

