-- ==== Sys2Proof/Machine/Tandem.lean ====
section
/-! DEFINITION. Tandem: link-up, routes and groups, encapsulation, resequencing (R135 to R151). -/

namespace Sys2Proof.Machine

/-- `f` applied to Tandem. -/
def Dev.onTdm (d : Dev) (f : Tdm → Tdm) : Dev := { d with tdm := f d.tdm }

/-- A Tandem counter of a link. -/
def Dev.countTdm (d : Dev) (link item n : Nat) : Dev := d.bump 0x1F link item n

/-- The module's own ID. -/
def Dev.moduleId (d : Dev) : Nat := d.fld Reg.tdmId 0 16

/-! ## Links (R147, R148) -/

/-- `f` applied to a tandem link. -/
def Dev.onTdmLink (d : Dev) (k : Nat) (f : TdmLink → TdmLink) : Dev :=
  d.onTdm fun t => { t with links := f (d.tdmLink k) :: dropAt TdmLink.link k t.links }

/-- Whether a link carries Tandem frames: it is up, has the tandem role and is Tandem-up. -/
def Dev.tandemUp (d : Dev) (k : Nat) : Bool := d.linkUp k && d.tandemRole k && (d.tdmLink k).state == 2

/-! ## Routes and groups (R141, R150) -/

/-- The first valid entry of a Tandem table that `p` accepts: the lowest index. -/
def Dev.tdmEntry (d : Dev) (table : Nat) (p : List Nat → Bool) : Option (List Nat) :=
  (d.tdm.tables.find? fun e => e.1 / 65536 == table && p e.2).map (·.2)

/-- The link group that the route table gives for a module. -/
def Dev.route (d : Dev) (dest : Nat) : Option Nat :=
  (d.tdmEntry 0 fun w => bit (w.getD 0 0) 31 && bits (w.getD 0 0) 0 16 == dest).map fun w => bits (w.getD 0 0) 16 4

/-- The module that the remote host table gives for a VLAN and an address. -/
def Dev.remoteHost (d : Dev) (vlan mac : Nat) : Option Nat :=
  (d.tdmEntry 1 fun w => bit (w.getD 2 0) 31 && w.getD 0 0 + 2 ^ 32 * bits (w.getD 1 0) 0 16 == mac && bits (w.getD 1 0) 16 12 == vlan).map fun w =>
    bits (w.getD 2 0) 0 16

/-- The Tandem-up links of a group, ascending. -/
def Dev.groupLinks (d : Dev) (g : Nat) : List Nat :=
  (List.range 96).filter fun k => bit (d.raw (bank (Reg.tdmGrpMask + 4 * (k / 32)) g)) (k % 32) && d.tandemUp k

/-- The bytes queued at a priority of a link. -/
def Dev.queuedBytes (d : Dev) (link prio : Nat) : Nat := ((d.list (linkList link prio)).map QFrame.length).sum

/-- The link with the fewest bytes queued at a priority; a tie goes to the lowest number. -/
def Dev.leastQueued (d : Dev) (prio : Nat) (l : List Nat) : Option Nat :=
  match l with
  | [] => none
  | k :: t => some (t.foldl (fun a b => if d.queuedBytes b prio < d.queuedBytes a prio then b else a) k)

/-- The link that a frame of a flow takes in a group (R141). -/
def Dev.chooseLink (d : Dev) (g flow prio : Nat) : Option Nat :=
  let l := d.groupLinks g
  let new_ := l.filter fun k => (d.tdmLink k).version == 0x11
  if d.flag (bank Reg.tdmGrpCtl g) 0 && !new_.isEmpty then d.leastQueued prio new_
  else l[flow % max 1 l.length]?

/-! ## Sending -/

/-- The bytes of a Tandem frame on the wire around its payload (PRESUMED: assumption log, entry 36). -/
abbrev tandemOverhead : Nat := 66

/-- The length of a Tandem frame with FCS. -/
def tandemLength (f : TandemFrame) : Nat :=
  tandemOverhead + match f.inner with | some g => g.length - 4 | none => f.payload.length

/-- A frame with no route (R138, R139). -/
def Dev.noRoute (d : Dev) (link : Nat) : Dev := (d.countTdm link 2 1).raise 0x117

/-- A Tandem frame leaves on the group that leads to its module. -/
def Dev.tandemOut (d : Dev) (f : TandemFrame) : Dev :=
  match (d.route f.dest).bind fun g => d.chooseLink g f.flow f.priority with
  | none => d.noRoute f.link
  | some k =>
    let t := { f with link := k, version := BitVec.ofNat 8 (d.tdmLink k).version }
    let q : QFrame :=
      { length := tandemLength f, prio := f.priority, colour := 0, ect := false, ce := false, inLink := some f.link, livery := 0, outLink := k,
        frame := none, tandem := some t }
    d.toLink q

/-- HOP_CLAMPED when the limit is below HOP_INIT (R146). -/
def Dev.judgeHops (d : Dev) : Dev :=
  if d.budgetShort || decide (d.fld Reg.tdmBudget 0 24 / (2600 + d.fld Reg.tdmTiming 0 16) < d.fld Reg.tdmCtl 8 8) then d.raise 0x119 else d

/-- The flow of a forwarded frame (R136): the CRC of VLAN, destination and source address, as bytes in wire order (DEDUCED: assumption log, entry 37). -/
def forwardFlow (vlan dst src : Nat) : Nat := crc32c ((leBytes 2 vlan).reverse ++ (leBytes 6 dst).reverse ++ (leBytes 6 src).reverse) % 4096

/-- A host frame whose forwarding entry names a tandem-role link is handed to Tandem (R139, R140). -/
def Dev.encapsulate (d : Dev) (f : EthFrame) (vlan prio : Nat) : Dev :=
  match d.remoteHost vlan f.dstMac with
  | none => d.noRoute f.link
  | some m =>
    let flow := forwardFlow vlan f.dstMac f.srcMac
    let seq := sget (fun _ => 0) d.tdm.seqs flow
    let d := (d.onTdm fun t => { t with seqs := sput (fun _ => 0) t.seqs flow ((seq + 1) % 65536) }).judgeHops
    d.tandemOut
      { link := f.link, version := 0, type := 0, hops := d.hopLimit, seqValid := true, priority := prio, dest := m, source := d.moduleId, flow := flow,
        sequence := seq, payload := [], inner := some f }

/-- A frame for another module (R138). -/
def Dev.tandemForward (d : Dev) (f : TandemFrame) : Dev :=
  if f.hops ≤ 1 then (d.countTdm f.link 1 1).raise 0x114 else d.tandemOut { f with hops := f.hops - 1 }

/-! ## Hellos (R147 to R149) -/

/-- Tandem frames queued for a link that left its groups are discarded (R148). -/
def Dev.flushTandem (d : Dev) (k : Nat) : Dev :=
  d.forEach (ctlList k :: (List.range 8).map (linkList k)) fun d l =>
    let n := ((d.list l).filter fun f => f.tandem.isSome).length
    if n = 0 then d else (d.setList l ((d.list l).filter fun f => f.tandem.isNone)).countTdm k 7 n

/-- Tandem sessions whose module no Tandem-up link leads to are closed (R149). -/
def Dev.closeTandem (d : Dev) : Dev :=
  let lost (s : Session) : Bool := s.src.transport == .tandem &&
    (match d.route (s.src.key / 65536) with | some g => (d.groupLinks g).isEmpty | none => true)
  (d.cp.sessions.filter lost).foldl (fun d s => d.closeSession s.id) d

/-- A link leaves Tandem-up, if it was. -/
def Dev.tandemDown (d : Dev) (k state : Nat) : Dev :=
  let was := (d.tdmLink k).state = 2
  let d := d.onTdmLink k fun l => { l with state := state, version := 0 }
  if was then (d.flushTandem k).closeTandem else d

/-- A Hello arrives (R147, R148). -/
def Dev.helloIn (d : Dev) (f : TandemFrame) : Dev :=
  let k := f.link
  let low := fieldAt f.payload 0 1
  let high := fieldAt f.payload 1 1
  let peer := fieldAt f.payload 2 2
  let v := min high 0x11
  let d := d.onTdmLink k fun l => { l with peer := peer, heard := d.q }
  if v < max low 0x10 then (d.tandemDown k 3).raise 0x112
  else if peer = d.moduleId then (d.tandemDown k 3).raise 0x113
  else
    let was := (d.tdmLink k).state = 2
    let d := d.onTdmLink k fun l => { l with state := 2, version := v }
    if was then d else d.raise 0x110

/-- The Hello that a link sends. -/
def Dev.helloFrame (d : Dev) (k : Nat) : TandemFrame :=
  { link := k, version := 0x10, type := 3, hops := 1, seqValid := false, priority := 0, dest := 0xFFFF, source := d.moduleId, flow := 0, sequence := 0,
    payload := [0x10, 0x11] ++ leBytes 2 d.moduleId ++ leBytes 4 0, inner := none }

/-- HELLO_SEND: every 100 µs while Tandem is enabled, the module has an ID and the link is up. -/
def Dev.helloSend (d : Dev) (k : Nat) : Dev :=
  if d.linkUp k && d.tandemRole k && d.flag Reg.tdmCtl 0 && d.moduleId != 0 then
    let l := d.tdmLink k
    let d := if l.state = 0 then d else d.upTo (l.sentAt + quantaUs 100)
    let q : QFrame :=
      { length := tandemLength (d.helloFrame k), prio := 0, colour := 0, ect := false, ce := false, inLink := none, livery := 0, outLink := k,
        frame := none, tandem := some (d.helloFrame k) }
    (d.onTdmLink k fun l => { l with sentAt := d.q, state := if l.state = 0 then 1 else l.state }).toControl q
  else d

/-- HELLO_LOSS: no Hello within TDM_TIMING.HELLO_LOSS × 100 µs. -/
def Dev.helloLost (d : Dev) (k : Nat) : Dev :=
  let l := d.tdmLink k
  if l.state = 2 then
    let d := d.upTo (l.heard + quantaUs (100 * d.fld Reg.tdmTiming 16 4))
    (d.tandemDown k (if d.linkUp k then 1 else 0)).raise 0x111
  else d

/-! ## Resequencing (R142 to R144) -/

/-- What delivers a frame in order. -/
abbrev TandemSink := Dev → TandemFrame → Dev

/-- The distance from `e` up to `s` modulo 65,536. -/
def seqAhead (e s : Nat) : Nat := (s + 65536 - e % 65536) % 65536

/-- A resequencing context. -/
def Dev.reseq? (d : Dev) (source flow : Nat) : Option Reseq := d.tdm.ctxs.find? fun c => c.source == source && c.flow == flow

/-- `f` applied to a context. -/
def Dev.onReseq (d : Dev) (source flow : Nat) (f : Reseq → Reseq) : Dev :=
  d.onTdm fun t => { t with ctxs := t.ctxs.map fun c => if c.source = source ∧ c.flow = flow then f c else c }

/-- The held frame with number `s` of a context. -/
def Reseq.at_ (c : Reseq) (s : Nat) : Option HeldFrame := c.held.find? fun h => h.seq == s

/-- Held frames from the expected number on are delivered while they are consecutive. -/
def Dev.reseqRun (d : Dev) (source flow : Nat) (sink : TandemSink) : Nat → Dev
  | 0 => d
  | fuel + 1 =>
    match d.reseq? source flow with
    | none => d
    | some c =>
      match c.at_ c.expected with
      | none => d
      | some h =>
        let d := d.onReseq source flow fun c => { c with held := c.held.filter (fun x => x.seq != h.seq), expected := (c.expected + 1) % 65536 }
        (sink d h.frame).reseqRun source flow sink fuel

/-- The expected number moves up to `e`: held frames below it are delivered in order, and the numbers skipped are counted. -/
def Dev.reseqSkip (d : Dev) (c : Reseq) (e link : Nat) (sink : TandemSink) : Dev :=
  let n := seqAhead c.expected e
  let below := (List.range (min n 256)).filterMap fun i => c.at_ ((c.expected + i) % 65536)
  let gap := n - below.length
  let d := d.onReseq c.source c.flow fun x => { x with expected := e, held := x.held.filter fun h => decide (n ≤ seqAhead c.expected h.seq) }
  let d := if gap = 0 then d else (d.countTdm link 5 gap).raise 0x115
  d.forEach below fun d h => sink d h.frame

/-- A frame is held. -/
def Dev.reseqHold (d : Dev) (f : TandemFrame) : Dev :=
  d.onReseq f.source f.flow fun c => { c with held := c.held ++ [⟨f.sequence, d.q, f⟩] }

/-- A frame of a flow that has a context (R142). -/
def Dev.reseqIn (d : Dev) (c : Reseq) (f : TandemFrame) (sink : TandemSink) : Dev :=
  let n := seqAhead c.expected f.sequence
  let d := d.onReseq c.source c.flow fun c => { c with lastAt := d.q }
  if n = 0 then
    (sink (d.onReseq c.source c.flow fun c => { c with expected := (c.expected + 1) % 65536 }) f).reseqRun c.source c.flow sink 256
  else if n ≤ 255 then (if (c.at_ f.sequence).isSome then d.countTdm f.link 4 1 else d.reseqHold f)
  else if n ≤ 32767 then
    (((d.reseqSkip c ((f.sequence + 65536 - 255) % 65536) f.link sink).reseqHold f)).reseqRun c.source c.flow sink 256
  else d.countTdm f.link 4 1

/-- A frame is resequenced before it is delivered or forwarded (R142, R144). -/
def Dev.resequence (d : Dev) (f : TandemFrame) (sink : TandemSink) : Dev :=
  if !f.seqValid then sink d f
  else match d.reseq? f.source f.flow with
    | some c => d.reseqIn c f sink
    | none =>
      if 4096 ≤ d.tdm.ctxs.length then sink ((d.countTdm f.link 6 1).raise 0x116) f
      else sink (d.onTdm fun t => { t with ctxs := t.ctxs ++ [⟨f.source, f.flow, (f.sequence + 1) % 65536, [], d.q⟩] }) f

/-- RESEQ_FLUSH (R143): the oldest held frame has waited FLUSH. -/
def Dev.reseqFlush (d : Dev) (source flow : Nat) (sink : TandemSink) : Dev :=
  match d.reseq? source flow with
  | none => d
  | some c =>
    match c.held with
    | [] => d
    | h :: t =>
      let low := t.foldl (fun (a b : HeldFrame) => if seqAhead c.expected b.seq < seqAhead c.expected a.seq then b else a) h
      let d := d.upTo (h.at_ + ceilDiv (d.fld Reg.tdmTiming 0 16 * 4) 5)
      (d.reseqSkip c low.seq low.frame.link sink).reseqRun source flow sink 256

/-- RESEQ_CONTEXT_FREE (R144): 1 ms without a frame; a context that still holds frames is flushed before (R143). -/
def Dev.reseqFree (d : Dev) (source flow : Nat) : Dev :=
  match d.reseq? source flow with
  | none => d
  | some c =>
    if c.held.isEmpty then
      (d.upTo (c.lastAt + quantaMs 1)).onTdm fun t => { t with ctxs := t.ctxs.filter fun x => !(x.source == source && x.flow == flow) }
    else d

/-! ## Arrival (R135, R138) -/

/-- A frame whose header is refused. -/
def Dev.badHeader (d : Dev) (link : Nat) : Dev := d.countTdm link 0 1

/-- A Tandem frame arrives on a tandem-role link that is up. `sink` takes frames in order. -/
def Dev.tandemIn (d : Dev) (f : TandemFrame) (sink : TandemSink) : Dev :=
  if 4 ≤ f.type then d.badHeader f.link
  else if f.type = 3 then
    if f.version.toNat / 16 = 1 then (d.countTdm f.link 9 1).helloIn f else d.badHeader f.link
  else if (d.tdmLink f.link).state ≠ 2 ∨ f.version.toNat ≠ (d.tdmLink f.link).version then d.badHeader f.link
  else (d.countTdm f.link 9 1).resequence f sink

/-! ## Tables (R133, R150) -/

/-- The bits of a table word that hold a field. -/
def tdmMask (table i : Nat) : Nat :=
  if table = 0 then (if i = 0 then 0x800FFFFF else 0)
  else if i = 0 then 0xFFFFFFFF else if i = 1 then 0x0FFFFFFF else 0x8000FFFF

/-- TDM_TBL_CMD with GO: one entry is read or written, or FAIL is set. -/
def Dev.tdmTable (d : Dev) : Dev :=
  let c := d.raw Reg.tdmTblCmd
  let t := bits c 16 1
  let i := bits c 0 16
  if (if t = 0 then 1024 else 4096) ≤ i then d.setFld Reg.tdmTblCmd 20 1 1
  else
    let d := d.setFld Reg.tdmTblCmd 20 1 0
    if bit c 17 then
      let w := (List.range 3).map fun k => Nat.land (d.raw (Reg.tdmTblData + 4 * k)) (tdmMask t k)
      d.onTdm fun x => { x with tables := sput (fun _ => []) x.tables (t * 65536 + i) (if w.all (· == 0) then [] else w) }
    else
      let w := sget (fun _ => []) d.tdm.tables (t * 65536 + i)
      d.forEach (List.range 3) fun d k => d.setRaw (Reg.tdmTblData + 4 * k) (w.getD k 0)

/-! ## Commands -/

/-- HELLO_SEND (R147). -/
def execHelloSend (link : Nat) (s : State) : Host.Outcome State Fault Refusal := s.run (wfLink link) fun d => d.helloSend link

/-- HELLO_LOSS (R148). -/
def execHelloLoss (link : Nat) (s : State) : Host.Outcome State Fault Refusal := s.run (wfLink link) fun d => d.helloLost link

/-- RESEQ_CONTEXT_FREE (R144). -/
def execReseqContextFree (source flow : Nat) (s : State) : Host.Outcome State Fault Refusal :=
  s.run (wfCid source && wfFlow flow) fun d => d.reseqFree source flow

end Sys2Proof.Machine
end

