-- ==== Sys2Proof/Machine/Turnpike.lean ====
section
/-! DEFINITION. Turnpike: the ingress pipeline, the bulk FIFOs, policers, mirrors, egress scheduling, ports and tables (R102 to R134). -/

namespace Sys2Proof.Machine

/-- What takes a command packet that arrived as bytes: its endpoint and the bytes. -/
abbrev CommandSink := Dev → Endpoint → List Byte → Dev

/-! ## Stages 1 and 2 (R106, R115) -/

/-- A PFC frame (R115): a time of 0 resumes, any other pauses; PFC_RX counts per priority. -/
def Dev.pfcIn (d : Dev) (link enable : Nat) (times : List Nat) : Dev :=
  let rate := (d.port (link / 8)).rate
  d.forEach ((List.range 8).filter fun p => bit enable p) fun d p =>
    let d := d.countEth link (8 + p) 1
    if !(bit (d.raw (ethReg Reg.ethPfc (link / 8))) p) then d
    else
      let old := d.tpk.pauses.find? fun x => x.link == link && x.prio == p
      let rest := d.tpk.pauses.filter fun x => !(x.link == link && x.prio == p)
      let t := times.getD p 0
      if t = 0 then d.onTpk fun x => { x with pauses := rest }
      else
        let since := match old with | some o => o.since | none => d.q
        let barked := match old with | some o => o.barked | none => false
        d.onTpk fun x => { x with pauses := rest ++ [⟨link, p, since, d.q + pauseQuanta rate t, barked⟩] }

/-- A frame as the pipeline sees it from stage 3 on: its VLAN, priority and colour, the actions that its classifier entry gave it, and
whether it was decapsulated from Tandem. -/
structure Passing where
  f : EthFrame
  vlan : Nat
  prio : Nat
  colour : Nat
  decap : Bool
  deriving DecidableEq, Repr

/-- The priority of a frame (R106). -/
def Dev.framePrio (d : Dev) (f : EthFrame) : Nat :=
  let n := f.link / 8
  if f.isIp && d.flag (ethReg Reg.ethCtl n) 5 then d.fld (ethReg Reg.ethDscp n + 4 * (f.dscp / 8)) (4 * (f.dscp % 8)) 3
  else if f.tagged then f.pcp
  else d.fld (ethReg Reg.ethVlan n) 12 3

/-- Stage 2: VLAN, priority and colour; `none` for an untagged frame that the port does not accept. -/
def Dev.stage2 (d : Dev) (f : EthFrame) : Option Passing :=
  let v := ethReg Reg.ethVlan (f.link / 8)
  if !f.tagged && !(d.flag v 15) then none
  else some ⟨f, if f.tagged && f.vlan != 0 then f.vlan else d.fld v 0 12, d.framePrio f, b2n (f.tagged && f.dei), false⟩

/-! ## Stages 3 to 5: classifier, mirror, policer -/

/-- An address of a table entry: its least significant word first (DEDUCED: assumption log, entry 37). -/
def tableAddr (w : List Nat) : Nat := w.getD 2 0 + 2 ^ 32 * w.getD 3 0 + 2 ^ 64 * w.getD 4 0 + 2 ^ 96 * w.getD 5 0

/-- Whether the source address of a frame matches a classifier entry's prefix. -/
def prefixMatches (w : List Nat) (f : EthFrame) : Bool :=
  let n := min (bits (w.getD 1 0) 17 8) (if f.ipv6 then 128 else 32)
  if bits (w.getD 1 0) 17 8 = 0 then true
  else f.isIp && f.ipv6 == bit (w.getD 0 0) 28 &&
    (if f.ipv6 then f.srcIp / 2 ^ (128 - n) == tableAddr w / 2 ^ (128 - n) else f.srcIp / 2 ^ (32 - n) == w.getD 2 0 / 2 ^ (32 - n))

/-- Whether a classifier entry matches (R133). -/
def classMatches (w : List Nat) (x : Passing) : Bool :=
  let a := w.getD 0 0
  let b := w.getD 1 0
  bit a 29 && (bit a 7 || bits a 0 7 == x.f.link) && (bit a 20 || bits a 8 12 == x.vlan) && (bit a 27 || (x.f.isIp && bits a 21 6 == x.f.dscp))
    && (bit b 16 || (x.f.isIp && bits b 0 16 == x.f.dstPort)) && prefixMatches w x.f

/-- The entries of a Turnpike table in ascending index. -/
def Dev.tpkEntry (d : Dev) (table : Nat) (p : List Nat → Bool) : Option (List Nat) :=
  (d.tpk.tables.find? fun e => e.1 / 65536 == table && p e.2).map (·.2)

/-- DATA6 of the classifier entry that a frame matches; 0 for none. -/
def Dev.classify (d : Dev) (x : Passing) : Nat := ((d.tpkEntry 0 fun w => classMatches w x).map fun w => w.getD 6 0).getD 0

/-- What RED does with a frame (R118). -/
inductive RedAct where
  | pass | mark | drop
  deriving DecidableEq, Repr

/-- The average of a list after an enqueue, in 1/65,536 byte (DEDUCED: assumption log, entry 37). -/
def Dev.redAverage (d : Dev) (l bytes weight : Nat) : Nat :=
  let avg := sget (fun _ => 0) d.tpk.redAvg l
  if avg ≤ bytes * 65536 then avg + (bytes * 65536 - avg) / 2 ^ weight else avg - (avg - bytes * 65536) / 2 ^ weight

/-- RED on a list with an occupancy in bytes: the average, and the verdict of the profile of the priority and colour. Between MIN and
MAX it is drawn (DESIGN CHOICE: assumption log, entry 3). -/
def Dev.red (d : Dev) (l prio colour bytes : Nat) (capable : Bool) : Dev × RedAct :=
  let i := 3 * prio + colour
  let cfg := d.raw (bank Reg.tbmRedCfg i)
  let avg := d.redAverage l bytes (bits cfg 8 4)
  let lo := d.fld (bank Reg.tbmRedMin i) 0 20 * 1024 * 65536
  let hi := d.fld (bank Reg.tbmRedMax i) 0 20 * 1024 * 65536
  let d := d.onTpk fun t => { t with redAvg := sput (fun _ => 0) t.redAvg l avg }
  let f := d.takeFree
  let between := decide (lo ≤ avg) && decide (avg < hi)
  let drawn := decide (f.1 % (256 * (hi - lo)) < bits cfg 0 8 * (avg - lo))
  let acts := bit cfg 13 && (decide (hi ≤ avg) || (between && drawn))
  (if between then f.2 else d, if !acts then .pass else if capable && bit cfg 12 then .mark else .drop)

/-- A copy that a mirror session makes of a frame (R123): `none` when its destination is no link. -/
def Dev.mirrorCopy (d : Dev) (w : List Nat) (length : Nat) (frame : Option EthFrame) (tandem : Option TandemFrame) : Option QFrame :=
  let a := w.getD 0 0
  let trunc := bits a 20 8 * 64
  if d.linkExists (bits a 0 7) then
    some { length := if trunc = 0 then length else min length trunc, prio := bits a 7 3, colour := 2, ect := false, ce := false, inLink := none,
           livery := 0, outLink := bits a 0 7, frame := frame, tandem := tandem }
  else none

/-- A copy is enqueued, or dropped and counted. -/
def Dev.sendCopy (d : Dev) (c : QFrame) : Dev :=
  let r := d.red (linkList c.outLink c.prio) c.prio 2 ((d.list (linkList c.outLink c.prio)).map QFrame.length).sum false
  if r.2 = .pass ∧ r.1.linkTakes c then r.1.pushLink c else (r.1.countTbm c.outLink 5 1).raise 0x107

/-- The mirror sessions that `p` accepts copy a frame. -/
def Dev.mirror (d : Dev) (p : Nat → Nat → Bool) (length : Nat) (frame : Option EthFrame) (tandem : Option TandemFrame) : Dev :=
  d.forEach (List.range 8) fun d i =>
    let w := sget (fun _ => []) d.tpk.tables (3 * 65536 + i)
    if bit (w.getD 0 0) 31 && p i (w.getD 0 0) then
      match d.mirrorCopy w length frame tandem with
      | some c => d.sendCopy c
      | none => d
    else d

/-- A policer that was never configured conforms. -/
def policerDflt : Nat → Policer := fun _ => ⟨0, 0, 65536, 65536, false, false, 655360000, 655360000⟩

/-- The meter of RFC 2698 on a frame (R120): 0 conforming, 1 to be demoted, 2 to be dropped. -/
def Policer.meter (p : Policer) (length colour : Nat) : Policer × Nat :=
  let b := length * 10000
  if !p.enable then (p, 0)
  else if (p.aware ∧ colour = 2) ∨ p.tp < b then (p, 2)
  else if p.tc < b then ({ p with tp := p.tp - b }, 1)
  else if p.aware ∧ colour = 1 then ({ p with tp := p.tp - b }, 0)
  else ({ p with tp := p.tp - b, tc := p.tc - b }, 0)

/-- Stage 5. The flag says whether the frame goes on. -/
def Dev.police (d : Dev) (x : Passing) (act : Nat) : Dev × Passing × Bool :=
  if !(bit act 12) then (d, x, true)
  else
    let i := bits act 0 12
    let r := (sget policerDflt d.tpk.policers i).meter x.f.length x.colour
    let d := d.onTpk fun t => { t with policers := sput policerDflt t.policers i r.1 }
    if r.2 = 2 then ((((d.countTbm x.f.link 7 1).countReg (bank Reg.tssPolDrop i) 1).raise 0x103), x, false)
    else (d, { x with colour := min 2 (x.colour + r.2) }, true)

/-! ## Stage 6: destinations (R104, R108) -/

/-- The address of a link. -/
def Dev.linkMac (d : Dev) (k : Nat) : Nat := (d.raw Reg.tpkMacLo + 2 ^ 32 * d.fld Reg.tpkMacHi 0 16 + k) % 2 ^ 48

/-- Whether a frame is addressed to the module: its link's own address, broadcast, or a PTP multicast address. -/
def Dev.forModule (d : Dev) (f : EthFrame) : Bool :=
  f.dstMac == d.linkMac f.link || f.dstMac == 0xFFFFFFFFFFFF || f.dstMac == 0x011B19000000 || f.dstMac == 0x0180C200000E

/-- Whether the active module's services count (own addresses with ACTIVE_ONLY). -/
def Dev.ownAddress (d : Dev) (x : Passing) : Bool :=
  (d.tpkEntry 2 fun w =>
    let a := w.getD 0 0
    bit a 31 && bits a 0 12 == x.vlan && bit a 12 == x.f.ipv6 && (if x.f.ipv6 then tableAddr w else w.getD 2 0) == x.f.dstIp
      && (!(bit a 13) || d.isActive)).isSome

/-- UNKNOWN_DEST (R104, R108). -/
def Dev.unknownDest (d : Dev) (link : Nat) : Dev := (d.countTbm link 6 1).raise 0x106

/-- The module's own answer to an ARP, Neighbour Solicitation or echo request leaves on the control list of its link. -/
def Dev.answer (d : Dev) (x : Passing) : Dev :=
  d.toControl { length := x.f.length, prio := x.prio, colour := 0, ect := false, ce := false, inLink := none, livery := 0, outLink := x.f.link,
                frame := none, tandem := none }

/-- Whether an IP header is ECN-capable: ECT(0), ECT(1), or already marked. -/
def ecnCapable (f : EthFrame) : Bool := f.isIp && f.ecn != 0

/-! ## Bulk ingress (R109, R110, R117, R119) -/

/-- XOFF of a port's bulk FIFO at its point. -/
def Dev.bulkXoff (d : Dev) (n : Nat) : Dev :=
  if d.bulkBytes n < d.bulkPoint n then d
  else
    let pfc := d.raw (ethReg Reg.ethPfc n)
    d.forEach (List.range (d.port n).links) fun d s =>
      d.forEach ((List.range 8).filter fun p => bit pfc (16 + p) && bit pfc (8 + p)) fun d p => d.raiseXoff (8 * n + s) p true

/-- A bulk packet enters its port's FIFO, in SRAM or in HBM, or is dropped at the overflow limit. -/
def Dev.bulkPush (d : Dev) (n length : Nat) (ce : Bool) : Dev :=
  let fifo := (d.port n).fifo
  let sram := ((fifo.filter fun b => !b.inHbm).map BulkPkt.length).sum
  let hbm := decide (1024 * d.fld Reg.tbmBulkHi 0 12 < sram + length) || fifo.any BulkPkt.inHbm
  if hbm && decide (d.ovfLimit n < d.ovfUse n + length) then (d.countTbm n 0 1).raise 0x101
  else
    let d := d.onPort n fun p => { p with fifo := p.fifo ++ [⟨length, hbm, ce⟩] }
    let d := if hbm then (d.countTbm n 4 length).raise 0x100 else d
    ((d.sample 13 n (d.bulkBytes n / 1024)).notePool 13).bulkXoff n

/-- Bulk ingress: RED marks ECN-capable packets only, on the whole FIFO. -/
def Dev.bulkIn (d : Dev) (x : Passing) : Dev :=
  let n := x.f.link / 8
  let r := d.red (4096 + n) x.prio x.colour (d.bulkBytes n) (ecnCapable x.f)
  let mark := decide (r.2 = .mark)
  let d := if mark then r.1.countTbm x.f.link 2 1 else r.1
  d.bulkPush n x.f.length (mark || x.f.ecn == 3)

/-! ## Forwarding, admission and cut-through (R113, R114, R118, R121) -/

/-- Whether a shaper lets its node send. -/
def Shaper.eligible (s : Shaper) : Bool := s.rate == 0 || decide (0 ≤ s.credit)

/-- A frame of `n` bytes leaves through a shaper, down to −LOCREDIT (R127). -/
def Shaper.charge (s : Shaper) (n : Nat) : Shaper :=
  if s.rate = 0 then s else { s with credit := max (s.credit - (n * 10000 : Nat)) (-((s.lo * 10000 : Nat) : Int)) }

/-- A frame leaves through shaper `i`. -/
def Dev.charge (d : Dev) (i n : Nat) : Dev := d.onTpk fun t => { t with shapers := sput shaperDflt t.shapers i ((d.shaper i).charge n) }

/-- The index of the shaper of a link-priority list. -/
def linkShaper (link prio : Nat) : Nat := 3328 + 8 * link + prio

/-- Whether a priority of a link is paused. -/
def Dev.paused (d : Dev) (link prio : Nat) : Bool := d.tpk.pauses.any fun p => p.link == link && p.prio == prio

/-- The quanta that a frame occupies on a link (R130). -/
def Dev.wireQuanta (d : Dev) (link length : Nat) : Nat := ceilDiv ((length + 20) * 32) (5 * (d.port (link / 8)).rate)

/-- Whether a frame fits the open run of its gate (R130); a priority without a gate always fits. -/
def Dev.gateFits (d : Dev) (link prio length : Nat) : Bool :=
  if !(bit (d.raw (bank Reg.tssLinkSched link)) (8 + prio)) then true
  else d.classOpen (8 + prio) && (match d.runEnd (8 + prio) with | some e => decide (d.q + d.wireQuanta link length ≤ e) | none => true)

/-- The quantum until which a link sends. -/
def Dev.busyUntil (d : Dev) (link : Nat) : Nat := sget (fun _ => 0) d.tpk.busy link

/-- The conditions of R121 for a frame from link `a` to link `b`. -/
def Dev.mayCut (d : Dev) (f : EthFrame) (b prio : Nat) : Bool :=
  (d.list (linkList b prio)).isEmpty && (d.list (ctlList b)).isEmpty && decide (d.busyUntil b ≤ d.q) && d.linkUp b && !(d.paused b prio)
    && (d.shaper (linkShaper b prio)).eligible && decide ((d.port (b / 8)).rate ≤ (d.port (f.link / 8)).rate)
    && (!(bit (d.raw (bank Reg.tssLinkSched b)) (8 + prio)) || (f.isIp && d.gateFits b prio f.length))
    && d.flag (ethReg Reg.ethCtl (f.link / 8)) 6 && d.flag Reg.tpkCtl 1

/-- What leaves on a link, and what it counts and charges: the link is busy, and sent frames are mirrored (R123, R127). -/
def Dev.transmit (d : Dev) (link prio length : Nat) (control : Bool) (frame : Option EthFrame) (tandem : Option TandemFrame) (stomped : Bool) : Dev :=
  let o : Output := match tandem, frame with
    | some t, _ => .tandem link t
    | none, some f => if stomped then .ethFrame link length prio true else .ethRelayed link f
    | none, none => .ethFrame link length prio stomped
  let d := ((d.emit o).countEth link 4 1).countEth link 5 length
  let d := if tandem.isSome then d.countTdm link 8 1 else d
  let d := d.onTpk fun t => { t with busy := sput (fun _ => 0) t.busy link (d.q + d.wireQuanta link length) }
  let d := if control then d.onTpk fun t => { t with ctl := sput (fun _ => (0 : Int)) t.ctl link (sget (fun _ => (0 : Int)) t.ctl link - (length * 10000 : Nat)) }
    else d.charge (linkShaper link prio) (length + 20)
  d.mirror (fun _ a => bit a 11 && bits a 12 7 == link) length frame tandem

/-- A frame is cut through (R121, R122). -/
def Dev.cutThrough (d : Dev) (f : EthFrame) (b prio : Nat) (stomped : Bool) : Dev :=
  let d := (d.transmit b prio f.length false (some f) none stomped).countEth b 24 1
  if stomped then (d.countEth b 25 1).raise 0x108 else d

/-- RED, the buffer thresholds and the list (stage 7). -/
def Dev.admitFrame (d : Dev) (x : Passing) (b : Nat) : Dev :=
  let l := linkList b x.prio
  let r := d.red l x.prio x.colour ((d.list l).map QFrame.length).sum (ecnCapable x.f)
  if r.2 = .drop then (r.1.countTbm b 1 1).raise 0x104
  else
    let mark := decide (r.2 = .mark)
    let d := if mark then r.1.countTbm b 2 1 else r.1
    let f := if mark then { x.f with ecn := 3 } else x.f
    d.toLink { length := f.length, prio := x.prio, colour := x.colour, ect := ecnCapable f, ce := f.ecn == 3, inLink := some f.link, livery := 0, outLink := b,
               frame := some f, tandem := none }

/-- The forwarding entry of a frame: its link, and its priority (R108). -/
def Dev.forwardTo (d : Dev) (x : Passing) : Option (Nat × Nat) :=
  (d.tpkEntry 1 fun w =>
    bit (w.getD 2 0) 31 && w.getD 0 0 + 2 ^ 32 * bits (w.getD 1 0) 0 16 == x.f.dstMac && bits (w.getD 1 0) 16 12 == x.vlan).map fun w =>
      (bits (w.getD 2 0) 0 7, if bit (w.getD 2 0) 10 then bits (w.getD 2 0) 7 3 else x.prio)

/-- A frame that is not for the module (R108, R139). -/
def Dev.forward (d : Dev) (x : Passing) : Dev :=
  match d.forwardTo x with
  | none => d.unknownDest x.f.link
  | some (b, prio) =>
    let x := { x with prio := prio }
    if !(d.flag Reg.tpkCtl 0) || !(d.linkExists b) then d.unknownDest x.f.link
    else if d.tandemRole b then (if x.decap then (d.countTdm x.f.link 3 1).raise 0x118 else d.encapsulate x.f x.vlan prio)
    else if d.mayCut x.f b prio then d.cutThrough x.f b prio false
    else d.admitFrame x b

/-- A frame for the module (R104, R108). The Neighbour, echo, bulk, command, Tandem and PTP traffic goes where it belongs; anything else
is UNKNOWN_DEST. -/
def Dev.toModule (d : Dev) (x : Passing) (cp : CommandSink) : Dev :=
  let f := x.f
  let host := !(d.tandemRole f.link)
  match f.kind with
  | .ptp msg seq domain time =>
    if !host then d.forward x
    else if d.flag Reg.rulPtpCfg (8 + f.link / 8) then
      (if domain = d.fld Reg.rulPtpCfg 0 8 then d.ptpMessage msg seq time (d.fld (ethReg Reg.ethPtpAdj (f.link / 8)) 0 16) else d)
    else d.unknownDest f.link
  | .arpOrNd => if d.ownAddress x then d.answer x else d.unknownDest f.link
  | .icmpEcho => if d.ownAddress x then d.answer x else d.unknownDest f.link
  | .roceBulk => if d.ownAddress x then d.bulkIn x else d.unknownDest f.link
  | .roceOther => if d.ownAddress x then d else d.unknownDest f.link
  | .command bytes =>
    if host && d.ownAddress x && x.vlan == d.fld Reg.cmdUdpCfg 0 12 && f.dstPort == d.fld Reg.cmdUdpCfg 16 16 then
      cp d ⟨.udp, f.srcIp * 65536 + f.srcPort, none⟩ bytes
    else d.unknownDest f.link
  | .tandem => if !host && d.ownAddress x then d else d.unknownDest f.link
  | .pfc _ _ => d
  | .other => d.unknownDest f.link

/-- Stages 3 to 7. -/
def Dev.stage3 (d : Dev) (x : Passing) (cp : CommandSink) : Dev :=
  let act := d.classify x
  if bit act 21 then d.countTbm x.f.link 6 1
  else
    let x := if bit act 16 then { x with prio := bits act 13 3 } else x
    let d := d.mirror (fun i a => (bit a 10 && bits a 12 7 == x.f.link) || (bit act 20 && bits act 17 3 == i)) x.f.length (some x.f) none
    let p := d.police x act
    if !p.2.2 then p.1
    else if p.1.forModule x.f then p.1.toModule p.2.1 cp
    else p.1.forward p.2.1

/-- A frame with a bad FCS is counted and discarded; one that was cut through before its FCS was known ends with an inverted FCS (R122). -/
def Dev.badFcs (d : Dev) (f : EthFrame) : Dev :=
  let d := d.countEth f.link 2 1
  match d.stage2 f with
  | none => d
  | some x =>
    match (if d.forModule f then none else d.forwardTo x) with
    | some (b, prio) => if d.flag Reg.tpkCtl 0 && d.linkExists b && !(d.tandemRole b) && d.mayCut f b prio then d.cutThrough f b prio true else d
    | none => d

/-- Whether a frame is a PTP message: until start-up is done, nothing else is delivered (R507). -/
def isPtpKind (k : EthKind) : Bool := match k with | .ptp _ _ _ _ => true | _ => false

/-- A frame arrives on a link that is up (R107). RX_FRAMES and RX_BYTES count what passes stage 1 (DEDUCED: assumption log, entry 37). -/
def Dev.ethIn (d : Dev) (f : EthFrame) (cp : CommandSink) : Dev :=
  if !(d.linkUp f.link) then d
  else if f.length < 64 ∨ d.fld (ethReg Reg.ethCtl (f.link / 8)) 8 14 < f.length then d.countEth f.link 3 1
  else if !f.fcsOk then d.badFcs f
  else
    let d := (d.countEth f.link 0 1).countEth f.link 1 f.length
    if !d.clk.done && !(isPtpKind f.kind) then d.unknownDest f.link
    else match f.kind with
    | .pfc enable times => d.pfcIn f.link enable times
    | _ => match d.stage2 f with
      | none => d
      | some x => d.stage3 x cp

/-! ## Egress (R125, R127, R129 to R131) -/

/-- Whether the control list of a link may send its head now. -/
def Dev.ctlReady (d : Dev) (link : Nat) : Bool :=
  match d.list (ctlList link) with
  | [] => false
  | f :: _ => !(d.paused link f.prio) && decide ((0 : Int) ≤ sget (fun _ => (0 : Int)) d.tpk.ctl link)

/-- Whether a priority of a link may send its head now. -/
def Dev.prioReady (d : Dev) (link p : Nat) : Bool :=
  match d.list (linkList link p) with
  | [] => false
  | f :: _ => !(d.paused link p) && (d.shaper (linkShaper link p)).eligible && d.gateFits link p f.length

/-- The weight of a priority (R125). -/
def Dev.wrrWeight (d : Dev) (link p : Nat) : Nat := max 1 (d.fld (bank (if p < 4 then Reg.tssLinkWrr0 else Reg.tssLinkWrr1) link) (8 * (p % 4)) 8)

/-- The priority that weighted round robin picks, with its new state (priority and frames left; DEDUCED: assumption log, entry 37). -/
def Dev.wrrPick (d : Dev) (link : Nat) : Option (Nat × Nat × Nat) :=
  let strict := d.fld (bank Reg.tssLinkSched link) 0 8
  let ready (p : Nat) : Bool := !(bit strict p) && d.prioReady link p
  let now := sget (fun _ => (0, 0)) d.tpk.rr link
  if 0 < now.2 ∧ ready now.1 then some (now.1, now.1, now.2 - 1)
  else match ((List.range 8).map fun i => (now.1 + 1 + i) % 8).find? ready with
    | some p => some (p, p, d.wrrWeight link p - 1)
    | none => none

/-- The head of a list leaves on its link. -/
def Dev.sendHead (d : Dev) (link l : Nat) (control : Bool) : Dev :=
  match d.list l with
  | [] => d
  | f :: t => ((d.setList l t).transmit link f.prio f.length control f.frame f.tandem false).judgeXon

/-- A free link chooses its next frame: control, strict priorities from 7 down, then weighted round robin. -/
def Dev.linkSelect (d : Dev) (link : Nat) : Dev :=
  if !(d.linkUp link) || decide (d.q < d.busyUntil link) then d
  else if d.ctlReady link then (d.sendHead link (ctlList link) true).noteControl
  else
    let strict := d.fld (bank Reg.tssLinkSched link) 0 8
    match ((List.range 8).map fun i => 7 - i).find? fun p => bit strict p && d.prioReady link p with
    | some p => d.sendHead link (linkList link p) false
    | none => match d.wrrPick link with
      | some (p, a, n) => (d.onTpk fun t => { t with rr := sput (fun _ => (0, 0)) t.rr link (a, n) }).sendHead link (linkList link p) false
      | none => d

/-- Whether serial number `a` of 48 bits lies before `b` (R129). -/
def before48 (a b : Nat) : Bool := a != b && decide ((b + 2 ^ 48 - a % 2 ^ 48) % 2 ^ 48 < 2 ^ 47)

/-- Whether the head of a livery's list at a port is eligible. -/
def Dev.wfqReady (d : Dev) (port livery : Nat) : Bool :=
  match d.list (liveryList livery port) with
  | [] => false
  | f :: _ => (d.shaper (12 * livery + port)).eligible && (d.shaper (3072 + livery)).eligible && d.listAdmits (linkList f.outLink f.prio) f.prio

/-- The livery that fair queuing picks at a port: the smallest finish tag, then the lowest number. -/
def Dev.wfqPick (d : Dev) (port : Nat) : Option Nat :=
  let tag (l : Nat) : Nat := (sget (fun _ => (0, 0)) (d.wfq port).tags l).2
  match (List.range 256).filter fun l => d.wfqReady port l with
  | [] => none
  | h :: t => some (t.foldl (fun a b => if before48 (tag b) (tag a) then b else a) h)

/-- FAIR_QUEUE_SELECT: the picked list's head moves to its link-priority list (R129). -/
def Dev.fairSelect (d : Dev) (port : Nat) : Dev :=
  match d.wfqPick port with
  | none => d
  | some livery =>
    let l := liveryList livery port
    match d.list l with
    | [] => d
    | f :: t =>
      let fin := (sget (fun _ => (0, 0)) (d.wfq port).tags livery).2
      let d := d.onTpk fun x => { x with wfq := sput (fun _ => ⟨0, []⟩) x.wfq port { d.wfq port with v := fin } }
      let d := (((d.setList l t).charge (12 * livery + port) f.length).charge (3072 + livery) f.length).pushLink f
      match t with
      | [] => d
      | g :: _ => d.setTag port fin livery fin g.length

/-- Whether the node of a shaper holds a frame (R126). -/
def Dev.nodeHolds (d : Dev) (i : Nat) : Bool :=
  if i < 3072 then !(d.list (liveryList (i / 12) (i % 12))).isEmpty
  else if i < 3328 then (List.range 12).any fun n => !(d.list (liveryList (i - 3072) n)).isEmpty
  else !(d.list (i - 3328)).isEmpty

/-- One shaper at a refill: gain up to HICREDIT, or the reset of an empty node's credit. Rates in Mb/s over 189.6 ns give 237 ten-thousandths
of a byte for each Mb/s. -/
def Shaper.refill (s : Shaper) (holds : Bool) : Shaper :=
  if s.rate = 0 then s
  else if holds || decide (s.credit < 0) then { s with credit := min (s.credit + (s.rate * 237 : Nat)) ((s.hi * 10000 : Nat) : Int) }
  else { s with credit := min s.credit 0 }

/-- A committed configuration takes effect; credit is kept and clamped (R128). -/
def Shaper.configure (s : Shaper) (c : Nat × Nat × Nat) : Shaper :=
  { rate := c.1, hi := c.2.1, lo := c.2.2, credit := max (min s.credit ((c.2.1 * 10000 : Nat) : Int)) (-((c.2.2 * 10000 : Nat) : Int)) }

/-- A policer's configuration takes effect, with both buckets clamped to the new sizes (R120). -/
def Policer.configure (p c : Policer) : Policer := { c with tc := min p.tc (c.cbs * 10000), tp := min p.tp (c.pbs * 10000) }

/-- A policer's buckets at a refill. -/
def Policer.refill (p : Policer) : Policer := { p with tc := min (p.tc + p.cir * 237) (p.cbs * 10000), tp := min (p.tp + p.pir * 237) (p.pbs * 10000) }

/-- SHAPER_REFILL (R120, R127, R128): staged configurations first, then the gains. -/
def Dev.refill (d : Dev) : Dev :=
  let d := d.forEach d.tpk.shpPending fun d x => d.onTpk fun t => { t with shapers := sput shaperDflt t.shapers x.1 ((sget shaperDflt t.shapers x.1).configure x.2) }
  let d := d.forEach d.tpk.polPending fun d x => d.onTpk fun t => { t with policers := sput policerDflt t.policers x.1 ((sget policerDflt t.policers x.1).configure x.2) }
  let d := d.forEach (d.tpk.shapers.map (·.1)) fun d i => d.onTpk fun t => { t with shapers := sput shaperDflt t.shapers i ((d.shaper i).refill (d.nodeHolds i)) }
  let d := d.forEach (d.tpk.policers.map (·.1)) fun d i => d.onTpk fun t => { t with policers := sput policerDflt t.policers i (sget policerDflt t.policers i).refill }
  let gain : Int := (d.fld Reg.tssCtrlRate 0 16 * 237 : Nat)
  let d := d.forEach (d.tpk.ctl.map (·.1)) fun d k =>
    d.onTpk fun t => { t with ctl := sput (fun _ => (0 : Int)) t.ctl k (min 0 (sget (fun _ => (0 : Int)) t.ctl k + gain)) }
  d.onTpk fun t => { t with shpPending := [], polPending := [] }

/-- TSS_SHP_CMD.COMMIT: the staging copy waits for the next refill (R128). -/
def Dev.commitShaper (d : Dev) : Dev :=
  d.onTpk fun t => { t with shpPending := dropAt (·.1) (d.fld Reg.tssShpIdx 0 12) t.shpPending ++
    [(d.fld Reg.tssShpIdx 0 12, d.fld Reg.tssShpRate 0 20, d.fld Reg.tssShpHi 0 24, d.fld Reg.tssShpLo 0 24)] }

/-- TSS_POL_CTL.COMMIT. -/
def Dev.commitPolicer (d : Dev) : Dev :=
  let cir := d.fld Reg.tssPolCir 0 20
  let p : Policer := ⟨cir, max cir (d.fld Reg.tssPolPir 0 20), d.fld Reg.tssPolCbs 0 24, d.fld Reg.tssPolPbs 0 24, d.flag Reg.tssPolCtl 0, d.flag Reg.tssPolCtl 1, 0, 0⟩
  d.onTpk fun t => { t with polPending := dropAt (·.1) (d.fld Reg.tssPolIdx 0 12) t.polPending ++ [(d.fld Reg.tssPolIdx 0 12, p)] }

/-- The whole length in quanta of the run of a gate that is open now (R131). -/
def Dev.runQuanta (d : Dev) (cls : Nat) : Nat :=
  let ws := windowsOf d.rul.active d.rul.geo.lpf cls
  d.lineStart (runStop ws 65 d.line) - d.lineStart (runStart ws 65 d.line)

/-- GATE_RUN_OPEN: a head frame that even the whole run is too short for is discarded (R131). -/
def Dev.gateOpens (d : Dev) (link prio : Nat) : Dev :=
  match d.list (linkList link prio) with
  | [] => d
  | f :: t =>
    if bit (d.raw (bank Reg.tssLinkSched link)) (8 + prio) && d.classOpen (8 + prio) && (d.runEnd (8 + prio)).isSome
        && decide (d.runQuanta (8 + prio) < d.wireQuanta link f.length) then
      ((((d.setList (linkList link prio) t).countReg Reg.tssGateDrop 1).raise 0x105)).judgeXon
    else d

/-! ## The storage attachment (R111) -/

/-- Deficit round robin over the bulk FIFOs: the head that is served next. -/
def Dev.drrServe (d : Dev) : Nat → Dev
  | 0 => d
  | fuel + 1 =>
    let n := d.tpk.drr
    let next (d : Dev) (credit : Nat) : Dev := d.onTpk fun t => { t with drr := (n + 1) % 12, drrCredit := credit }
    match (d.port n).fifo with
    | [] => (next d 4096).drrServe fuel
    | b :: t =>
      if b.length ≤ d.tpk.drrCredit then
        ((d.onPort n fun p => { p with fifo := t }).onTpk fun x => { x with drrCredit := x.drrCredit - b.length }).judgeXon
      else
        -- the deficit is kept by a second visit's share: each round adds 4,096 bytes
        (next d (d.tpk.drrCredit + 4096)).drrServe fuel

/-- STORAGE_ATTACHMENT_SERVE: a packet is taken when level 4 grants space. -/
def Dev.attachmentServe (d : Dev) : Dev := if d.freshAllowed 4 then d.drrServe 60 else d

/-! ## Ports (R105, R116, R134) -/

/-- A link changes state: its ETHn_ERR bit and LINKn. -/
def Dev.linkChange (d : Dev) (link : Nat) (up : Bool) : Dev :=
  let n := link / 8
  if !(d.linkExists link) || bit (d.port n).up (link % 8) == up || (up && (!(d.port n).enabled || (d.port n).cageOff)) then d
  else
    let d := d.onPort n fun p => { p with up := if up then setBit p.up (link % 8) else clearBit p.up (link % 8) }
    let d := if up then d else d.onTpk fun t => { t with pauses := t.pauses.filter fun p => p.link != link, xoffs := t.xoffs.filter fun x => x.link != link }
    (d.setFld (ethReg Reg.ethErr n) (link % 8) 1 1).raise (0x0E0 + n)

/-- Frames queued for links that no longer exist are discarded (R105). -/
def Dev.flushLink (d : Dev) (link : Nat) : Dev :=
  d.forEach (ctlList link :: (List.range 8).map (linkList link)) fun d l =>
    let n := (d.list l).length
    if n = 0 then d else (d.setList l []).countEth link 26 n

/-- ETHn_CTL.APPLY: EN, ROLE and MODE come into force and the port's links train again. -/
def Dev.applyPort (d : Dev) (n : Nat) : Dev :=
  let c := d.raw (ethReg Reg.ethCtl n)
  let d := d.forEach ((List.range 8).map fun s => 8 * n + s) fun d k => d.linkChange k false
  let d := d.onPort n fun p => { p with enabled := bit c 0, role := bits c 1 1, mode := bits c 2 2, up := 0 }
  let d := d.forEach ((List.range 8).filter fun s => decide ((d.port n).links ≤ s)) fun d s => d.flushLink (8 * n + s)
  (d.setFld (ethReg Reg.ethErr n) 10 1 1).raise 0x0EE

/-- FEC_WINDOW: the uncorrected codewords of 1 ms, by link (R134). -/
def Dev.fecWindow (d : Dev) (n : Nat) (l corrected : List Nat) : Dev :=
  let k := (d.port n).links
  let d := d.forEach (List.range k) fun d s => (d.countEth (8 * n + s) 6 (corrected.getD s 0)).countEth (8 * n + s) 7 (l.getD s 0)
  if (l.take k).any fun x => decide (d.fld (ethReg Reg.ethFecThr n) 0 16 ≤ x) then (d.setFld (ethReg Reg.ethErr n) 8 1 1).raise 0x0EC else d

/-- A pause of a link and priority. -/
def Dev.pause? (d : Dev) (link prio : Nat) : Option Pause := d.tpk.pauses.find? fun p => p.link == link && p.prio == prio

/-- PAUSE_TIMER_EXPIRY (R115). -/
def Dev.pauseEnds (d : Dev) (link prio : Nat) : Dev :=
  match d.pause? link prio with
  | some p => (d.upTo p.until_).onTpk fun t => { t with pauses := t.pauses.filter fun x => !(x.link == link && x.prio == prio) }
  | none => d

/-- PFC_WATCHDOG (R116): the priority is still paused once WD has passed. -/
def Dev.pfcBarks (d : Dev) (link prio : Nat) : Dev :=
  match d.pause? link prio with
  | none => d
  | some p =>
    let due := p.since + quantaMs (d.fld (ethReg Reg.ethPfcWd (link / 8)) 0 16)
    if p.barked || decide (p.until_ ≤ due) then d
    else
      let d := (d.upTo (due + 1)).onTpk fun t => { t with pauses := t.pauses.map fun x => if x.link = link ∧ x.prio = prio then { x with barked := true } else x }
      (d.setFld (ethReg Reg.ethErr (link / 8)) 9 1 1).raise 0x0ED

/-- XOFF_REPEAT (R117): half of the pause time has run; the XOFF is sent again while its condition holds. -/
def Dev.xoffAgain (d : Dev) (link prio : Nat) : Dev :=
  match d.tpk.xoffs.find? fun x => x.link == link && x.prio == prio with
  | none => d
  | some x =>
    let d := d.upTo x.repeatAt
    let half := d.xoffHalf link
    let d := d.onTpk fun t => { t with xoffs := (t.xoffs.filter fun y => y != x) ++ [{ x with repeatAt := d.q + half }] }
    let v := d.xoffLevel x
    if v.2 ≤ v.1 then d.sendPfc link prio 0xFFFF else d

/-! ## Tables (R133) -/

/-- The entries of a table. -/
def tpkEntries (t : Nat) : Nat := match t with | 0 => 2048 | 1 => 16384 | 2 => 64 | _ => 8

/-- The bits of a table word that hold a field. -/
def tpkMask (t i : Nat) : Nat :=
  match t, i with
  | 0, 0 => 0x3FFFFFFF
  | 0, 1 => 0x01FFFFFF
  | 0, 6 => 0x003FFFFF
  | 0, 7 => 0
  | 1, 0 => 0xFFFFFFFF
  | 1, 1 => 0x0FFFFFFF
  | 1, 2 => 0x800007FF
  | 2, 0 => 0x80007FFF
  | 3, 0 => 0x8FF7FFFF
  | 0, _ => 0xFFFFFFFF
  | 2, _ => if i < 2 ∨ 5 < i then 0 else 0xFFFFFFFF
  | _, _ => 0

/-- A table word as it is kept: PREFIX_LEN and TRUNC at most their maxima. -/
def tpkWord (t i v : Nat) : Nat :=
  let v := Nat.land v (tpkMask t i)
  if t = 0 ∧ i = 1 then setBits v 17 8 (min 128 (bits v 17 8))
  else if t = 3 ∧ i = 0 then setBits v 20 8 (min 143 (bits v 20 8))
  else v

/-- TPK_TBL_CMD with GO: one entry is read or written, or FAIL is set. -/
def Dev.tpkTable (d : Dev) : Dev :=
  let c := d.raw Reg.tpkTblCmd
  let t := bits c 16 2
  let i := bits c 0 16
  if tpkEntries t ≤ i then d.setFld Reg.tpkTblCmd 21 1 1
  else
    let d := d.setFld Reg.tpkTblCmd 21 1 0
    if bit c 18 then
      let w := (List.range 8).map fun k => tpkWord t k (d.raw (Reg.tpkTblData + 4 * k))
      d.onTpk fun x => { x with tables := sput (fun _ => []) x.tables (t * 65536 + i) (if w.all (· == 0) then [] else w) }
    else
      let w := sget (fun _ => []) d.tpk.tables (t * 65536 + i)
      d.forEach (List.range 8) fun d k => d.setRaw (Reg.tpkTblData + 4 * k) (w.getD k 0)

/-! ## Delay_Req (R37) -/

/-- DELAY_REQ_SEND: as a PTP slave with a Sync to measure against, on a host-role link of PORT_MASK. -/
def Dev.delayReq (d : Dev) (link : Nat) : Dev :=
  if d.linkUp link && !(d.tandemRole link) && d.flag Reg.rulPtpCfg (8 + link / 8) && d.rul.servo.syncAt.isSome then
    let seq := (d.rul.servo.reqSeq + 1) % 65536
    (d.onRul fun r => { r with servo := { r.servo with reqSeq := seq, reqAt := some d.q } }).emit (.delayReq link seq)
  else d

/-! ## Commands -/

/-- PAUSE_TIMER_EXPIRY (R115). -/
def execPauseTimerExpiry (link prio : Nat) (s : State) : Host.Outcome State Fault Refusal := s.run (wfLink link && wfPrio prio) fun d => d.pauseEnds link prio

/-- PFC_WATCHDOG (R116). -/
def execPfcWatchdog (link prio : Nat) (s : State) : Host.Outcome State Fault Refusal := s.run (wfLink link && wfPrio prio) fun d => d.pfcBarks link prio

/-- XOFF_REPEAT (R117). -/
def execXoffRepeat (link prio : Nat) (s : State) : Host.Outcome State Fault Refusal := s.run (wfLink link && wfPrio prio) fun d => d.xoffAgain link prio

/-- LINK_TX_SELECT (R125). -/
def execLinkTxSelect (link : Nat) (s : State) : Host.Outcome State Fault Refusal := s.run (wfLink link) fun d => d.linkSelect link

/-- FAIR_QUEUE_SELECT (R129). -/
def execFairQueueSelect (port : Nat) (s : State) : Host.Outcome State Fault Refusal := s.run (wfPort port) fun d => d.fairSelect port

/-- SHAPER_REFILL (R127). -/
def execShaperRefill (s : State) : Host.Outcome State Fault Refusal := s.run true fun d => d.refill

/-- STORAGE_ATTACHMENT_SERVE (R111). -/
def execStorageAttachmentServe (s : State) : Host.Outcome State Fault Refusal := s.run true fun d => d.attachmentServe

/-- GATE_RUN_OPEN (R131). -/
def execGateRunOpen (link prio : Nat) (s : State) : Host.Outcome State Fault Refusal := s.run (wfLink link && wfPrio prio) fun d => d.gateOpens link prio

/-- FEC_WINDOW (R134). -/
def execFecWindow (port : Nat) (uncorrected corrected : List Nat) (s : State) : Host.Outcome State Fault Refusal :=
  s.run (decide (port < 12) && decide (uncorrected.length ≤ 8) && decide (corrected.length ≤ 8)) fun d => d.fecWindow port uncorrected corrected

/-- ETH_LINK_CHANGE (R134). -/
def execEthLinkChange (link : Nat) (up : Bool) (s : State) : Host.Outcome State Fault Refusal := s.run (wfLink link) fun d => d.linkChange link up

/-- DELAY_REQ_SEND (R37). -/
def execDelayReqSend (link : Nat) (s : State) : Host.Outcome State Fault Refusal := s.run (wfLink link) fun d => d.delayReq link

end Sys2Proof.Machine
end

