-- ==== Sys2Proof/Machine/Steps.lean ====
section
/-! DEFINITION. Long operations at work (R88 to R97, R557): the commands that start those of the layout unit and of the shelf's
power states, what one step of each operation does, cancellation, and the STEP_* commands. -/

namespace Sys2Proof.Machine

/-! ## Deletion and formatting of objects (R252, R254) -/

/-- NS_DELETE and TAKE_DELETE on an object of the right sort (DEDUCED: assumption log, entry 22). -/
def Dev.runDelete (d : Dev) (c : Cmd) (take : Bool) : Dev :=
  match d.objOf c with
  | some o =>
    if take == (o.kind == .openTake || o.kind == .closedTake) then d.acceptLong c o.num [] [] else d.rangeFault c 0
  | none => d.rangeFault c 0

/-- NS_FORMAT. -/
def Dev.runNsFormat (d : Dev) (c : Cmd) : Dev :=
  match d.objOf c with
  | some o => if o.kind = .ns then d.acceptLong c o.num [] [] else d.rangeFault c 0
  | none => d.rangeFault c 0

/-- A step of NS_DELETE: a namespace goes; the export of a take is withdrawn, and the take is CLOSED. -/
def Dev.nsDeleteStep (d : Dev) (n : Nat) (prog : List Nat) : Dev × StepEnd :=
  match d.obj? n with
  | none => (d, if prog.isEmpty then .done 0x8008 0x1000 [] else .done 0 0 [])
  | some o =>
    if prog = [3] then (if o.kind = .exported then (d, .waits [3]) else (d, .done 0 0 []))
    else if o.kind = .exported then (d.change (.objKind n .closedTake o.blocks) none, .waits [3])
    else d.deleteStep n prog

/-- A step of TAKE_DELETE. -/
def Dev.takeDeleteStep (d : Dev) (n : Nat) (prog : List Nat) : Dev × StepEnd :=
  if (d.obj? n).isNone ∧ prog.isEmpty then (d, .done 0x8008 0x1000 []) else d.deleteStep n prog

/-- A step of NS_FORMAT: up to 1,024 entries become UNMAPPED. -/
def Dev.nsFormatStep (d : Dev) (n : Nat) (prog : List Nat) : Dev × StepEnd :=
  match prog with
  | 1 :: rsns => if d.allAcked rsns then (d.applyUnmaps rsns, .more [2]) else (d, .waits prog)
  | _ =>
    if (d.obj? n).isNone then (d, .done 0x8008 0x1000 [])
    else
      let l := (d.mappedStripes n).take 1024
      if l.isEmpty then (d, .done 0 0 [])
      else
        let r := d.logUnmaps n l
        (r.1, .waits (1 :: r.2))

/-! ## MAP_CHECKPOINT (R248, R254) -/

/-- Segments that MAP_CHECKPOINT writes: those dirty as it begins. -/
def Dev.dirtyAtStart (d : Dev) : List Nat := (d.lay.segments.filter fun s => s.dirtyAt.isSome).map Segment.num

/-- A step of MAP_CHECKPOINT: up to 16 segments; at the end it waits until none is being written. -/
def Dev.checkpointStep (d : Dev) (prog : List Nat) : Dev × StepEnd :=
  let todo := match prog with | [] => d.dirtyAtStart | _ :: l => l
  let now := todo.take 16
  let busy (g : Nat) : Bool := d.lay.segments.any fun s => s.num == g && s.writing && s.dirtyAt.isSome
  if todo.isEmpty then
    if d.lay.segments.any Segment.writing then (d, .waits [1]) else (d, .done 0 0 (leBytes 8 d.lay.ckptSeq))
  else if now.any busy then (d, .waits (1 :: todo))
  else (d.forEach (now.filter d.dirtySegments.contains) fun d g => d.writeSegment g, .more (1 :: todo.drop 16))

/-! ## ARRAY_CREATE (R232 to R236, R254) -/

/-- Whether a drive command serves the array: everything but the initialisation of drives, their reservations and their
power. -/
def Purpose.ofArray : Purpose → Bool
  | .reserve _ => false
  | .register => false
  | .admin _ => false
  | _ => true

/-- Changes to metadata that are on their way come in force at once, with their replies: the array that logs them goes. -/
def Dev.flushMetas (d : Dev) : Dev :=
  let l := d.lay.metas
  let d := (d.forEach l fun d m => d.applyChange m.change).onLay fun x => { x with metas := [] }
  d.forEach (l.filterMap PendingMeta.cmd).dedup fun d id => d.metaReply id

/-- Long operations on the array, other than the one in `slot`, end: what they name no longer exists. -/
def Dev.endArrayOps (d : Dev) (slot : Nat) : Dev :=
  d.forEach (d.cp.longOps.filter fun l => l.slot != slot && (l.op / 256 == 1 || l.op / 256 == 4 || l.op / 256 == 5)) fun d l =>
    match d.longOp? l.slot with
    | some l => d.endLong l 0x8008 0x1000 []
    | none => d

/-- Commands that name objects fail as for an object that does not exist (R254). -/
def Dev.failObjectCmds (d : Dev) (slot : Nat) : Dev :=
  let hit (c : Cmd) : Bool :=
    c.phase == .running && (c.op / 256 == 1 || c.op / 256 == 2 || c.op / 256 == 4) && c.aux.take 2 != [slot, 1]
  let d := d.forEach (d.cp.cmds.filter hit) fun d c => d.rangeFault c 0
  d.forEach (d.hqe.cmds.filter fun c => decide (c.op < 256)) fun d c => d.endNvme c invalidNamespace 0 []

/-- The units of the write, read, check and rebuild paths are left without work; the write sequence goes on rising. -/
def Dev.idleUnits (d : Dev) : Dev :=
  let r := Dev.reset
  let d := { d with
    nib := { r.nib with seq := d.nib.seq, peak := d.nib.peak, nextJob := d.nib.nextJob }
    rd := { r.rd with nextId := d.rd.nextId }
    otr := r.otr
    rly := { r.rly with creditAt := d.q }
    blt := { r.blt with partnerLoaded := d.blt.partnerLoaded, replay := 3 }
    cve := { d.cve with queue := [] }
    hqe := { d.hqe with locks := [], resvs := [] }
    drv := { d.drv with cmds := d.drv.cmds.filter fun c => !(c.purpose.ofArray) } }
  d.forEach [1, 2, 5, 7, 9] fun d p => d.setUse p 0

/-- The module stops serving its array (R254, REPLACE): its objects cease to exist. -/
def Dev.stopServing (d : Dev) (slot : Nat) : Dev :=
  let d := (d.flushMetas.endArrayOps slot).failObjectCmds slot
  let d := d.forEach (d.rae.inks.map Inkwell.index) fun d i => d.releaseInk i
  let d := d.idleUnits.finishClears
  d.onLay fun _ => Dev.reset.lay

/-- The geometry, slots and progress numbers of ARRAY_CREATE as its step keeps them: stage, D, SC, S, N, U, seed, identity. -/
def createProg (stage : Nat) (g : ArrayGeo) : List Nat := [stage, g.d, g.sc, g.s, g.n, g.u, g.seed, g.identity]

/-- The geometry that `createProg` kept. -/
def progGeo (l : List Nat) : ArrayGeo :=
  { ArrayGeo.make (l.getD 1 0) (l.getD 2 0) (l.getD 3 0) (l.getD 4 0) (l.getD 5 0) with seed := l.getD 6 0, identity := l.getD 7 0 }

/-- The member slots that ARRAY_CREATE names. -/
def createSlots (p : List Byte) : List Nat := maskSlots (fieldAt p 12 6)

/-- The layout unit as a new array leaves it. -/
def newLay (l : Lay) (g : ArrayGeo) (slots : List Nat) : Lay :=
  { Dev.reset.lay with state := 3, geo := some g, slots := slots, ordinals := slots.map fun _ => 0, labelSeq := l.labelSeq }

/-- ARRAY_CREATE is accepted, or fails its checks (R234). -/
def Dev.runArrayCreate (d : Dev) (c : Cmd) : Dev :=
  let p := c.pkt.params
  let slots := createSlots p
  let g := arrayGeometry p slots.length (d.smallest slots)
  let clamps := g.2 ++ reservedParam p 11 1 7
  if d.lay.geo.isSome && !(bit (c.par 11 1) 0) then d.rangeFault c 11
  else if slots.any fun k => !((d.slotAt k).usable) then d.rangeFault c 12
  else
    let d := d.when (g.2.any fun e => e.byte == 9 && e.reason == 6) fun d => d.raise 0x161
    if g.1.usable then d.acceptLong c 0 clamps [] else d.finishWith c 0x8008 0x100C [] clamps

/-- Label copy `copy` goes to every drive of the new array. -/
def Dev.createLabels (d : Dev) (g : ArrayGeo) (slots : List Nat) (copy : Nat) : Dev :=
  let img := d.onLay fun l => newLay l g slots
  d.forEach (List.range slots.length) fun d m =>
    let k := slots.getD m 0xFF
    ((d.submit k .write (128 * copy) 1 2 (.label m copy false)).1).emit (.block k (img.labelBlock m copy))

/-- The first step: the old array goes, the seed and the identity are drawn, and the home and checkpoint regions are cleared. -/
def Dev.createBegin (d : Dev) (slot : Nat) (p : List Byte) : Dev × StepEnd :=
  let slots := createSlots p
  let g := (arrayGeometry p slots.length (d.smallest slots)).1
  if d.lay.geo.isSome && !(bit (fieldAt p 11 1) 0) then (d, .done 0x8008 0x100B [])
  else if (slots.any fun k => !((d.slotAt k).usable)) || !g.usable then (d, .done 0x8008 0x100C [])
  else
    let d := d.when d.lay.geo.isSome fun d => d.stopServing slot
    let a := d.takeFree
    let b := a.2.takeFree
    let seed := if fieldAt p 0 8 = 0 then a.1 % 2 ^ 64 else fieldAt p 0 8
    let g := { g with seed := seed, identity := b.1 % 2 ^ 128 }
    let d := b.2.onLay fun l => { l with state := 1, labelSeq := l.labelSeq + 1 }
    let d := d.forEach (List.range slots.length) fun d m =>
      (d.submit (slots.getD m 0xFF) .deallocate 256 (1048576 + g.ckptBlocks) 6 (.clear m)).1
    (d, .waits (createProg 1 g))

/-- No array comes of it (R254). -/
def Dev.createFails (d : Dev) : Dev × StepEnd := (d.onLay fun l => { l with state := 0, geo := none }, .done 0x8008 0x100C [])

/-- The array exists: every member holds copy 0. Liveries carry over into its metadata. -/
def Dev.createServes (d : Dev) (g : ArrayGeo) (slots : List Nat) : Dev :=
  let d := (d.onLay fun l => newLay l g.withTable slots).onBlt fun b => { b with replay := 3 }
  d.forEach d.lvy.liveries fun d l => d.dirty (d.metaSegment (MetaChange.place (.liveryGen l.num l.generation)))

/-- A step of ARRAY_CREATE. -/
def Dev.createStep (d : Dev) (slot : Nat) (p : List Byte) (prog : List Nat) : Dev × StepEnd :=
  let g := progGeo prog
  let slots := createSlots p
  let out (f : Purpose → Bool) : Bool := d.drv.cmds.any fun c => slots.contains c.slot && f c.purpose && !(d.slotTriggered c.slot)
  let broken : Bool := slots.any fun k => (d.slotAt k).drive != .ready
  match prog.headD 0 with
  | 0 => d.createBegin slot p
  | 1 =>
    if out fun x => match x with | .clear _ => true | _ => false then (d, .waits prog)
    else if broken then d.createFails
    else (d.createLabels g slots 0, .waits (createProg 2 g))
  | 2 =>
    if out Purpose.isLabel then (d, .waits prog)
    else if broken then d.createFails
    else ((d.createServes g slots).createLabels g slots 1, .waits (createProg 3 g))
  | _ =>
    if out Purpose.isLabel then (d, .waits prog)
    else (d.raise 0x160, .done 0 0 (leBytes 8 g.seed ++ leBytes 16 g.identity))

/-! ## POWER_STATE (R204 to R206) -/

/-- Whether Relay has work outstanding. -/
def Dev.relayWork (d : Dev) : Bool := d.workMembers != 0 || d.rly.phase != 0 || d.rly.copy.isSome

/-- POWER_STATE is accepted. One that arrives during an entry ends it (R206). -/
def Dev.runPowerState (d : Dev) (c : Cmd) : Dev :=
  let p := c.pkt.params
  let t := clampParam p 0 0 8 0 2
  let down := t.1 == 2 && d.relayWork
  let app := if down then 1 else t.1
  let clamps := if down then reclamp p 0 8 t.2 3 1 else t.2
  let d := if d.powerEntry.isSome then d.cancelEntry else d
  d.acceptLong { c with pkt := { c.pkt with params := BitVec.ofNat 8 app :: p.drop 1 } } 0 clamps []

/-- The progress of an entry is set in HQE_PSTATE. -/
def Dev.entryAt (d : Dev) (step : Nat) : Dev := d.onHqe fun h => { h with pstep := step }

/-- The entry is complete: its target is in force. -/
def Dev.entryEnds (d : Dev) (was t : Nat) : Dev × StepEnd :=
  let d := (d.onHqe fun h => { h with pstate := t, pstep := 0, ptarget := 0 }).raise 0x145
  (d, .done 0 0 (d.powerReply was))

/-- The operation begins: nothing to do, an exit to P0, or step 1 of an entry. -/
def Dev.powerBegins (d : Dev) (t : Nat) : Dev × StepEnd :=
  let was := d.hqe.pstate
  if d.hqe.pwaking then (d, .waits [])
  else if t = was then
    let d := d.onHqe fun h => { h with pbegan := d.q }
    (d, .done 0 0 (d.powerReply was))
  else if t = 0 then (d.beginExit none, .waits [5, was])
  else (d.onHqe fun h => { h with ptarget := t, pstep := 1, pbegan := d.q }, .waits [1, was, t])

/-- A step of POWER_STATE. An entry that was ended waits until its exit has run. -/
def Dev.powerStep (d : Dev) (slot : Nat) (p : List Byte) (prog : List Nat) : Dev × StepEnd :=
  let was := prog.getD 1 0
  let t := prog.getD 2 0
  let k := prog.getD 3 0
  let asked := fieldAt p 0 1
  if d.hqe.pwaking && d.hqe.pslot == some slot then (d, .waits prog)
  else match prog.headD 0 with
    | 0 => d.powerBegins (if asked = 2 ∧ d.relayWork then 1 else asked)
    | 1 => if d.drv.cmds.any fun c => decide (c.cls < 6) && c.at_.isSome then (d, .waits prog) else (d, .more [2, was, t, 0])
    | 2 =>
      if k = 0 then ((d.entryAt 2).setDrivePower drivesLow, .waits [2, was, t, 1])
      else if d.powerOut drivesLow then (d, .waits prog) else (d, .more [3, was, t, 0])
    | 3 =>
      let d := (d.entryAt 3).forEach (d.readyDrives.filter fun s => s / 4 == k) fun d s => d.emit (.slotBus s 0x204)
      if k < 11 then (d, .more [3, was, t, k + 1]) else if t = 2 then (d, .more [4, was, t, 0]) else d.entryEnds was t
    | 4 =>
      if k = 0 then ((d.entryAt 4).setDrivePower drivesOff, .waits [4, was, t, 1])
      else if d.powerOut drivesOff then (d, .waits prog) else d.entryEnds was t
    | _ => if d.hqe.pwaking || d.hqe.pstate != 0 then (d, .waits prog) else (d, .done 0 0 (d.powerReply was))

/-! ## One step of an operation -/

/-- What a step of operation `l` does, by its opcode. -/
def Dev.stepOf (d : Dev) (l : LongOp) : Dev × StepEnd :=
  match l.op with
  | 0x0101 => d.nsDeleteStep l.target l.prog
  | 0x0103 => d.nsFormatStep l.target l.prog
  | 0x0107 => d.takeDeleteStep l.target l.prog
  | 0x0400 => d.createStep l.slot l.pkt.params l.prog
  | 0x0403 => d.checkpointStep l.prog
  | 0x0501 => d.otrPassStep l.slot l.prog
  | 0x0505 => d.relayPassStep l.slot l.prog
  | 0x0506 => d.copyStep l.slot (l.prog.headD 0)
  | 0x0601 => d.lvyDeleteStep l.slot l.prog
  | 0x0605 => d.lvyFreezeStep l.slot l.prog
  | 0x0606 => d.lvySaveStep l.slot l.prog
  | 0x0607 => d.lvyRestoreStep l.slot l.prog
  | 0x0902 => d.handoverStep l.slot l.prog
  | 0x0A09 => d.wblClearStep l.prog
  | 0x0C01 => d.fwUpdateStep l.slot l.prog
  | 0x0C04 => d.powerStep l.slot l.pkt.params l.prog
  | _ => (d, .done 0x800F 0 [])

/-- What an operation leaves when it ends at a step boundary before its work is done, and the payload of its report (R331, R352,
R225, R520, R254). -/
def Dev.stopLong (d : Dev) (l : LongOp) : Dev × List Byte :=
  let buffer := min 3 (fieldAt l.pkt.params 2 1)
  match l.op with
  | 0x0400 => (if d.lay.state = 1 then d.onLay fun x => { x with state := 0, geo := none } else d, [])
  | 0x0501 => (d.otrPassOver, d.otrPassReply (l.prog.headD 0))
  | 0x0505 => (d.onRly fun r => { r with pass := none, passIn := 0, passCounts := [] }, [])
  | 0x0506 => (((d.forEach d.rly.copyLocks fun d k => d.releaseLock k).onRly fun r => { r with copyLocks := [] }).copyOver, d.copyReply)
  | 0x0606 => (if l.prog.isEmpty then d else (d.freeBuffer buffer true).setLivery l.target .frozen, [])
  | 0x0607 => (if d.liveryState l.target = 5 then (d.freeBuffer buffer false).setLivery l.target .service else d, [])
  | 0x0A09 => (d.onWbl fun w => { w with clearing := false }, [])
  | 0x0C01 => (d.fwUpdateStops l, [])
  | _ => (d, [])

/-- An operation ends at its step boundary with a status and detail. -/
def Dev.cutLong (d : Dev) (l : LongOp) (status detail : Nat) : Dev :=
  let r := d.stopLong l
  r.1.endLong l status detail r.2

/-- A step of the operation in `slot` runs (R88); one that is to be cancelled ends at the boundary it reaches (R93). -/
def Dev.runStep (d : Dev) (slot : Nat) : Dev :=
  match d.longOp? slot with
  | none => d
  | some l =>
    if l.mode = .heldBack then d
    else
      let r := d.stepOf l
      match l.cancel, r.2 with
      | true, .more p => r.1.cutLong { l with prog := p } 0 0x0303
      | _, e => r.1.afterStep slot e

/-! ## STEP_CONTINUE, STEP_RELEASE, STEP_CANCEL, LONGOP_QUERY (R89 to R95) -/

/-- The operation that a cookie names, or the detail with which the request fails (R92). -/
def Dev.byCookie (d : Dev) (c : Cmd) : Except Nat LongOp :=
  let k := c.par 0 4
  match (d.longOp? (bits k 24 8)).filter fun l => l.livery == c.livery && l.use == bits k 16 8 with
  | none => .error 0x0301
  | some l => if l.step = 0 ∨ l.step % 65536 ≠ bits k 0 16 ∨ (d.stepWaiter l.slot).isSome then .error 0x0302 else .ok l

/-- STEP_CONTINUE. -/
def Dev.runStepContinue (d : Dev) (c : Cmd) : Dev :=
  match d.byCookie c with
  | .error e => d.fail c 0x8008 e
  | .ok l =>
    if l.mode ≠ .stepped then d.fail c 0x8008 0x0302
    else
      let d := d.onCmd c.id fun c => { c with phase := .running, aux := [l.slot, 1] }
      (d.onLong l.slot fun l => { l with holdAt := none }).runStep l.slot

/-- STEP_RELEASE. -/
def Dev.runStepRelease (d : Dev) (c : Cmd) : Dev :=
  match d.byCookie c with
  | .error e => d.fail c 0x8008 e
  | .ok l =>
    if l.mode ≠ .stepped then d.fail c 0x8008 0x0302
    else (d.onLong l.slot fun l => { l with mode := .background, holdAt := none }).finishWith c 4 0 [] []

/-- Whether an operation is between its step boundaries: work that a step began runs to its end (R331, R352, R557). -/
def Dev.midStep (d : Dev) (l : LongOp) : Bool :=
  match l.op with
  | 0x0501 => d.otr.check.isSome
  | 0x0506 => d.rly.copyRow != 0 || d.rly.work.isSome
  | _ => false

/-- An operation is cancelled: it ends now, or at the boundary it comes to; POWER_STATE ends once P0 is in force (R205). -/
def Dev.cancelLong (d : Dev) (l : LongOp) : Dev :=
  if l.op = 0x0C04 then
    let d := d.cancelEntry
    if d.hqe.pwaking then d else d.cutLong l 0 0x0303
  else if d.midStep l then d.onLong l.slot fun l => { l with cancel := true }
  else d.cutLong l 0 0x0303

/-- STEP_CANCEL (R93, R94). -/
def Dev.runStepCancel (d : Dev) (c : Cmd) : Dev :=
  match d.byCookie c with
  | .error e => d.fail c 0x8008 e
  | .ok l =>
    if !((opInfo l.op).any OpInfo.cancel) then d.fail c 0x8008 0x0304
    else
      let kind := if l.mode = .stepped then 1 else 2
      let d := d.onCmd c.id fun c => { c with phase := .running, aux := [l.slot, kind] }
      (d.onLong l.slot fun l => { l with holdAt := none }).cancelLong l

/-- LONGOP_QUERY: the manual gives it 8 bytes of parameters and no layout; the model takes byte 0 as the slot, and the bytes
of the answer are free values (DESIGN CHOICE: assumption log, entry 38). -/
def Dev.runLongopQuery (d : Dev) (c : Cmd) : Dev := d.done c ((List.range 8).map fun k => Config.reportByte (0x500 + c.par 0 1) k)

/-! ## LONGOP_STEP, COOKIE_EXPIRED, HELD_LONGOP_START -/

/-- LONGOP_STEP: a background operation takes its next step; one that waits asks for its condition again (R88). -/
def Dev.longopStep (d : Dev) (slot : Nat) : Dev :=
  match d.longOp? slot with
  | some l => if l.mode = .background ∨ (d.stepWaiter slot).isSome then d.runStep slot else d
  | none => d

/-- COOKIE_EXPIRED: no request named the latest cookie within its hold (R94). -/
def Dev.cookieExpires (d : Dev) (slot : Nat) : Dev :=
  match d.longOp? slot with
  | some l =>
    match l.holdAt with
    | some t =>
      if l.mode = .stepped && (d.stepWaiter slot).isNone then
        (((d.upTo t).onLong slot fun l => { l with mode := .background, holdAt := none }).setFld Reg.cmdErr 3 1 1).raise 0x01A
      else d
    | none => d
  | none => d

/-- HELD_LONGOP_START: the active operation of the same opcode and target has finished, and the oldest held one starts (R95). -/
def Dev.heldStart (d : Dev) (slot : Nat) : Dev :=
  match d.longOp? slot with
  | some l =>
    let same (x : LongOp) : Bool := x.op == l.op && x.target == l.target
    let first := (d.cp.longOps.find? fun x => same x && x.mode == .heldBack).map LongOp.slot
    if l.mode = .heldBack && first == some slot && !(d.cp.longOps.any fun x => same x && x.mode != .heldBack) then
      let stepped := (d.stepWaiter slot).isSome
      let d := d.onLong slot fun l => { l with mode := if stepped then .stepped else .background }
      if stepped then d.runStep slot else d
    else d
  | none => d

end Sys2Proof.Machine
end

