-- ==== Sys2Proof/Machine/Settle.lean ====
section
/-! DEFINITION. What follows of itself once something has changed: acknowledgements move records, records move descriptors and
metadata, those end write jobs and commands, and so on until nothing moves (DESIGN CHOICE: assumption log, entry 2). -/

namespace Sys2Proof.Machine

/-! ## The end of write jobs (R276, R277, R282 to R285) -/

/-- Whether a job may reply: it failed, or its stripes have reached their reply point and every job before it has replied. -/
def WriteJob.ready (w : WriteJob) : Bool := w.failed.isSome || (w.waits.isEmpty && w.pending.isEmpty && w.after.isEmpty)

/-- A job is over; the jobs that waited for it are not durable before it is (R283). -/
def Dev.endJobs (d : Dev) (w : WriteJob) : Dev :=
  let after (x : WriteJob) : WriteJob :=
    if w.id ∈ x.after then
      { x with after := x.after.erase w.id
               durable := if w.failed.isSome then x.durable else some (max (x.durable.getD 0) (w.durable.getD 0)) }
    else x
  d.onNib fun n => { n with jobs := (dropAt WriteJob.id w.id n.jobs).map after }

/-- A COMMIT that is durable moves its take's length, and enters its frame (R275, R282). -/
def Dev.growObject (d : Dev) (w : WriteJob) : Dev :=
  if w.takeOrdinal = 0 then d
  else d.onObj w.object fun o =>
    { o with length := w.lengthAfter, frames := match w.frame with | some f => o.frames ++ [(f, w.first)] | none => o.frames }

/-- The reply of a COMMIT or FLUSH at its durable quantum (R282, R283, R285). -/
def Dev.replyJob (d : Dev) (w : WriteJob) (c : Cmd) : Dev :=
  let q := w.durable.getD d.q
  let late := w.dueFlag && (match w.due with | some t => d.isLate q t | none => false)
  let d := d.sample 1 w.livery (d.rul.sixteenths (q - w.accepted))
  let d := d.when late fun d => d.raiseL 0x171 (some w.livery)
  let st := if late then 3 else 0
  if w.isFlush then d.finishAt c st 0 (leBytes 4 (c.aux.headD 0) ++ leBytes 4 (c.aux.getD 1 0)) [] (d.rul.rtsAt q)
  else
    let d := (((d.countNib 5 1).countNib 6 (b2n late)).countLivery w.livery 8 1).countLivery w.livery 9 (b2n late)
    let k (i : Nat) : Nat := w.counts.getD i 0
    d.finishAt c st 0 (leBytes 8 w.first ++ leBytes 8 w.lengthAfter ++ leBytes 4 (k 0) ++ leBytes 4 (k 1) ++ leBytes 4 (k 2) ++ leBytes 4 (k 3))
      (natsToClamps c.aux) (d.rul.rtsAt q)

/-- A job ends: its command or its NVMe command is answered. -/
def Dev.finishJob (d : Dev) (w : WriteJob) : Dev :=
  let d := d.endJobs w
  match w.owner with
  | .nvme qp cid => d.writeEnds qp cid w.failed
  | .packet id =>
    match d.cmd? id, w.failed with
    | none, _ => d
    | some c, some f => d.finishWith c f.1 f.2 [] (if w.isFlush then [] else natsToClamps c.aux)
    | some c, none => (d.growObject w).replyJob w c

/-- Every job that may reply does, in the order of acceptance. -/
def Dev.finishJobs (d : Dev) : Dev :=
  d.forEach (d.nib.jobs.map WriteJob.id) fun d j =>
    match d.job? j with
    | some w => if w.ready then d.finishJob w else d
    | none => d

/-- NVMe Writes that Nib no longer runs, because a livery's reset discarded their stripes, release what they hold (R286). -/
def Dev.forgetWrites (d : Dev) : Dev :=
  let owned (c : NvmeCmd) : Bool := d.nib.jobs.any fun j => j.owner == .nvme c.qp c.cid
  d.forEach (d.hqe.cmds.filter fun c => c.stage == 6 && c.dropped && !(owned c) && !(d.rd.reads.any fun r => r.owner == .nvme c.qp c.cid)) fun d c =>
    d.writeEnds c.qp c.cid (some (0x800F, 0))

/-- Whether a COMMIT or FLUSH that waited for descriptors can have them. -/
def Dev.hasRoom (d : Dev) (c : Cmd) : Bool :=
  if c.op = 0x0200 then (match d.checkCommit c with | .ok r => d.descRoom r.obj.num (d.commitBlocks r) none | .error _ => true)
  else (d.flushBlocks c.livery).all fun w => d.descRoom w.1 w.2 none

/-- Commands that waited for descriptors go on when there are enough (R261). -/
def Dev.retryWaiting (d : Dev) : Dev :=
  d.forEach (d.cp.cmds.filter fun c => (c.op == 0x0200 || c.op == 0x0201) && c.phase == .running && c.aux == [1]) fun d c =>
    if d.hasRoom c then (if c.op = 0x0200 then d.runCommit c else d.runFlush c) else d

/-! ## TAKE_CLOSE (R252) -/

/-- TAKE_CLOSE: its tail closes, the take is CLOSED, and it replies when every COMMIT accepted for the take has completed. -/
def Dev.runTakeClose (d : Dev) (c : Cmd) : Dev :=
  match (d.objOf c).filter fun o => o.kind == .openTake with
  | none => d.rangeFault c 0
  | some o =>
    let d := d.onCmd c.id fun c => { c with phase := .running, aux := [2, o.num] }
    (d.closeTail o.num).change (.objKind o.num .closedTake o.blocks) none

/-- A TAKE_CLOSE that can reply does. -/
def Dev.closeProgress (d : Dev) (c : Cmd) : Dev :=
  let n := c.aux.getD 1 0
  match d.obj? n with
  | none => d.rangeFault c 0
  | some o =>
    if o.kind = .openTake ∨ (d.nib.jobs.any fun j => j.object == n && j.takeOrdinal != 0) then d
    else d.done c (leBytes 8 o.length ++ leBytes 4 o.frames.length ++ leBytes 4 0)

/-- Every TAKE_CLOSE that can reply does. -/
def Dev.closeTakes (d : Dev) : Dev :=
  d.forEach (d.cp.cmds.filter fun c => c.op == 0x0105 && c.phase == .running && c.aux.head? == some 2) fun d c => d.closeProgress c

/-! ## Everything that follows -/

/-- Reads go as far as they can. -/
def Dev.readsProgress (d : Dev) : Dev :=
  d.forEach d.rd.reads fun d r => match r.owner with | .packet _ => d.readProgress r.id | .nvme _ _ => d

/-- Steps that wait for a condition look at it again; an operation to be cancelled ends at its boundary (R557). -/
def Dev.stepsProgress (d : Dev) : Dev :=
  d.forEach (d.cp.longOps.filter fun l => l.mode != .heldBack && ((d.stepWaiter l.slot).isSome || l.cancel)) fun d l => d.runStep l.slot

/-- Relay's own progress. -/
def Dev.relayAll (d : Dev) : Dev :=
  let d := d.labelProgress.relayProgress
  let d := if d.lay.state = 3 then d.recordByHead else d
  if d.rly.raised || !d.rly.triggers.isEmpty || d.rly.phase != 0 then d.judgeRaised else d

/-- Sessions whose QP is gone are closed (R62). -/
def Dev.closeLostSessions (d : Dev) : Dev :=
  d.forEach (d.cp.sessions.filter fun s => s.src.transport == .rdma && (d.qp? s.src.key).isNone) fun d s => d.closeSession s.id

/-- The write path: acknowledged records, metadata, descriptors, jobs. -/
def Dev.settleWrites (d : Dev) : Dev :=
  ((((d.logMetas.applyMetas).advanceDescs).finishJobs.forgetWrites.retryWaiting).retire).closeTakes

/-- Reads, checks, rebuild, replay and takeover. -/
def Dev.settleUnits (d : Dev) : Dev := (((d.readsProgress.otrProgress).relayAll).replayProgress).takeoverProgress.judgeMirror

/-- Hosts, steps and the shelf. -/
def Dev.settleHosts (d : Dev) : Dev :=
  ((((d.resetLost.nvmeProgress).issueHeld).exitProgress).stepsProgress).freeReleased.closeLostSessions.tellHosts

/-- One round. -/
def Dev.settleOnce (d : Dev) : Dev := d.settleWrites.settleUnits.settleHosts

/-- What follows of itself: two rounds. The rest follows at the next step. -/
def Dev.settle (d : Dev) : Dev := if d.clk.inReset then d else d.settleOnce.settleOnce

/-- The meaning of a command whose effect may let other work go on. -/
def State.act (ok : Bool) (f : Dev → Dev) (s : State) : Host.Outcome State Fault Refusal := s.run ok fun d => (f d).settle

/-! ## Rows of the table: long operations -/

/-- LONGOP_STEP. -/
def execLongopStep (slot : Nat) (s : State) : Host.Outcome State Fault Refusal := s.act (wfLong slot) fun d => d.longopStep slot

/-- COOKIE_EXPIRED. -/
def execCookieExpired (slot : Nat) (s : State) : Host.Outcome State Fault Refusal := s.act (wfLong slot) fun d => d.cookieExpires slot

/-- HELD_LONGOP_START. -/
def execHeldLongopStart (slot : Nat) (s : State) : Host.Outcome State Fault Refusal := s.act (wfLong slot) fun d => d.heldStart slot

end Sys2Proof.Machine
end

