-- ==== Sys2Proof/Machine/HostRows.lean ====
section
/-! DEFINITION. The rows of the table for NVMe-oF (R188 to R202): one meaning for each command of a host, and the timers. -/

namespace Sys2Proof.Machine

/-- NVME_CONNECT (R189). -/
def execNvmeConnect (c : ConnectData) (s : State) : Host.Outcome State Fault Refusal := s.act c.wf fun d => d.connect c

/-- PROPERTY_GET (R190). -/
def execPropertyGet (c : Capsule) (s : State) : Host.Outcome State Fault Refusal := s.act c.wf fun d => d.propertyGet c

/-- PROPERTY_SET (R190). -/
def execPropertySet (c : Capsule) (s : State) : Host.Outcome State Fault Refusal := s.act c.wf fun d => d.propertySet c

/-- IDENTIFY (R192). -/
def execIdentify (c : Capsule) (s : State) : Host.Outcome State Fault Refusal := s.act c.wf fun d => d.identify c

/-- GET_FEATURES (R192). -/
def execGetFeatures (c : Capsule) (s : State) : Host.Outcome State Fault Refusal := s.act c.wf fun d => d.getFeatures c

/-- SET_FEATURES (R192). -/
def execSetFeatures (c : Capsule) (s : State) : Host.Outcome State Fault Refusal := s.act c.wf fun d => d.setFeatures c

/-- GET_LOG_PAGE (R192). -/
def execGetLogPage (c : Capsule) (s : State) : Host.Outcome State Fault Refusal := s.act c.wf fun d => d.getLogPage c

/-- KEEP_ALIVE (R200). -/
def execKeepAlive (c : Capsule) (s : State) : Host.Outcome State Fault Refusal := s.act c.wf fun d => d.keepAlive c

/-- ASYNCHRONOUS_EVENT_REQUEST (R192). -/
def execAsynchronousEventRequest (c : Capsule) (s : State) : Host.Outcome State Fault Refusal := s.act c.wf fun d => d.asyncRequest c

/-- NAMESPACE_MANAGEMENT (R192). -/
def execNamespaceManagement (c : Capsule) (s : State) : Host.Outcome State Fault Refusal := s.act c.wf fun d => d.nsManagement c

/-- ABORT (R198). -/
def execAbort (c : Capsule) (s : State) : Host.Outcome State Fault Refusal := s.act c.wf fun d => d.abort c

/-- NVME_FLUSH (R191). -/
def execNvmeFlush (c : Capsule) (s : State) : Host.Outcome State Fault Refusal := s.act c.wf fun d => d.ioIn c 0x00

/-- NVME_WRITE (R191). -/
def execNvmeWrite (c : Capsule) (s : State) : Host.Outcome State Fault Refusal := s.act c.wf fun d => d.ioIn c 0x01

/-- NVME_READ (R191). -/
def execNvmeRead (c : Capsule) (s : State) : Host.Outcome State Fault Refusal := s.act c.wf fun d => d.ioIn c 0x02

/-- WRITE_ZEROES (R192). -/
def execWriteZeroes (c : Capsule) (s : State) : Host.Outcome State Fault Refusal := s.act c.wf fun d => d.ioIn c 0x08

/-- DATASET_MANAGEMENT (R192). -/
def execDatasetManagement (c : Capsule) (s : State) : Host.Outcome State Fault Refusal := s.act c.wf fun d => d.ioIn c 0x09

/-- RESERVATION_REGISTER (R192). -/
def execReservationRegister (c : Capsule) (s : State) : Host.Outcome State Fault Refusal := s.act c.wf fun d => d.ioIn c 0x0D

/-- RESERVATION_REPORT (R192). -/
def execReservationReport (c : Capsule) (s : State) : Host.Outcome State Fault Refusal := s.act c.wf fun d => d.ioIn c 0x0E

/-- RESERVATION_ACQUIRE (R192). -/
def execReservationAcquire (c : Capsule) (s : State) : Host.Outcome State Fault Refusal := s.act c.wf fun d => d.ioIn c 0x11

/-- RESERVATION_RELEASE (R192). -/
def execReservationRelease (c : Capsule) (s : State) : Host.Outcome State Fault Refusal := s.act c.wf fun d => d.ioIn c 0x15

/-- INVALID_COMMAND_OPCODE (R192, R194). -/
def execInvalidCommandOpcode (c : Capsule) (s : State) : Host.Outcome State Fault Refusal := s.act c.wf fun d => d.invalidIn c

/-- RDMA_READ_PULL_DONE: the data of a Write has come (R191). -/
def execRdmaReadPullDone (qp cid : Nat) (data : List Byte) (s : State) : Host.Outcome State Fault Refusal :=
  s.act (wfQp qp && wfCid cid) fun d => d.pullDone qp cid data

/-- KATO_EXPIRED (R200). -/
def execKatoExpired (cntlid : Nat) (s : State) : Host.Outcome State Fault Refusal :=
  s.act (wfCid cntlid) fun d =>
    match d.controller? cntlid with
    | some k => if k.katoMs = 0 then d else (d.upTo (k.kaAt + quantaMs k.katoMs)).katoExpires k
    | none => d

/-- CMD_OVERDUE (R201). -/
def execCmdOverdue (qp cid : Nat) (s : State) : Host.Outcome State Fault Refusal :=
  s.act (wfQp qp && wfCid cid) fun d =>
    match (d.nvme? qp cid).bind NvmeCmd.overdueAt with
    | some t => (((d.upTo t).onNvme qp cid fun c => { c with overdueAt := none }).countHqe 7 1).raise 0x142
    | none => d

end Sys2Proof.Machine
end

