-- ==== Sys2Proof/Machine/Ecc.lean ====
section
/-! DEFINITION. Memory errors and the scrubber (R429 to R438), and the parts of the module that stop: a command processor instance
(R18, R97), a clock (R522, R523), a plug-in module (R544); the temperature (R534). -/

namespace Sys2Proof.Machine

/-! ## A command processor instance stops (R13, R18, R97) -/

/-- The instance that owns the unit of an opcode at start-up (R13, R17, R77). -/
def opHome (op : Nat) : Nat :=
  match op / 256 with
  | 1 => 3
  | 2 => 3
  | 3 => 1
  | 4 => 3
  | 5 => 3
  | 6 => 2
  | 8 => 2
  | 0xC => if op = 0x0C04 then 2 else 0
  | _ => 0

/-- The instance that serves an opcode now. -/
def Dev.opOwner (d : Dev) (op : Nat) : Nat := d.cp.owner.getD (opHome op) 0

/-- Whether the instance that serves an opcode runs. -/
def Dev.served (d : Dev) (op : Nat) : Bool := bit d.cp.run (d.opOwner op)

/-- The lowest-numbered running instance. -/
def Dev.lowestRunning (d : Dev) : Option Nat := (List.range 4).find? fun i => bit d.cp.run i

/-- Whether a command waits for a long operation that is held back. -/
def Dev.waitsHeldBack (d : Dev) (c : Cmd) : Bool := d.cp.longOps.any fun l => l.mode == .heldBack && c.aux == [l.slot, 1]

/-- What was in progress on instance `i` ends with INTERNAL: its long operations at their last finished step, then its commands. -/
def Dev.endInstance (d : Dev) (i : Nat) : Dev :=
  let mine (l : LongOp) : Bool := d.opOwner l.op == i && (l.mode != .heldBack || d.cp.run == 0)
  let d := d.forEach (d.cp.longOps.filter mine) fun d l => match d.longOp? l.slot with | some l => d.cutLong l 0x800F 0 | none => d
  d.forEach (d.cp.cmds.filter fun c => c.phase == .running && d.opOwner c.op == i && !(d.waitsHeldBack c)) fun d c =>
    match d.cmd? c.id with | some c => d.fail c 0x800F 0 | none => d

/-- CP_STOPPED: an instance stops, and its units pass to the lowest-numbered instance that runs. -/
def Dev.stopInstance (d : Dev) (i : Nat) : Dev :=
  if !(bit d.cp.run i) || decide (4 ≤ i) then d
  else
    let d := { d with cp := { d.cp with run := clearBit d.cp.run i } }
    let d := d.endInstance i
    let d := match d.lowestRunning with
      | some j => { d with cp := { d.cp with owner := d.cp.owner.map fun o => if o = i then j else o } }
      | none => d
    (d.setFld Reg.cmdErr (4 + i) 1 1).raise 0x018

/-! ## Uncorrectable errors (R434, R435) -/

/-- A QP whose RDMA Read met an uncorrectable word: NAK Remote Operational Error, and ERROR (R159). -/
def Dev.readNak (d : Dev) (n : Nat) : Dev :=
  match d.qp? n with
  | some q => d.nakFatal n 6 (.nakOperational q.expected)
  | none => d

/-- A command packet whose work read the word; a step of a long operation ends the operation. -/
def Dev.poisonCmd (d : Dev) (id m : Nat) : Dev :=
  match d.cmd? id with
  | none => d
  | some c =>
    match d.cp.longOps.find? fun l => c.aux == [l.slot, 1] with
    | some l => d.cutLong l 0x800D (0x0A00 + m)
    | none => if c.phase = .running then d.fail c 0x800D (0x0A00 + m) else d

/-- The first frame that waits for a link is discarded. -/
def Dev.dropCell (d : Dev) (link : Nat) : Dev :=
  match (ctlList link :: (List.range 8).map (linkList link)).find? fun l => !(d.list l).isEmpty with
  | some l => (d.setList l ((d.list l).drop 1)).countEth link 26 1
  | none => d

/-- What the requester of an uncorrectable read receives (R434, R435). A page or FIFO of bulk ingress leaves its packet unacknowledged,
which is the sender's matter; a slot of the Blotter ring is read again from a home copy. -/
def Dev.deliverUe (d : Dev) (m : Nat) (r : MemRequester) : Dev :=
  match r with
  | .bar2 _ => (d.onMep fun x => { x with aer := x.aer + 1 }).emit (.barData [] true)
  | .command id => d.poisonCmd id m
  | .rdmaRead qp => d.readNak qp
  | .drain i => if (d.desc? i).isSome then d.drainFail i else d
  | .readStaging id => d.onRead id fun r => { r with poisoned := some (r.poisoned.getD (0x0A00 + m)) }
  | .bulkIngress _ => d
  | .sharedCell link => d.dropCell link
  | .qpContext qp => d.qpError qp 0
  | .controlCore i => d.stopInstance i
  | .mapSegment g => d.onLay fun l => { l with reloading := if l.reloading.contains g then l.reloading else l.reloading ++ [g] }
  | .blotterRing _ => d
  | .scrubber => d.raise 0x071

/-- The word of a byte address within a memory. -/
def wordAt (m a : Nat) : Nat := a / wordBytes m * wordBytes m

/-- A word of HBM or DDR5 is poisoned (R430). -/
def Dev.poisonWord (d : Dev) (m a : Nat) : Dev :=
  if m < 6 then d.onMem fun x => { x with poison := (m, wordAt m a) :: x.poison.filter fun p => p != (m, wordAt m a) } else d

/-- UNCORRECTABLE_ERROR. -/
def Dev.ueFound (d : Dev) (m a syn : Nat) (r : MemRequester) : Dev := ((d.poisonWord m a).uncorrectable m a syn).deliverUe m r

/-- MAP_SEG_RELOAD: the segment is read again, and the lookups that it held go on (R435). -/
def Dev.segReloaded (d : Dev) (g : Nat) : Dev :=
  if !(d.lay.reloading.contains g) then d
  else
    let d := (d.onLay fun l => { l with reloading := l.reloading.erase g }).raise 0x066
    d.forEach (d.rd.reads.filter fun r => r.granted && !r.submitted) fun d r => d.askGranules r.id

/-! ## Rates of correctable errors (R433) -/

/-- The correctable errors of a memory in the running second. -/
def Dev.ceIn (d : Dev) (m : Nat) : List Nat := (d.mem.ceWindow.filter fun e => e.1 == m).map (·.2)

/-- Whether one device accounts for more than half of them. -/
def ceMajority (l : List Nat) : Bool := l.any fun x => decide (l.length < 2 * (l.filter fun y => y == x).length)

/-- CE_RATE_WINDOW: a second of a memory ends. -/
def Dev.ceSecond (d : Dev) (m : Nat) : Dev :=
  let l := d.ceIn m
  let d := if max 1 (d.fld Reg.memCeThr 0 16) ≤ l.length then d.raise 0x061 else d
  let d := if 2 ≤ m ∧ m < 6 ∧ ceMajority l = true then (d.setFld Reg.memStatus (6 + m) 1 1).raise 0x065 else d
  d.onMem fun x => { x with ceWindow := x.ceWindow.filter fun e => e.1 != m }

/-! ## Scrubber (R437) -/

/-- The scrubber's position in a memory. -/
def Dev.scrubAt (d : Dev) (m : Nat) : Nat := sget (fun _ => 0) d.mem.scrubPos m

/-- The scrubber moves to the next word, and wraps at the end of the memory. -/
def Dev.scrubNext (d : Dev) (m : Nat) : Dev :=
  let next := d.scrubAt m + wordBytes m
  if next < memoryBytes m then d.onMem fun x => { x with scrubPos := sput (fun _ => 0) x.scrubPos m next }
  else
    (d.onMem fun x =>
      { x with scrubPos := sput (fun _ => 0) x.scrubPos m 0
               scrubPasses := sput (fun _ => 0) x.scrubPasses m (min 0xFFFFFFFF (sget (fun _ => 0) x.scrubPasses m + 1)) }).raise 0x070

/-- SCRUB_READ: the next word of a memory that SCB_CTL.EN names. -/
def Dev.scrub (d : Dev) (m : Nat) : Dev :=
  if !(d.flag Reg.scbCtl m) then d
  else
    let a := d.scrubAt m
    let d :=
      if (m, a) ∈ d.mem.poison then let f := d.takeFree; (f.2.uncorrectable m a (f.1 % 2 ^ 32)).raise 0x071
      else if (m, a) ∈ d.mem.flipped then
        (d.onMem fun x => { x with flipped := x.flipped.filter fun p => p != (m, a) }).correctable m 0 false
      else d
    d.scrubNext m

/-! ## Injection and fill (R429, R431) -/

/-- MEM_INJ: ARM makes the next write to the memory store a flipped pattern. -/
def Dev.injArm (d : Dev) (v : Nat) : Dev :=
  let m := min 6 (bits v 0 3)
  let d := d.setRaw Reg.memInj (m + 8 * bits v 3 1)
  if bit v 4 then d.onMem fun x => { x with inject := some (m, bit v 3) } else d

/-- MEMORY_FILL: step 7 has filled every memory; `failed` has a bit for each whose read-back check failed. -/
def Dev.fillDone (d : Dev) (failed : Nat) : Dev :=
  if d.clk.step ≠ 7 ∨ d.clk.inReset ∨ d.clk.failed then d
  else
    ((d.onMem fun x => { x with filled := decide (failed = 0) }).setRaw Reg.memStatus
      (setBits (setBit (d.raw Reg.memStatus) 0) 1 7 failed)).raise 0x060

/-! ## Clocks (R522, R523) -/

/-- The nominal frequency of a domain in kHz; index 60 is REFCLK_SYS. -/
def nominalKhz (i : Nat) : Nat :=
  if i < 24 then 850000
  else if i < 36 then 1000000
  else if i = 36 then 500000
  else if i < 39 then 850000
  else if i < 41 then 1200000
  else if i < 46 then 1600000
  else match i with
    | 46 => 1350000
    | 47 => 2000000
    | 48 => 1000000
    | 49 => 1200000
    | 50 => 800000
    | 51 => 1200000
    | 52 => 250000
    | 53 => 100000
    | 54 => 200000
    | 55 => 125000
    | 56 => 3200000
    | 57 => 25000
    | 58 => 50000
    | 59 => 4000
    | _ => 100000

/-- Whether a measured frequency is faulty: stopped, or more than 500 ppm off. JTAG runs at any frequency up to its limit. -/
def khzFaulty (i k : Nat) : Bool :=
  let n := nominalKhz i
  if i = 58 then decide (n * 1000500 < k * 1000000) else decide (n * 1000500 < k * 1000000) || decide (k * 1000000 < n * 999500)

/-- Domains whose fault resets the module. -/
def coreDomain (i : Nat) : Bool := (decide (39 ≤ i) && decide (i ≤ 49)) || i == 51 || (decide (53 ≤ i) && decide (i ≤ 55)) || i == 60

/-- What a faulty domain brings with it, other than a reset. -/
def Dev.clockLost (d : Dev) (i : Nat) : Dev :=
  if i < 24 then d.forEach (List.range 8) fun d s => d.linkChange (8 * (i % 12) + s) false
  else if i < 36 then
    d.forEach (List.range 4) fun d s =>
      let k := 4 * (i - 24) + s
      if (d.slotAt k).present && (d.slotAt k).speed != 3 then d.aerError k .surpriseDown else d
  else if i = 36 then (if d.mep.speed = 0 then d else (d.onMep fun m => { m with speed := 0, width := 0 }).raise 0x0D2)
  else if i < 39 then d.lanesChange 0
  else match i with
    | 50 => (d.onRul fun r => { r with holdClkOk := false }).raise 0x04E
    | 52 => d.loseSource 0
    | 56 => d.loseSource 1
    | _ => d

/-- The domains that a check finds faulty. -/
def faultyDomains (khz : List Nat) : List Nat := (List.range 61).filter fun i => khzFaulty i (khz.getD i 0)

/-- What a check shows in the registers. -/
def Dev.clockShown (d : Dev) (khz : List Nat) : Dev :=
  let f := faultyDomains khz
  let d := d.onClk fun c =>
    { c with khz := (List.range 60).filterMap (fun i => if khz.getD i 0 = 0 then none else some (i, khz.getD i 0))
             faulty := f.filter fun i => decide (i < 60), sysOk := !(f.contains 60) }
  if f.contains 50 then d else d.onRul fun r => { r with holdClkOk := true }

/-- CLOCK_CHECK: every millisecond. A core clock's fault holds the module in reset until a check finds none. -/
def Dev.clockCheck (d : Dev) (khz : List Nat) : Dev :=
  let f := faultyDomains khz
  if f.any coreDomain then d.enterReset 5
  else if d.clk.inReset then d.leaveReset 5
  else
    let new_ := f.filter fun i => !(d.clk.faulty.contains i)
    let d := d.clockShown khz
    let d := d.forEach new_ fun d i => d.clockLost i
    if f.any fun i => decide (i < 60) then d.raise 0x023 else d

/-! ## Temperature and cages (R534, R544) -/

/-- TEMP_SAMPLE: the hottest die sensor in eighths of a degree. -/
def Dev.sampleTemp (d : Dev) (t : Nat) : Dev :=
  let was := d.fld Reg.mcrTemp 0 12
  let d := d.setRaw Reg.mcrTemp (t + 65536 * max t (d.fld Reg.mcrTemp 16 12))
  let reaches (limit : Nat) : Bool := decide (was < 8 * limit) && decide (8 * limit ≤ t)
  let d := if reaches (d.fld Reg.mcrTherm 0 8) then d.raise 0x010 else d
  if reaches (d.fld Reg.mcrTherm 8 8) then d.raise 0x011 else d

/-- PLUG_IN_MODULE_OVERPOWER: the cage's power is removed, and the port's links stay down. -/
def Dev.cagePowerOff (d : Dev) (cage : Nat) : Dev :=
  (d.forEach (List.range 8) fun d s => d.linkChange (8 * cage + s) false).onPort cage fun p => { p with cageOff := true }

/-! ## Rows of the table -/

/-- CORRECTABLE_ERROR (R432). -/
def execCorrectableError (memory address device : Nat) (overwritten : Bool) (s : State) : Host.Outcome State Fault Refusal :=
  s.run (wfAddress memory address && decide (device < 32)) fun d => d.correctable memory device overwritten

/-- UNCORRECTABLE_ERROR (R434). -/
def execUncorrectableError (memory address : Nat) (syndrome : Word) (requester : MemRequester) (s : State) : Host.Outcome State Fault Refusal :=
  s.act (wfAddress memory address) fun d => d.ueFound memory address syndrome.toNat requester

/-- CE_RATE_WINDOW (R433). -/
def execCeRateWindow (memory : Nat) (s : State) : Host.Outcome State Fault Refusal := s.run (decide (memory < 7)) fun d => d.ceSecond memory

/-- MAP_SEG_RELOAD (R435). -/
def execMapSegReload (segment : Nat) (s : State) : Host.Outcome State Fault Refusal := s.act true fun d => d.segReloaded segment

/-- SCRUB_READ (R437, R438). -/
def execScrubRead (memory : Nat) (s : State) : Host.Outcome State Fault Refusal := s.run (decide (memory < 7)) fun d => d.scrub memory

/-- MEM_INJ_ARM. -/
def execMemInjArm (_m : Master) (value : Word) (s : State) : Host.Outcome State Fault Refusal := s.run true fun d => d.injArm value.toNat

/-- MEMORY_FILL (R431). -/
def execMemoryFill (failed : Nat) (s : State) : Host.Outcome State Fault Refusal := s.run (decide (failed < 128)) fun d => d.fillDone failed

/-- CLOCK_CHECK (R523). -/
def execClockCheck (khz : List Nat) (s : State) : Host.Outcome State Fault Refusal := s.act (decide (khz.length = 61)) fun d => d.clockCheck khz

/-- CP_STOPPED (R18). -/
def execCpStopped (instance_ : Nat) (s : State) : Host.Outcome State Fault Refusal := s.act (decide (instance_ < 4)) fun d => d.stopInstance instance_

/-- TEMP_SAMPLE (R534). -/
def execTempSample (eighths : Nat) (s : State) : Host.Outcome State Fault Refusal := s.run (decide (eighths < 4096)) fun d => d.sampleTemp eighths

/-- PLUG_IN_MODULE_OVERPOWER (R544). -/
def execPlugInModuleOverpower (cage : Nat) (s : State) : Host.Outcome State Fault Refusal := s.run (decide (cage < 12)) fun d => d.cagePowerOff cage

end Sys2Proof.Machine
end

