-- ==== Sys2Proof/Machine/RulPackets.lean ====
section
/-! DEFINITION. Ruling's command packets (R54, R55). -/

namespace Sys2Proof.Machine

/-- RUL_QUERY. -/
def Dev.runRulQuery (d : Dev) (c : Cmd) : Dev :=
  d.done c (leBytes 1 d.rul.state.code ++ leBytes 1 (d.rul.source.getD 3) ++ leBytes 1 (d.rul.epoch % 16) ++ leBytes 1 0
    ++ leBytes 4 (d.rul.phaseErr % 2 ^ 32).toNat ++ leBytes 8 d.now)

/-- The report of a geometry field that R34 changed: 1 or 2 for its own range, 5 for a change that another field made. -/
def geoReport (off width asked own applied : Nat) : List ClampEntry :=
  if asked = applied then []
  else [⟨off, 0, width, if own ≠ applied then 5 else if asked < applied then 1 else 2, asked, applied⟩]

/-- A source code of a priority list: a repeated one is replaced by 3. -/
def prioReport (off bt asked applied : Nat) : List ClampEntry := if asked = applied then [] else [⟨off, bt, 2, 3, asked, applied⟩]

/-- Source priorities with repeated codes applied as 3 (RUL_SRC_PRIO). -/
def prioClamp (v : Nat) : Nat :=
  let a := bits v 0 2
  let b := if bits v 2 2 = a then 3 else bits v 2 2
  let c := if bits v 4 2 = a ∨ bits v 4 2 = b then 3 else bits v 4 2
  a + 4 * b + 16 * c

/-- The clamp report of RUL_CONFIGURE, in ascending byte offset (R85). -/
def rulConfigureReport (p : List Byte) (g : Geometry) : List ClampEntry :=
  let num := fieldAt p 0 4
  let den := fieldAt p 4 4
  let lpf := fieldAt p 8 2
  let pr := fieldAt p 10 1
  let a := prioClamp pr
  geoReport 0 32 num (max num 1) g.num ++ geoReport 4 32 den (max den 1) g.den ++ geoReport 8 16 lpf (clampNat 1 16383 lpf) g.lpf
    ++ (prioReport 10 2 (bits pr 2 2) (bits a 2 2) ++ prioReport 10 4 (bits pr 4 2) (bits a 4 2) ++ reservedParam p 10 6 2)
    ++ reservedParam p 11 2 6 ++ (clampParam p 12 0 8 1 255).2 ++ (clampParam p 14 12 4 2 15).2 ++ (clampParam p 16 0 32 0 1000000).2
    ++ (clampParam p 20 0 16 100 60000).2

/-- The registers that RUL_CONFIGURE sets. -/
def Dev.rulSet (d : Dev) (p : List Byte) (g : Geometry) : Dev :=
  let d := ((d.setRaw Reg.rulRateNum g.num).setRaw Reg.rulRateDen g.den).setRaw Reg.rulLpf g.lpf
  let d := d.setRaw Reg.rulSrcPrio (prioClamp (fieldAt p 10 1))
  let d := (d.setFld Reg.rulCtl 2 1 (bits (fieldAt p 11 1) 0 1)).setFld Reg.rulCtl 8 8 (clampNat 1 255 (fieldAt p 12 1))
  let d := d.setFld Reg.rulCtl 16 16 (clampNat 100 60000 (fieldAt p 20 2))
  let d := (d.setFld Reg.rulPtpCfg 0 8 (fieldAt p 13 1)).setFld Reg.rulPtpCfg 8 12 (fieldAt p 14 2)
  let d := d.setFld Reg.rulPtpCfg 20 4 (clampNat 2 15 (bits (fieldAt p 14 2) 12 4))
  d.setRaw Reg.rulInbandDly (clampNat 0 1000000 (fieldAt p 16 4))

/-- RUL_CONFIGURE; RELOCK is a re-lock (R35). -/
def Dev.runRulConfigure (d : Dev) (c : Cmd) : Dev :=
  let p := c.pkt.params
  let g := clampGeometry (fieldAt p 0 4) (fieldAt p 4 4) (fieldAt p 8 2)
  let d := d.rulSet p g
  (if bit (fieldAt p 11 1) 1 then d.relock else d).doneClamped c [] (rulConfigureReport p g)

/-- An entry of RUL_TABLE_LOAD, and its part of the report. -/
def loadEntry (p : List Byte) (off : Nat) : WinEntry × List ClampEntry :=
  let s := clampParam p off 0 16 0 16382
  let e := clampParam p (off + 2) 0 16 0 16383
  let m := setBits (fieldAt p (off + 4) 2) 6 2 0
  let v := bits (fieldAt p (off + 6) 1) 0 1
  (⟨BitVec.ofNat 32 (s.1 + 2 ^ 16 * e.1 + 2 ^ 31 * v), BitVec.ofNat 32 m⟩,
    s.2 ++ e.2 ++ reservedParam p (off + 4) 6 2 ++ reservedParam p (off + 6) 1 7)

/-- RUL_TABLE_LOAD: COPY first, then the entries into the shadow bank; with SWAP it replies when the bank takes effect (R52, R55). -/
def Dev.runRulTableLoad (d : Dev) (c : Cmd) : Dev :=
  let p := c.pkt.params
  let first := clampParam p 0 0 8 0 63
  let count := clampParam p 1 0 8 1 (64 - first.1)
  let es := (List.range count.1).map fun i => (first.1 + i, loadEntry p (8 + 8 * i))
  let clamps := first.2 ++ count.2 ++ reservedParam p 2 2 6 ++ es.flatMap fun x => x.2.2
  let d := if bit (fieldAt p 2 1) 1 then d.copyTables else d
  let d := d.onRul fun r => r.setShadow (es.foldl (fun t x => sput bankDflt t x.1 x.2.1) r.shadow)
  if bit (fieldAt p 2 1) 0 then (d.onCmd c.id fun c => { c with phase := .running, aux := clampsToNats clamps }).requestSwap
  else d.doneClamped c [] clamps

/-- RUL_PULSE: a camera frame pulse that a host forwards, timed by its arrival less OFFSET less RUL_INBAND_DLY (R39). -/
def Dev.runRulPulse (d : Dev) (c : Cmd) : Dev :=
  let ns := c.par 4 4 + d.raw Reg.rulInbandDly
  let d := if d.flag Reg.rulCtl 0 && d.rul.started then d.pulse (c.par 0 4) (c.arrived - ceilDiv (4 * ns) 5) else d
  d.done c []

/-- RUL_CONVERT. -/
def Dev.runRulConvert (d : Dev) (c : Cmd) : Dev :=
  match d.toPresent (c.par 0 8) with
  | some r => d.done (if d.epochsBehind (c.par 0 8) = 0 then c else { c with detail := 0x0201 }) (leBytes 8 r)
  | none => d.fail c 0x8008 0x0202

end Sys2Proof.Machine
end

