-- ==== Sys2Proof/Machine/Access.lean ====
section
/-! DEFINITION. Register accesses (R14, R15, R527 to R533): what a read returns and does, the access types and clamps of a write, and
what a write to a register of a unit makes the unit do. -/

namespace Sys2Proof.Machine

/-! ## Reserved accesses (R530, R531) -/

/-- The code of a master in MCR_RSVD_ADDR. -/
def masterCode (m : Master) : Nat :=
  match m with
  | .unitController => 0
  | .commandProcessor => 0
  | .endpoint => 1
  | .smbus => 2

/-- An access to a reserved offset, or a write with partial byte enables, is recorded, counted and reported. -/
def Dev.reservedAccess (d : Dev) (m : Master) (off : Nat) (write partial_ : Bool) : Dev :=
  let v := off % 2 ^ 24 + 2 ^ 24 * b2n write + 2 ^ 25 * b2n partial_ + 2 ^ 26 * (masterCode m)
  ((d.setRaw Reg.mcrRsvdAddr v).countReg Reg.mcrRsvdCnt 1).raise 0x012

/-- The blocks that are served before step 9 ends (R508). -/
def earlyBlock (b : Nat) : Bool := decide (b ≤ 3) || b == 0x0A || b == 0x0F

/-- Whether a block serves accesses now: all do from the end of step 9, only PES while the module is in reset. -/
def Dev.blockServed (d : Dev) (b : Nat) : Bool :=
  if d.clk.inReset then b == 3 else earlyBlock b || decide (10 ≤ d.clk.step) || (d.clk.done : Bool)

/-! ## Reads -/

/-- The fields that a read clears. -/
def rcMask (off : Nat) : Bool := match rowAt off with | some r => r.fields.any fun f => f.acc == .rc | none => false

/-- A read of the register at `off` by a master, with its side effects: the value, and the module after it (R528, R532). -/
def Dev.readReg (d : Dev) (m : Master) (off : Nat) : Nat × Dev :=
  if !(d.blockServed (off / 0x10000)) then (0, d)
  else if !(isRegister off) then (0, d.reservedAccess m off false false)
  else
    let d := if off / 0x10000 = 7 then d.pmcSync else d
    let v := d.peek off
    match d.wide off with
    | some w => (v, d.setRaw (off + 4) (w / 2 ^ 32))
    | none => if rcMask off then (v, d.setRaw (d.keyAt off) 0) else (v, d)

/-- What a read through a master answers. -/
def Dev.readBy (d : Dev) (m : Master) (off : Nat) : Dev :=
  let r := d.readReg m off
  match m with
  | .endpoint => r.2.emit (.barData (leBytes 4 r.1) false)
  | _ => r.2

/-! ## Clamps that tie fields together -/

/-- The part of a Waybill trigger word that names sources. -/
def trigClamp (g v : Nat) : Nat := (List.range 32).foldl (fun a i => if bit v i && isSource (32 * g + i) then setBit a i else a) 0

/-- A field of `w` bits at `lsb` that is 0 takes a value instead. -/
def zeroAs (v lsb w dflt : Nat) : Nat := if bits v lsb w = 0 then setBits v lsb w dflt else v

/-- The clamps of a register that go beyond the ranges of its own fields. -/
def Dev.clampWord (d : Dev) (off v : Nat) : Nat :=
  if off = Reg.mcrTherm then setBits v 8 8 (max (bits v 8 8) (bits v 0 8 + 1))
  else if off = Reg.rulSrcPrio then prioClamp v
  else if off = Reg.cmdUdpCfg then zeroAs v 16 16 0x4813
  else if off = Reg.raeCm then zeroAs (zeroAs v 0 16 0x4814) 16 16 4420
  else if off = Reg.tdmUdp then zeroAs v 0 16 0x4812
  else if off = Reg.tbmOvfCap then max v (d.fld Reg.tbmOvfGuar 0 10)
  else if off = Reg.tbmRedMax then max v (d.raw (bank Reg.tbmRedMin (d.fld Reg.tbmRedIdx 0 5)))
  else if off = Reg.tssPolPir then max v (d.raw Reg.tssPolCir)
  else if off = Reg.rlyBudget then setBits v 16 9 (max (bits v 16 9) (bits v 0 9))
  else if off = Reg.hqeKato then ceilDiv v 100 * 100
  else if off = Reg.mepWin then setBits v 8 8 (min (bits v 8 8) (if bit v 0 then 44 else 252))
  else if Reg.mepDmaRingLo ≤ off ∧ off < Reg.mepDmaRingLo + 128 ∧ off % 32 = 0 then v / 4096 * 4096
  else if Reg.wblSnap ≤ off ∧ off < Reg.wblSnap + 128 then setBits v 0 2 0
  else if Reg.wblTrig ≤ off ∧ off < Reg.wblTrig + 64 then trigClamp ((off - Reg.wblTrig) / 4) v
  else if Reg.msixTable ≤ off ∧ off < Reg.msixTable + 0x2000 then
    if off % 16 = 0 then v / 4 * 4 else if off % 16 = 12 then v % 2 else v
  else if off = Reg.drlPoolIdx ∨ off = Reg.drlCntIdx then setBits v 0 4 (min 14 (bits v 0 4))
  else v

/-- One field of a register as a write leaves it (R528). -/
def applyField (v a : Nat) (f : RegField) : Nat :=
  match f.acc with
  | .rw => setBits a f.lsb f.width (clampNat f.lo f.hi (bits v f.lsb f.width))
  | .wo => setBits a f.lsb f.width (bits v f.lsb f.width)
  | .w1c => setBits a f.lsb f.width (bits a f.lsb f.width - Nat.land (bits a f.lsb f.width) (bits v f.lsb f.width))
  | .w1s => a
  | .rc => a

/-- The register at `off` after a write of `v`, by its access types and clamps. -/
def Dev.applyWrite (d : Dev) (off v : Nat) : Dev :=
  match rowAt off with
  | some r => let k := d.keyAt off; d.setRaw k (d.clampWord off (r.fields.foldl (applyField v) (d.raw k)))
  | none => d

/-! ## What a write makes a unit do -/

/-- The smallest INK_CTL.SPACE_GIB that covers every page in use (R166). -/
def Dev.spaceFloor (d : Dev) : Nat :=
  let used := (d.rae.inks.flatMap Inkwell.pages) ++ (d.rae.releasing.flatMap Prod.snd) ++ d.rae.landing
  ceilDiv (used.foldl (fun a p => max a (p + 1)) 0) 16384

/-- INK_CTL. -/
def Dev.writeInkCtl (d : Dev) (v : Nat) : Dev := d.setRaw Reg.inkCtl (max (clampNat 1 32 (bits v 0 6)) d.spaceFloor)

/-- The mask of a window as it is kept: its reserved classes are clear (R50). -/
def maskClamp (v : Nat) : Nat := setBits (v % 65536) 6 2 0

/-- RUL_CTL: EN, FORCE_HOLD and RELOCK act in this order. -/
def Dev.writeRulCtl (d : Dev) (v : Nat) : Dev :=
  let en := d.flag Reg.rulCtl 0
  let hold := d.flag Reg.rulCtl 3
  let d := d.applyWrite Reg.rulCtl v
  let d := (d.rulEnable en (bit v 0)).forceHold hold (bit v 3)
  if bit v 1 && bit v 0 then d.relock else d

/-- RUL_TBL_CTL: COPY first, then the swap request (R52). -/
def Dev.writeTblCtl (d : Dev) (v : Nat) : Dev :=
  let d := if bit v 1 then d.copyTables else d
  if bit v 0 then d.requestSwap else d

/-- A word of the shadow bank. -/
def Dev.writeWindow (d : Dev) (off v : Nat) : Dev :=
  let i := (off - Reg.rulWinLines) / 8
  let e := sget bankDflt d.rul.shadow i
  let e := if off % 8 = 0 then { e with lines := BitVec.ofNat 32 (Nat.land v 0xBFFF3FFF) } else { e with mask := BitVec.ofNat 32 (maskClamp v) }
  d.onRul fun r => r.setShadow (sput bankDflt r.shadow i e)

/-- PES_CFG: INSERT_MS goes to its non-volatile cell, for the next insertion (R492). -/
def Dev.writePesCfg (d : Dev) (v : Nat) : Dev := (d.applyWrite Reg.pesCfg v).onPes fun p => { p with insertNext := clampNat 25 400 (bits v 0 9) }

/-- CVE_KEY_CMD: LOAD, then CLEAR. -/
def Dev.writeKeyCmd (d : Dev) (v : Nat) : Dev :=
  let d := if bit v 0 then d.keyCmdLoad else d
  if bit v 1 then d.keyCmdClear else d

/-- CVE_KEY_CFG: the staged role, and the successor. -/
def Dev.writeKeyCfg (d : Dev) (v : Nat) : Dev :=
  (d.setFld (bank Reg.cveKeyCfg (d.fld Reg.cveKeyIdx 0 6)) 0 1 (bits v 0 1)).keyCfgSucc (bits v 8 8)

/-- FOV_CTL: its switches, and RELEASE. -/
def Dev.writeFovCtl (d : Dev) (v : Nat) : Dev :=
  let d := d.applyWrite Reg.fovCtl v
  if bit v 2 then d.fenceReleased else d

/-- A doorbell (R483): PI moves, and each slot that it releases keeps the PASID of a bound pair. One that would move PI backwards or
more than 8 beyond CI, or that comes to a bound pair without a PASID, is ignored, counted and reported; EN = 0 ignores doorbells. -/
def Dev.ringDoorbell (d : Dev) (r pi : Nat) (pasid : Option Nat) : Dev :=
  let cfg := d.raw (Reg.mepRingCfg + 16 * r)
  let q := Reg.mepRingReq + 16 * r
  let ci := d.fld q 16 16
  let was := (d.fld q 0 16 + 65536 - ci) % 65536
  let n := (pi + 65536 - ci) % 65536
  if !(bit cfg 0) then d
  else if 8 < n ∨ n < was ∨ (bit cfg 1 ∧ pasid = none) then (d.countMep 2 1).raise 0x0D0
  else
    let mark := if bit cfg 1 then pasid.getD 0 + 1 else 0
    let d := d.setFld q 0 16 pi
    d.onMep fun m => { m with rings := m.rings.modify r fun g =>
      { g with pasids := (List.range' was (n - was)).foldl (fun t k => sput (fun _ => 0) t ((ci + k) % 8) mark) g.pasids } }

/-- MEP_DMAc_CTL: EN and SIZE, then RESUME. -/
def Dev.writeDmaCtl (d : Dev) (c v : Nat) : Dev :=
  let d := d.applyWrite (Reg.mepDmaCtl + 0x20 * c) v
  if bit v 1 then d.dmaResume c else d.dmaKick c

/-- HQE_BIND_DATA: words 0 to 55 go to the staging copy; word 56 makes the indexed entry take effect (R193). -/
def Dev.writeBind (d : Dev) (v : Nat) : Dev :=
  let i := d.fld Reg.hqeBindIdx 0 11
  let w := d.fld Reg.hqeBindIdx 16 6
  let stage := fit 224 (sget (fun _ => []) d.hqe.bindStage 0)
  if w < 56 then
    d.onHqe fun h => { h with bindStage := sput (fun _ => []) h.bindStage 0 (stage.take (4 * w) ++ leBytes 4 v ++ stage.drop (4 * w + 4)) }
  else
    d.onHqe fun h => { h with bindings := sput bindDflt h.bindings i ⟨stage.takeWhile (· != 0), v % 2 ^ 20, bit v 31⟩ }

/-- LVY_CFG: the switches of the indexed livery, through a META record (R556). -/
def Dev.writeLvyCfg (d : Dev) (v : Nat) : Dev :=
  let n := d.fld Reg.lvyIdx 0 8
  if (d.livery? n).isSome then d.change (.liverySwitches n (bit v 0) (bit v 1)) none else d

/-- LVY_MAP_LAST: the indexed entry, with the staged FIRST, through a META record (R214). -/
def Dev.writeLvyMap (d : Dev) (v : Nat) : Dev :=
  d.change (.liveryMap (d.fld Reg.lvyMapIdx 0 10) (d.fld Reg.lvyMapFirst 0 20) (bits v 0 20) (bits v 20 8) (bit v 31)) none

/-- DPQn_Ps_CTL: its settings, then RETRAIN and FORMAT. -/
def Dev.writePort (d : Dev) (off v : Nat) : Dev :=
  let k := 4 * (off / 0x10000 - 0x2B) + off % 0x40 / 16
  let d := d.applyWrite off v
  let d := if bit v 2 then d.retrain k else d
  if bit v 3 then d.formatDrive k else d

/-- DRL_POOL_HDRM: the headroom asked for, within the range of R418; pools without one ignore it (R424). -/
def Dev.writeHeadroom (d : Dev) (v : Nat) : Dev :=
  let p := min 14 (d.fld Reg.drlPoolIdx 0 4)
  match poolHdrmRange p with
  | some r => { d with drl := { d.drl with hdrm := sput poolHdrmDflt d.drl.hdrm p (clampNat r.1 r.2 v) } }
  | none => d

/-- DRL_POOL_IDX: the index, and the snapshot. -/
def Dev.writePoolIdx (d : Dev) (v : Nat) : Dev := (d.applyWrite Reg.drlPoolIdx v).poolSnap (min 14 (bits v 0 4))

/-- What a write of `v` at `off` does in the blocks of the control fabric; none where the access types and clamps say it all. -/
def Dev.writeControl (d : Dev) (off v : Nat) : Option Dev :=
  if off = Reg.clkRstCtl then some (if bit v 0 then d.commandReset else d)
  else if off = Reg.pesCtl then some (if bit v 0 then d.partnerCycle else d)
  else if off = Reg.pesCfg then some (d.writePesCfg v)
  else if off = Reg.rulCtl then some (d.writeRulCtl v)
  else if off = Reg.rulTblCtl then some (d.writeTblCtl v)
  else if Reg.rulWinLines ≤ off ∧ off < Reg.rulWinLines + 512 then some (d.writeWindow off v)
  else if off = Reg.pmcCtl then some (d.writePmcCtl v)
  else if off = Reg.pmcSel then some (d.pmcSelect (d.fld Reg.pmcIdx 0 8) v)
  else if off = Reg.pmcValHi then some (d.writePmcValHi v)
  else if off = Reg.lmonIdx then some (d.copyMonitor v)
  else if off = Reg.lmonSel then some (d.lmonSelect (d.fld Reg.lmonIdx 0 6) v)
  else if off = Reg.lmonCtl then some (d.writeLmonCtl v)
  else if off = Reg.wblCtl then some (let d := d.applyWrite off v; if bit v 2 then d.trigger 0x203 else d)
  else if off = Reg.memInj then some (d.injArm v)
  else if off = Reg.cveCtl then some (let d := d.applyWrite off v; if bit v 1 then d.entRestartNow else d)
  else if off = Reg.cveKeyCfg then some (d.writeKeyCfg v)
  else if off = Reg.cveKeyCmd then some (d.writeKeyCmd v)
  else if Reg.cveKeyData ≤ off ∧ off < Reg.cveKeyData + 32 then some (d.stageKey ((off - Reg.cveKeyData) / 4) v)
  else if off = Reg.fovCtl then some (d.writeFovCtl v)
  else if off = Reg.fovWdog then some (if bit v 0 then d.kickWdog else d)
  else if Reg.mepRingReq ≤ off ∧ off < Reg.mepRingReq + 128 ∧ off % 16 = 4 then some (d.ringDoorbell ((off - Reg.mepRingReq) / 16) (v % 65536) none)
  else if Reg.mepRingRsp ≤ off ∧ off < Reg.mepRingRsp + 128 ∧ off % 16 = 8 then some (d.freeReplies ((off - Reg.mepRingRsp) / 16) (bits v 16 16))
  else if Reg.mepDmaCtl ≤ off ∧ off < Reg.mepDmaCtl + 128 ∧ off % 32 = 8 then some (d.writeDmaCtl ((off - Reg.mepDmaCtl) / 32) v)
  else if Reg.mepDmaPi ≤ off ∧ off < Reg.mepDmaPi + 128 ∧ off % 32 = 12 then
    let c := (off - Reg.mepDmaPi) / 32
    some ((d.applyWrite off v).dmaKick c)
  else none

/-- The same for the blocks of the media path. -/
def Dev.writeMedia (d : Dev) (off v : Nat) : Option Dev :=
  if 0x100000 ≤ off ∧ off < 0x1C0000 then
    if off % 0x10000 = 0 then some (let d := d.applyWrite off v; if bit v 4 then d.applyPort (off / 0x10000 - 0x10) else d) else none
  else if off = Reg.tpkTblCmd then some (let d := d.applyWrite off v; if bit v 19 then d.tpkTable else d)
  else if off = Reg.tssShpCmd then some (if bit v 0 then d.commitShaper else d)
  else if off = Reg.tssPolCtl then some (let d := d.applyWrite off v; if bit v 2 then d.commitPolicer else d)
  else if off = Reg.tdmTblCmd then some (let d := d.applyWrite off v; if bit v 18 then d.tdmTable else d)
  else if off = Reg.tdmCtl ∨ off = Reg.tdmTiming ∨ off = Reg.tdmBudget then some (d.applyWrite off v).judgeHops
  else if off = Reg.inkCtl then some (d.writeInkCtl v)
  else if off = Reg.hqeBindData then some (d.writeBind v)
  else if off = Reg.rltIdx then some (d.applyWrite off v).snapLock
  else if off = Reg.lvyCfg then some (d.writeLvyCfg v)
  else if off = Reg.lvyMapLast then some (d.writeLvyMap v)
  else if off = Reg.layLocCmd then some (d.applyWrite off v).locate
  else if off = Reg.nibDidx then some (d.applyWrite off v).snapDesc
  else if off = Reg.bltCtl then some (d.applyWrite off v).mirrorOff
  else if 0x2B0000 ≤ off ∧ off < 0x370000 then (if off % 16 = 0 then some (d.writePort off v) else none)
  else if off = Reg.sltCmd then some (d.slotCommand v)
  else if off = Reg.drlPoolHdrm then some (d.writeHeadroom v)
  else if off = Reg.drlPoolIdx then some (d.writePoolIdx v)
  else none

/-- A write of `v` to the register at `off` by a master (R528, R530). -/
def Dev.writeReg (d : Dev) (m : Master) (off v : Nat) : Dev :=
  if !(d.blockServed (off / 0x10000)) then d
  else if !(isRegister off) then d.reservedAccess m off true false
  else
    match (if off < 0x100000 then d.writeControl off v else d.writeMedia off v) with
    | some d => d
    | none => d.applyWrite off v

/-- A write with byte enables: through BAR0, one that does not cover the register is ignored (R531). -/
def Dev.writeEnabled (d : Dev) (m : Master) (off v enables : Nat) : Dev :=
  if enables % 16 ≠ 15 && isRegister off then (if d.blockServed (off / 0x10000) then d.reservedAccess m off true true else d)
  else d.writeReg m off v

/-! ## SMBus (R488) -/

/-- The status of an access at the sideband's offset: 1 outside the window, 3 for a block that is not served, else 0. -/
def Dev.smbCheck (d : Dev) : Nat :=
  let o := d.mep.smbOffset
  if o % 4 ≠ 0 ∨ 2 ^ 24 ≤ o then 1 else if d.blockServed (o / 0x10000) then 0 else 3

/-- The sideband's status; its offset moves on only after status 0. -/
def Dev.smbEnds (d : Dev) (st : Nat) : Dev :=
  (d.onMep fun m => { m with smbStatus := st, smbOffset := if st = 0 then m.smbOffset + 4 else m.smbOffset }).countMep 7 1

/-- READ: status and value. -/
def Dev.smbRead (d : Dev) : Dev :=
  let st := d.smbCheck
  let r := if st = 0 then d.readReg .smbus d.mep.smbOffset else (0, d)
  (r.2.emit (.smbus (leBytes 1 st ++ leBytes 4 r.1))).smbEnds st

/-- WRITE: nothing is written when its PEC fails. -/
def Dev.smbWrite (d : Dev) (v : Nat) (pecOk : Bool) : Dev :=
  let st := if pecOk then d.smbCheck else 2
  (if st = 0 then d.writeReg .smbus d.mep.smbOffset v else d).smbEnds st

end Sys2Proof.Machine
end

