-- ==== Sys2Proof/Machine/RaeRows.lean ====
section
/-! DEFINITION. What arrives for the remote access engine (R152 to R185): connection management, congestion notifications, the
acknowledgements and timers of requester queues, and the packets that carry no command. -/

namespace Sys2Proof.Machine

/-- Whether the ports carry host traffic: start-up is done and the module is not in reset (R506, R507). -/
def Dev.portsOpen (d : Dev) : Bool := d.clk.done && !d.clk.inReset

/-! ## Connection management (R155, R156, R188) -/

/-- A REJ leaves on QP 1, with the detail that its private data carries. -/
def Dev.rejectCm (d : Dev) (reason detail : Nat) : Dev := ((d.emit (.cm 1 (.rej reason detail))).countRae 20 1).raise 0x12B

/-- A REQ is accepted: its QP is CONNECTING as the passive side, and REP leaves; no free context is reason 3. -/
def Dev.acceptCm (d : Dev) (m : CmReq) (livery : Option Nat) (nvme : Bool) : Dev :=
  match d.openQp livery nvme true m.pinned m.pid m.peerQp m.startPsn m.cmTimeoutUs m.ackExponent with
  | none => d.rejectCm 3 (if nvme then 6 else 0)
  | some n =>
    let psn := Config.free n.2.free % 2 ^ 24
    ((n.2.takeFree.2).onQp n.1 fun q => { q with sendPsn := psn }).emit (.cm n.1 (.rep psn))

/-- A REQ for the native port (R155, R219). -/
def Dev.nativeReq (d : Dev) (m : CmReq) : Dev :=
  match d.mapPid m.pid with
  | none => d.rejectCm 28 0x0100
  | some l =>
    if l ≠ m.livery then d.rejectCm 28 (0x0200 + l)
    else if (d.livery? l).all fun x => x.state != .service then d.rejectCm 28 0
    else d.acceptCm m (some l) false

/-- A REQ for the NVMe port (R188): the queue sizes of its private data. -/
def Dev.nvmeReq (d : Dev) (m : CmReq) : Dev :=
  if (if m.nvmeQid = 0 then 32 else 1024) < m.hsqsize then d.rejectCm 28 4
  else if m.hrqsize < m.hsqsize then d.rejectCm 28 5
  else d.acceptCm m none true

/-- CM_REQ. -/
def Dev.cmReq (d : Dev) (m : CmReq) : Dev :=
  if !d.portsOpen then d
  else if m.port = d.fld Reg.raeCm 16 16 then d.nvmeReq m
  else if m.port = d.fld Reg.raeCm 0 16 then d.nativeReq m
  else d.rejectCm 8 0

/-- The RQ_CREATE that waits for a connection fails (R179). -/
def Dev.createFailed (d : Dev) (q : Qp) : Dev :=
  match q.createCmd.bind d.cmd? with
  | some c => d.fail c 0x800B 0x0103
  | none => d

/-- CM_REP to the active side: RTU leaves, the QP is READY, and RQ_CREATE replies. -/
def Dev.cmRep (d : Dev) (qp peerQp startPsn : Nat) : Dev :=
  match (d.qp? qp).filter fun q => q.state == .connecting && !q.passive with
  | none => d
  | some q =>
    let d := (d.onQp qp fun q => { q with state := .ready, peerQp := peerQp, expected := startPsn, cmAt := none, createCmd := none }).emit (.cm qp .rtu)
    match q.createCmd.bind d.cmd? with
    | some c => d.doneClamped c (leBytes 4 qp ++ leBytes 4 0) (natsToClamps c.aux)
    | none => d

/-- CM_RTU to the passive side. -/
def Dev.cmRtu (d : Dev) (qp : Nat) : Dev :=
  match (d.qp? qp).filter fun q => q.passive with
  | none => d
  | some q => d.firstPacket q

/-- A connection that does not come about closes its QP. -/
def Dev.connectFails (d : Dev) (qp : Nat) : Dev :=
  match (d.qp? qp).filter fun q => q.state == .connecting with
  | none => d
  | some q => (d.createFailed q).closeQp qp

/-- CM_DREQ: DREP leaves and the QP closes. -/
def Dev.cmDreq (d : Dev) (qp : Nat) : Dev :=
  match (d.qp? qp).filter fun q => q.state == .ready || q.state == .error with
  | none => d
  | some _ => (d.emit (.cm qp .drep)).closeQp qp

/-- CM_REQ (R155). -/
def execCmReq (m : CmReq) (s : State) : Host.Outcome State Fault Refusal := s.act m.wf fun d => d.cmReq m

/-- CM_REP (R156). -/
def execCmRep (qp peerQp startPsn : Nat) (s : State) : Host.Outcome State Fault Refusal :=
  s.act (decide (qp < 0x1000000) && decide (peerQp < 0x1000000) && decide (startPsn < 0x1000000)) fun d => d.cmRep qp peerQp startPsn

/-- CM_RTU (R156). -/
def execCmRtu (qp : Nat) (s : State) : Host.Outcome State Fault Refusal := s.act (wfQp qp) fun d => d.cmRtu qp

/-- CM_REJ (R156). -/
def execCmRej (qp reason : Nat) (s : State) : Host.Outcome State Fault Refusal :=
  s.act (wfQp qp) fun d => if reason < 65536 then d.connectFails qp else d

/-- CM_DREQ (R156). -/
def execCmDreq (qp : Nat) (s : State) : Host.Outcome State Fault Refusal := s.act (wfQp qp) fun d => d.cmDreq qp

/-- CM_DREP (R156): the answer to a DREQ that the module sent. -/
def execCmDrep (qp : Nat) (s : State) : Host.Outcome State Fault Refusal :=
  s.act (wfQp qp) fun d => if ((d.qp? qp).filter fun q => q.closeAfter).isSome then d.closeQp qp else d

/-- CM_MRA (R155): the peer asks for `timeoutUs` more before its answer. -/
def execCmMra (qp timeoutUs : Nat) (s : State) : Host.Outcome State Fault Refusal :=
  s.act (wfQp qp) fun d =>
    if ((d.qp? qp).filter fun q => q.state == .connecting && !q.passive).isSome then
      let t := d.inUs timeoutUs
      d.onQp qp fun q => { q with cmAt := some t }
    else d

/-- CM_TIMEOUT (R156). -/
def execCmTimeout (qp : Nat) (s : State) : Host.Outcome State Fault Refusal :=
  s.act (wfQp qp) fun d =>
    match ((d.qp? qp).filter fun q => q.state == .connecting).bind Qp.cmAt with
    | some t => (d.upTo t).connectFails qp
    | none => d

/-- QP_LINGER_EXPIRY (R156). -/
def execQpLingerExpiry (qp : Nat) (s : State) : Host.Outcome State Fault Refusal :=
  s.act (wfQp qp) fun d =>
    match ((d.qp? qp).filter fun q => q.state == .error).bind Qp.lingerAt with
    | some t => (d.upTo t).closeQp qp
    | none => d

/-! ## Congestion (R161) -/

/-- CNP_RECEIVED: the rate halves, to no less than 1 Gb/s, at most once per CNP_GAP. -/
def Dev.cnpIn (d : Dev) (qp : Nat) : Dev :=
  let d := d.countRae 15 1
  match d.qp? qp with
  | none => d
  | some q =>
    if q.rq.isNone then d
    else
      let d := d.raise 0x12A
      if !(d.flag Reg.raeCtl 2) then d
      else
        let gap := quantaUs (clampNat 1 1000 (d.fld Reg.raeCc 0 16))
        let halve := decide (q.rateStep = 0 ∨ q.rateStep + gap ≤ d.q + 1)
        let d := d.onQp qp fun q => { q with rateAt := some d.q, rateStep := if halve then d.q + 1 else q.rateStep }
        if halve then d.onRq qp fun r => { r with rateMbps := max 1000 (r.rateMbps / 2) } else d

/-- CC_RATE_INCREASE: 55 µs without a CNP. -/
def Dev.rateUp (d : Dev) (qp : Nat) : Dev :=
  match (d.qp? qp).bind Qp.rateAt with
  | none => d
  | some t =>
    if !(d.flag Reg.raeCtl 2) then d
    else
      let d := d.upTo (t + quantaUs 55)
      let top := d.linkMbps qp
      let d := d.onRq qp fun r => { r with rateMbps := min top (r.rateMbps + max 1 (d.fld Reg.raeCc 16 16)) }
      let full := match d.rq? qp with | some r => decide (top ≤ r.rateMbps) | none => true
      d.onQp qp fun q => { q with rateAt := if full then none else some d.q }

/-- CNP_RECEIVED (R161). -/
def execCnpReceived (qp : Nat) (s : State) : Host.Outcome State Fault Refusal := s.act (wfQp qp) fun d => if d.portsOpen then d.cnpIn qp else d

/-- CC_RATE_INCREASE (R161). -/
def execCcRateIncrease (qp : Nat) (s : State) : Host.Outcome State Fault Refusal := s.act (wfQp qp) fun d => d.rateUp qp

/-! ## Requester queues (R175 to R179) -/

/-- Whether a queue has requests in flight. -/
def Dev.rqFlying (d : Dev) (qp : Nat) : Bool := match d.rq? qp with | some r => r.reqs.any WorkReq.started | none => false

/-- The quantum at which the oldest request in flight that `p` accepts was sent. -/
def Dev.oldestSent (d : Dev) (qp : Nat) (p : WorkReq → Bool) : Option Nat :=
  match d.rq? qp with
  | some r => (r.reqs.filter fun w => w.started && p w).foldl (fun a w => match a with | some (t : Nat) => some (min t w.sentAt) | none => some w.sentAt) none
  | none => none

/-- An RNR wait is over: go-back-N, while RNR_RETRY allows it; 7 is no limit. -/
def Dev.rnrRetry (d : Dev) (qp : Nat) : Dev :=
  match d.rq? qp with
  | none => d
  | some r =>
    let limit := d.fld Reg.raeRetry 8 3
    if limit ≠ 7 ∧ limit ≤ r.rnrRetries then d.retryExceeded qp
    else (d.onRq qp fun r => { r with rnrRetries := r.rnrRetries + 1 }).retransmit qp

/-- Whether a request is a flush. -/
def WorkReq.isFlush (w : WorkReq) : Bool := match w.op with | .flush _ => true | _ => false

/-- RQ_ACK_RECEIVED: the peer acknowledges the last packets of `count` requests (R176). -/
def execRqAckReceived (qp count : Nat) (s : State) : Host.Outcome State Fault Refusal :=
  s.act (decide (qp < 0x1000000)) fun d => d.rqAcked qp (min count 4096)

/-- RQ_NAK_RECEIVED: a fatal NAK ends the queue with detail 0x0002 and puts the QP in ERROR; a sequence NAK makes it go back. -/
def execRqNakReceived (qp : Nat) (fatal : Bool) (s : State) : Host.Outcome State Fault Refusal :=
  s.act (wfQp qp) fun d => if !(d.rqFlying qp) then d else if fatal then d.qpError qp 2 else d.retryOnce qp

/-- RQ_ACK_TIMEOUT: the oldest request in flight has not been acknowledged in time. -/
def execRqAckTimeout (qp : Nat) (s : State) : Host.Outcome State Fault Refusal :=
  s.act (wfQp qp) fun d =>
    match d.oldestSent qp fun _ => true, d.qp? qp with
    | some t, some q => (d.upTo (t + q.ackTimeout)).retryOnce qp
    | _, _ => d

/-- RNR_RETRY_TIMER: the wait that a received RNR NAK asked for is over. -/
def execRnrRetryTimer (qp : Nat) (s : State) : Host.Outcome State Fault Refusal :=
  s.act (wfQp qp) fun d => if d.rqFlying qp then d.rnrRetry qp else d

/-- WORK_REQUEST_WAIT_RELEASE: the requests whose wait is over start. -/
def execWorkRequestWaitRelease (qp : Nat) (s : State) : Host.Outcome State Fault Refusal := s.act (wfQp qp) fun d => d.startWork qp

/-- FLUSH_TIMEOUT (R178): the queue ends with detail 0x0003. -/
def execFlushTimeout (qp : Nat) (s : State) : Host.Outcome State Fault Refusal :=
  s.act (wfQp qp) fun d =>
    match d.oldestSent qp WorkReq.isFlush with
    | some t => ((d.upTo (t + quantaMs (max 1 (d.fld Reg.raePfWait 0 16)))).raise 0x129).endRq qp 3
    | none => d

/-- REVOKE_CUT (R170). -/
def execRevokeCut (index : Nat) (s : State) : Host.Outcome State Fault Refusal :=
  s.act (decide (index < 0x1000000)) fun d =>
    match (d.inkOf index).bind Inkwell.revoking with
    | some t => (d.upTo t.2).cutMessages index
    | none => d

/-! ## Packets that carry no command -/

/-- The response to a duplicate Read, from the Inkwell, without a key check (R160). -/
def Dev.readAgain (d : Dev) (q : Qp) (psn key va length : Nat) : Dev :=
  match d.inkOf (key / 256) with
  | some k => if va + length ≤ k.size then (d.emit (.roce q.num (.readResponse psn (d.inkRead k va length)))).countRae 1 1 else d
  | none => if length = 0 then (d.emit (.roce q.num (.readResponse psn []))).countRae 1 1 else d

/-- A duplicate is acknowledged again. -/
def Dev.ackAgain (d : Dev) (q : Qp) (psn : Nat) : Dev := d.roceAck q.num psn

/-- An RDMA Write packet by its PSN. -/
def Dev.writeBySeq (d : Dev) (q : Qp) (psn key va length : Nat) (first last : Bool) (data : List Byte) (imm : Option Word) : Dev :=
  d.bySequence q psn 1 (fun d q => d.writePacket q psn key va length first last data imm) fun d q => d.ackAgain q psn

/-- An RDMA Read request by its PSN. -/
def Dev.readBySeq (d : Dev) (q : Qp) (psn key va length : Nat) : Dev :=
  d.bySequence q psn (d.readPackets length) (fun d q => d.readPacket q psn key va length) fun d q => d.readAgain q psn key va length

/-- An unsupported operation on an open QP (R154). -/
def Dev.unsupportedOn (d : Dev) (q : Qp) (psn : Nat) (kind : UnsupportedKind) : Dev :=
  match kind with
  | .memoryWindow => d.bySequence q psn 1 (fun d q => (d.nakAccess q.num psn).raise 0x124) fun d q => d.ackAgain q psn
  | .otherTransport => d.roceDrop
  | .closedQp => d
  | _ => d.bySequence q psn 1 (fun d q => d.nakInvalid q.num psn) fun d q => d.ackAgain q psn

/-- A packet that reaches no QP's sequence: discarded without response (R154). -/
def Dev.roceStray (d : Dev) (h : RoceHdr) : Dev :=
  if !(d.flag Reg.raeCtl 0) then d.countRae 13 1
  else if !h.icrcOk then d.countRae 2 1
  else (d.countRae 0 1).roceDrop

/-- A duplicate whose operation is told apart (R160). -/
def Dev.duplicateIn (d : Dev) (q : Qp) (psn : Nat) (isRead : Bool) (key va length : Nat) : Dev :=
  if 2 ^ 23 ≤ psnAhead q.expected psn then
    let d := d.countRae 8 1
    if isRead then d.readAgain q psn key va length else d.ackAgain q psn
  else d

/-- A packet beyond the expected PSN (R160). -/
def Dev.gapIn (d : Dev) (q : Qp) (psn : Nat) : Dev :=
  if psnAhead q.expected psn = 0 ∨ 2 ^ 23 ≤ psnAhead q.expected psn then d else d.bySequence q psn 1 (fun d _ => d) fun d _ => d

/-- A Placement Flush message on a native QP (R177): a request is answered, a reply completes its flush. Writes received before it are
placed already. -/
def Dev.placementMessage (d : Dev) (qp kind number : Nat) : Dev :=
  if kind = 1 then (d.emit (.placementReply qp number)).countRae 1 1
  else if kind = 2 then d.flushReplied qp number
  else d

/-- A header for a message whose row gives none: the next PSN of its QP, its ICRC right, not marked. -/
def Dev.nextHdr (d : Dev) (qp : Nat) : RoceHdr :=
  match d.qp? qp with
  | some q => ⟨qp, (q.expected + q.parked.length) % 2 ^ 24, false, true⟩
  | none => ⟨qp, 0, false, true⟩

end Sys2Proof.Machine
end

