-- ==== Sys2Proof/Machine/Commands.lean ====
section
/-! DEFINITION. The command processor (R57 to R100): what arrives as bytes, the checks of R73 in their order, authentication, sessions,
order and due times, register access by packet, and the work of each opcode. -/

namespace Sys2Proof.Machine

/-! ## Packets as bytes (R58, R64) -/

/-- The opcode and the fields of a request that arrived as bytes. -/
def packetOf (src : Endpoint) (delivered : Nat) (l : List Byte) : Nat × Packet :=
  let plen := fieldAt l 14 2
  (fieldAt l 2 2,
   { src := src, delivered := delivered, version := l.getD 0 0, flags := l.getD 1 0, tag := fieldAt l 4 4, pid := fieldAt l 8 3,
     livery := fieldAt l 11 1, generation := fieldAt l 12 2, plen := plen, due := fieldAt l 16 8, reserved := fieldAt l 24 4,
     crc := BitVec.ofNat 32 (fieldAt l 28 4), params := (l.drop 32).take (8 * plen) })

/-- Check 1 of R73: the transport delivered the header and the whole parameter area, of at most 8,192 bytes. -/
def packetFits (p : Packet) : Bool := decide (32 ≤ p.delivered) && decide (32 + 8 * p.plen ≤ p.delivered) && decide (32 + 8 * p.plen ≤ 8192)

/-! ## Registers by packet (R98 to R100) -/

/-- The first entry of a list whose offset is no multiple of 4 or lies outside BAR0, as the offset of its field (R99). -/
def badOffset (p : List Byte) (each n : Nat) : Option Nat :=
  ((List.range n).map fun i => 8 + each * i).find? fun o => decide (fieldAt p o 4 % 4 ≠ 0) || decide (0x1000000 ≤ fieldAt p o 4)

/-- One access of a list: the module after it, and the bytes of its reply entry. -/
def Dev.regAccess (d : Dev) (op : Nat) (p : List Byte) (o : Nat) : Dev × List Byte :=
  let off := fieldAt p o 4
  match op with
  | 0x0B00 => let r := d.readReg .commandProcessor off; (r.2, leBytes 4 r.1)
  | 0x0B01 =>
    let r := (d.writeReg .commandProcessor off (fieldAt p (o + 4) 4)).readReg .commandProcessor off
    (r.2, leBytes 4 r.1)
  | _ =>
    let a := d.readReg .commandProcessor off
    let mask := fieldAt p (o + 4) 4
    let v := a.1 - Nat.land a.1 mask + Nat.land (fieldAt p (o + 8) 4) mask
    let r := (a.2.writeReg .commandProcessor off v).readReg .commandProcessor off
    (r.2, leBytes 4 a.1 ++ leBytes 4 r.1)

/-- The accesses of a list, in its order. -/
def Dev.regAccesses (d : Dev) (op : Nat) (p : List Byte) (each n : Nat) : Dev × List Byte :=
  (List.range n).foldl (fun (a : Dev × List Byte) i => let r := a.1.regAccess op p (8 + each * i); (r.1, a.2 ++ r.2)) (d, [])

/-- REG_READ, REG_WRITE and REG_RMW: entries of `each` bytes, at most `most`. An access that resets the module leaves no reply. -/
def Dev.runReg (d : Dev) (c : Cmd) (each most : Nat) : Dev :=
  let n := clampParam c.pkt.params 0 0 16 1 most
  match badOffset c.pkt.params each n.1 with
  | some o => d.rangeFault c o
  | none =>
    let r := d.regAccesses c.op c.pkt.params each n.1
    if (r.1.cmd? c.id).isSome then r.1.doneClamped c r.2 n.2 else r.1

/-! ## Sessions (R57 to R63, R80, R81) -/

/-- The idle timeout that SESSION_OPEN asks for, with its report: on UDP only. -/
def Dev.idleAsked (d : Dev) (c : Cmd) : Nat × List ClampEntry :=
  if c.pkt.src.transport ≠ .udp then (0, [])
  else if c.par 4 4 = 0 then (d.fld Reg.cmdSessIdle 0 20, [])
  else clampParam c.pkt.params 4 0 32 100 600000

/-- SESSION_OPEN (R60, R61, R81). -/
def Dev.runSessionOpen (d : Dev) (c : Cmd) : Dev :=
  let v := min (c.par 1 1) 0x12
  if v < max (c.par 0 1) 0x10 then d.fail c 0x8002 0x1210
  else
    let old := d.sessionAt c.pkt.src
    if old.isNone ∧ 4096 ≤ d.cp.sessions.length then ((d.setFld Reg.cmdErr 0 1 1).raise 0x01B).fail c 0x800B 0x0001
    else
      let d := match old with | some s => d.closeSession s.id | none => d
      match freeKey Session.id d.cp.sessions 4096 0 with
      | none => d.fail c 0x800B 0x0001
      | some n =>
        let idle := d.idleAsked c
        let s : Session :=
          { id := n, src := c.pkt.src, version := BitVec.ofNat 8 v, idleMs := idle.1,
            idleAt := if idle.1 = 0 then none else some (d.q + quantaMs idle.1), subs := 0, drops := 0, sent := 0, queue := [], cache := [] }
        let d := { d with cp := { d.cp with sessions := d.cp.sessions ++ [s], peak := max d.cp.peak (d.cp.sessions.length + 1) } }
        d.doneClamped { c with session := some n } (leBytes 1 v ++ leBytes 1 0x12 ++ leBytes 2 n ++ leBytes 4 idle.1) idle.2

/-- SESSION_CLOSE: its reply is sent in the session that it closes (R59). -/
def Dev.runSessionClose (d : Dev) (c : Cmd) : Dev :=
  let d := d.done c []
  match c.session with
  | some n => d.closeSession n
  | none => d

/-- VERSION_QUERY (R80): one entry for each interface. -/
def Dev.runVersionQuery (d : Dev) (c : Cmd) : Dev :=
  d.done c ((List.range 10).flatMap fun n => leBytes 1 n ++ (d.versionEntry n).flatMap (leBytes 1) ++ leBytes 4 0)

/-! ## The work of an opcode (R77) -/

/-- Groups 0x00 to 0x03. -/
def Dev.runLow (d : Dev) (c : Cmd) : Dev :=
  match c.op with
  | 0x0000 => d.done c []
  | 0x0001 => d.runSessionOpen c
  | 0x0002 => d.runSessionClose c
  | 0x0003 => d.runVersionQuery c
  | 0x0004 => d.runStepContinue c
  | 0x0005 => d.runStepRelease c
  | 0x0006 => d.runStepCancel c
  | 0x0007 => d.runLongopQuery c
  | 0x0100 => d.runNsCreate c
  | 0x0101 => d.runDelete c false
  | 0x0102 => d.runObjQuery c false
  | 0x0103 => d.runNsFormat c
  | 0x0104 => d.runTakeOpen c
  | 0x0105 => d.runTakeClose c
  | 0x0106 => d.runTakeExport c
  | 0x0107 => d.runDelete c true
  | 0x0108 => d.runObjQuery c true
  | 0x0200 => d.runCommit c
  | 0x0201 => d.runFlush c
  | 0x0202 => d.runReadTo c
  | 0x0203 => d.runFrameIndexQuery c
  | 0x0300 => d.runInkRegister c
  | 0x0301 => d.runInkRevoke c
  | 0x0302 => d.runInkQuery c
  | 0x0303 => d.runRqCreate c
  | 0x0304 => d.runRqDestroy c
  | 0x0305 => d.runRqFlush c
  | _ => d

/-- MEMBER_FAIL; it ends the escalation of its member's port in failure (R370). -/
def Dev.failMember (d : Dev) (c : Cmd) : Dev :=
  let d := d.runMemberFail c
  let slot := d.memberSlot (c.par 0 1)
  if d.rly.triggers.contains (c.par 0 1) && d.escalating slot then d.escFails slot else d

/-- Groups 0x04 to 0x07. -/
def Dev.runMid (d : Dev) (c : Cmd) : Dev :=
  match c.op with
  | 0x0400 => d.runArrayCreate c
  | 0x0401 => d.runArrayQuery c
  | 0x0402 => d.runMemberQuery c
  | 0x0403 => d.acceptLong c 0 [] []
  | 0x0404 => d.failMember c
  | 0x0405 => d.runMemberReplace c
  | 0x0406 => d.runLostQuery c
  | 0x0500 => d.runOtrConfigure c
  | 0x0501 => d.runOtrPass c
  | 0x0502 => d.runOtrSuspectQuery c
  | 0x0503 => d.runRlyConfigure c
  | 0x0504 => d.runRlyQuery c
  | 0x0505 => d.runRlyPass c
  | 0x0506 => d.runRlyCopyback c
  | 0x0600 => d.runLvyCreate c
  | 0x0601 => d.runLvyDelete c
  | 0x0602 => d.runLvyConfigure c
  | 0x0603 => d.runLvyMapPid c
  | 0x0604 => d.runLvyReset c
  | 0x0605 => d.runLvyFreeze c
  | 0x0606 => d.runLvySave c
  | 0x0607 => d.runLvyRestore c
  | 0x0608 => d.runLvyThaw c
  | 0x0609 => d.runLvyQuery c
  | 0x0700 => d.runRulQuery c
  | 0x0701 => d.runRulConfigure c
  | 0x0702 => d.runRulTableLoad c
  | 0x0703 => d.runRulPulse c
  | 0x0704 => d.runRulConvert c
  | _ => d

/-- Groups 0x08 to 0x0C. -/
def Dev.runHigh (d : Dev) (c : Cmd) : Dev :=
  match c.op with
  | 0x0800 => d.runKeyLoad c
  | 0x0801 => d.runKeyClear c
  | 0x0802 => d.runKeySuccessor c
  | 0x0803 => d.runKeyQuery c
  | 0x0900 => d.runFovConfigure c
  | 0x0901 => d.runFovQuery c
  | 0x0902 => d.runFovHandover c
  | 0x0A00 => d.runEvtSubscribe c
  | 0x0A01 => d.runEvtUnsubscribe c
  | 0x0A02 => d.runEvtMask c
  | 0x0A03 => d.runPmcConfigure c
  | 0x0A04 => d.runPmcSnapshot c
  | 0x0A05 => d.runPmcQuery c
  | 0x0A06 => d.runLmonConfigure c
  | 0x0A07 => d.runLmonQuery c
  | 0x0A08 => d.runWblQuery c
  | 0x0A09 => d.runWblClear c
  | 0x0B00 => d.runReg c 4 2000
  | 0x0B01 => d.runReg c 8 1000
  | 0x0B02 => d.runReg c 16 500
  | 0x0C00 => d.runFwQuery c
  | 0x0C01 => d.runFwUpdate c
  | 0x0C02 => d.runFwActivate c
  | 0x0C03 => d.runModReset c
  | 0x0C04 => d.runPowerState c
  | _ => d

/-- Whether an opcode's command needs a drive, and so wakes the shelf (R206). -/
def needsDrive (op : Nat) : Bool := op / 256 ∈ [1, 2, 4, 5]

/-- A command starts: a sleeping shelf wakes for one that needs a drive, and the opcode's work begins. -/
def Dev.startCmd (d : Dev) (c : Cmd) : Dev :=
  let c := { c with phase := .running }
  let d := d.onCmd c.id fun _ => c
  let d := if needsDrive c.op then d.wakeShelf else d
  if c.op < 0x0400 then d.runLow c else if c.op < 0x0800 then d.runMid c else d.runHigh c

/-! ## The checks (R73) -/

/-- The identifier of a request (R212). -/
def packetIdent (p : Packet) : Nat := match p.src.pasid with | some n => n % 2 ^ 20 | none => p.pid % 2 ^ 20

/-- Check 7 (R212, R213, R219): the livery, or the detail of NO_LIVERY. -/
def Dev.liveryOf (d : Dev) (p : Packet) : Except Nat Nat :=
  match d.mapPid (packetIdent p) with
  | none => .error 0x0100
  | some n =>
    let q := if p.src.transport = .rdma then (d.qp? p.src.key).bind Qp.livery else none
    if (d.livery? n).all fun l => l.state == .deleting then .error 0x0100
    else if n ≠ p.livery ∨ (q.any fun l => l != n) then .error (0x0200 + n)
    else .ok n

/-- Check 6 (R73): what a module that is not the active one serves. -/
def servedOnStandby (op : Nat) : Bool := op / 256 ∈ [0x00, 0x07, 0x09, 0x0A, 0x0B, 0x0C] || isQuery op

/-- The trailer of a request (R72): its last 24 parameter bytes. -/
def trailerOf (p : Packet) : List Byte := (fit (8 * p.plen) p.params).drop (8 * p.plen - 24)

/-- Check 10 (R72, R390): the slot that authenticates a request of a livery, or the failure and whether it counts in AUTH_FAIL. -/
def Dev.authCheck (d : Dev) (op : Nat) (p : Packet) (need : Nat) (n : Nat) : Except (Nat × Nat × Bool) Nat :=
  let k := fieldAt (trailerOf p) 0 1
  let s := d.keySlot k
  let mask := match d.livery? n with | some l => l.keyMask | none => 0
  if d.cve.ent = 2 then .error (0x800F, 0x0C01, false)
  else if p.plen < need + 3 ∨ 64 ≤ k ∨ s.state = 0 ∨ s.role ≠ 1 ∨ !(bit mask k) ∨ !(d.flag Reg.cveCtl 0) then .error (0x800E, k, true)
  else if s.state = 2 ∧ (d.signSlot k).isNone then .error (0x8007, k, false)
  else if s.tag (packetCounter false p.tag) ((packetBytes op p).take (8 + 8 * p.plen)) = (trailerOf p).drop 8 then .ok k
  else .error (0x800E, k, true)

/-- The failures of checks 3 to 6, which do not depend on the livery (R73). -/
def Dev.earlyFault (d : Dev) (op : Nat) (p : Packet) (s : Option Session) : Option (Nat × Nat) :=
  let top := match s with | some x => x.version.toNat % 16 | none => 0
  if p.version.toNat / 16 ≠ 1 ∨ top < p.version.toNat % 16 then some (0x8002, 0x1210)
  else match opInfo op with
    | none => some (0x8001, if op = 0x0A80 then 3 else 1)
    | some i =>
      let need := plenRequired op i (fit (8 * p.plen) p.params)
      if p.plen < need then some (0x8003, need)
      else if !d.isActive && !(servedOnStandby op) then some (0x800A, 0)
      else none

/-- The failures of checks 8 and 9 (R73, R219): the status, its detail, and the livery counter that it counts in. -/
def Dev.stateFault (d : Dev) (op generation n : Nat) : Option (Nat × Nat × Nat) :=
  if op / 256 ≠ 0 ∧ generation ≠ d.generation n then some (0x8005, 0, 3)
  else if op / 256 = 0 ∨ op / 256 = 6 ∨ isQuery op then none
  else match (d.livery? n).map Livery.state with
    | some .freezing => some (0x8006, 2, 4)
    | some .restoring => some (0x8006, 2, 4)
    | some .frozen => some (0x8006, 1, 4)
    | some .saving => some (0x8006, 1, 4)
    | _ => none

/-- A request that maps to no livery is counted (R73 step 7): LVY_UNMAPPED, with PID_UNMAPPED when it leaves zero. -/
def Dev.noteUnmapped (d : Dev) (detail : Nat) : Dev :=
  if detail ≠ 0x0100 then d
  else
    let first := d.raw Reg.lvyUnmapped = 0
    let d := d.countReg Reg.lvyUnmapped 1
    if first then d.raise 0x158 else d

/-- Commands that are held for their due time. -/
def Dev.heldCmds (d : Dev) : Nat := (d.cp.cmds.filter fun c => match c.phase with | .held _ => true | _ => false).length

/-- Check 12 (R73): the status and detail of a missing slot, with the bit and the event of its limit. -/
def Dev.limitFault (d : Dev) (c : Cmd) (hold : Bool) : Option (Nat × Nat × Nat) :=
  if hold then (if 1024 ≤ d.heldCmds then some (3, 2, 0x01D) else none)
  else if ((opInfo c.op).any OpInfo.long) && (freeKey LongOp.slot d.cp.longOps 256 0).isNone then some (2, 1, 0x01C)
  else none

/-- Checks 11 and 12, and the start: a due time is converted; it is the deadline of an opcode marked D, and the start time of any other,
which is held until then when it lies ahead (R49, R83, R84). -/
def Dev.dueOrRun (d : Dev) (c : Cmd) : Dev :=
  if !(hasDue c.pkt) then
    match d.limitFault c false with
    | some f => ((d.setFld Reg.cmdErr f.2.1 1 1).raise f.2.2).fail c 0x800B f.1
    | none => d.startCmd c
  else
    let r := d.convertDue c.pkt.due
    let d := r.2.2
    let deadline := (opInfo c.op).any OpInfo.deadline
    let hold := !deadline && decide (d.q < d.quantumOfRts r.1)
    let c := { c with detail := r.2.1, due := if deadline then some r.1 else none }
    match d.limitFault c hold with
    | some f => ((d.setFld Reg.cmdErr f.2.1 1 1).raise f.2.2).fail c 0x800B f.1
    | none => if hold then d.onCmd c.id fun _ => { c with phase := .held r.1 } else d.startCmd c

/-- Checks 10 to 12, for a request whose livery `n` serves it. -/
def Dev.authThen (d : Dev) (c : Cmd) (n : Nat) : Dev :=
  if !(d.authRequired n) then d.dueOrRun c
  else
    let need := match opInfo c.op with | some i => plenRequired c.op i (fit (8 * c.pkt.plen) c.pkt.params) | none => 0
    match d.authCheck c.op c.pkt need n with
    | .error f => (if f.2.2 then d.countCve 6 1 else d).fail c f.1 f.2.1
    | .ok k => d.dueOrRun { c with auth := some k, pkt := { c.pkt with params := (fit (8 * c.pkt.plen) c.pkt.params).take (8 * c.pkt.plen - 24) } }

/-- The command processor takes a request and makes checks 3 to 12 in their order (R73). A reply to a failure of check 7 carries
generation 0. -/
def Dev.checkCmd (d : Dev) (c : Cmd) : Dev :=
  let l := d.liveryOf c.pkt
  let n := match l with | .ok n => n | .error _ => noLivery
  let c := { c with livery := n, generation := d.generation n, pkt := { c.pkt with params := fit (8 * c.pkt.plen) c.pkt.params } }
  let d := d.onCmd c.id fun _ => c
  match d.earlyFault c.op c.pkt (c.session.bind d.session?), l with
  | some f, _ => d.fail c f.1 f.2
  | none, .error e => (d.noteUnmapped e).fail c 0x8004 e
  | none, .ok n =>
    let d := d.countLivery n 0 1
    match d.stateFault c.op c.pkt.generation n with
    | some f => (d.countLivery n f.2.2 1).fail c f.1 f.2.1
    | none => d.authThen c n

/-! ## Arrival and order (R63, R69, R82) -/

/-- Whether two commands are of one session (R82): the same open one, or the same endpoint without one. -/
def sameSession (a b : Option Nat) (x y : Endpoint) : Bool := a == b && (a.isSome || x == y)

/-- Whether a command waits for its turn (R82): an ORD command for every earlier one of its session, any other for an earlier ORD
command. A long operation that was sent with STEP clear is unfinished until its LONGOP_DONE. -/
def Dev.mustWait (d : Dev) (c : Cmd) : Bool :=
  (d.cp.cmds.any fun x => decide (x.id < c.id) && sameSession x.session c.session x.pkt.src c.pkt.src && (hasOrd c.pkt || hasOrd x.pkt))
    || d.cp.longOps.any fun l => !(hasStep l.pkt) && sameSession l.session c.session l.pkt.src c.pkt.src && (hasOrd c.pkt || hasOrd l.pkt)

/-- A command whose turn it is goes to the command processor; with every instance stopped, none is served (R18). -/
def Dev.turnOf (d : Dev) (c : Cmd) : Dev := if d.mustWait c || !(d.served c.op) then d else d.checkCmd c

/-- A request that passed checks 1 and 2 takes a receive buffer. -/
def Dev.enter (d : Dev) (op : Nat) (p : Packet) (s : Option Session) : Dev :=
  let c : Cmd :=
    { id := d.cp.nextId, op := op, pkt := p, session := s.map Session.id, livery := noLivery, generation := 0, arrived := d.q, detail := 0,
      due := none, phase := .waiting, aux := [], auth := none }
  (({ d with cp := { d.cp with cmds := d.cp.cmds ++ [c], nextId := d.cp.nextId + 1 } } : Dev).noteControl).turnOf c

/-- A packet arrived for a UDP session: its idle time starts again (R59). -/
def Dev.touchSession (d : Dev) (s : Option Session) : Dev :=
  match s with
  | some x => d.onSession x.id fun y => { y with idleAt := if y.idleMs = 0 then none else some (d.q + quantaMs y.idleMs) }
  | none => d

/-- A discarded packet is counted; the first is reported (R73 steps 1 and 2). -/
def Dev.discardPacket (d : Dev) : Dev :=
  let first := d.raw Reg.cmdRxDiscard = 0
  let d := d.countReg Reg.cmdRxDiscard 1
  if first then d.raise 0x01E else d

/-- The bit of CMD_CTL that lets a transport in. -/
def transportBit (t : Transport) : Nat := match t with | .rdma => 0 | .udp => 1 | .mailbox => 2 | .tandem => 3

/-- Whether the command processor takes packets of a transport: the firmware runs from the end of step 9, the ports and links carry
packets once start-up is done, and CMD_CTL accepts the transport. -/
def Dev.takesFrom (d : Dev) (t : Transport) : Bool :=
  !d.clk.inReset && (d.clk.done || (t == .mailbox && decide (10 ≤ d.clk.step))) && d.flag Reg.cmdCtl (transportBit t)

/-- The duplicate that a UDP request is (R63): its cached reply, or a command still in progress. -/
def Dev.duplicateOf (d : Dev) (s : Session) (p : Packet) : Option (Option Reply) :=
  if s.src.transport ≠ .udp ∨ !(d.flag Reg.cmdCtl 4) then none
  else match s.cache.find? fun x => x.tag == p.tag && x.crc == p.crc with
    | some x => some (some x.reply)
    | none => if d.cp.cmds.any fun c => c.session == some s.id && c.pkt.tag == p.tag && c.pkt.crc == p.crc then some none else none

/-- A request arrives (R57, R63, R73 steps 1 and 2). -/
def Dev.receive (d : Dev) (op : Nat) (p : Packet) : Dev :=
  if !(d.takesFrom p.src.transport) then d
  else if !(packetFits p) || p.crc.toNat != packetCrc op p then d.discardPacket
  else
    let s := d.sessionAt p.src
    let d := d.touchSession s
    match s.bind fun x => d.duplicateOf x p with
    | some (some r) => (d.countReg Reg.cmdDupCnt 1).send r
    | some none => d.countReg Reg.cmdDupCnt 1
    | none => d.enter op p s

/-- A request that arrives as bytes. -/
def Dev.receiveBytes (d : Dev) (src : Endpoint) (l : List Byte) : Dev :=
  let x := packetOf src l.length l
  d.receive x.1 x.2

/-! ## Mailbox rings (R482, R483) -/

/-- The command processor takes the next request slot of ring `r`: CI moves on once the packet is copied. -/
def Dev.takeSlot (d : Dev) (r : Nat) : Dev :=
  let ci := d.fld (Reg.mepRingReq + 16 * r) 16 16
  let g := d.mep.rings.getD r Ring.empty
  let mark := sget (fun _ => 0) g.pasids (ci % 8)
  let d := (d.setFld (Reg.mepRingReq + 16 * r) 16 16 (ci + 1)).countMep 0 1
  let x := packetOf ⟨.mailbox, r, if mark = 0 then none else some (mark - 1)⟩ 8192 (sget (fun _ => []) g.reqSlots (ci % 8))
  d.receive x.1 x.2

/-- The slots of ring `r` that doorbells have released, in index order. -/
def Dev.serveRing (d : Dev) (r : Nat) : Nat → Dev
  | 0 => d
  | fuel + 1 =>
    if d.takesFrom .mailbox && d.fld (Reg.mepRingReq + 16 * r) 0 16 != d.fld (Reg.mepRingReq + 16 * r) 16 16 then (d.takeSlot r).serveRing r fuel
    else d

/-- Every ring's released slots. -/
def Dev.serveRings (d : Dev) : Dev := d.forEach (List.range 8) fun d r => d.serveRing r 8

/-- The bytes that a host wrote into the request slots from PI on. -/
def Dev.fillSlots (d : Dev) (r : Nat) (slots : List (List Byte)) : Dev :=
  let pi := d.fld (Reg.mepRingReq + 16 * r) 0 16
  d.onMep fun m => { m with rings := m.rings.modify r fun g =>
    { g with reqSlots := (slots.zip (List.range 8)).foldl (fun t x => sput (fun _ => []) t ((pi + x.2) % 8) (x.1.take 8192)) g.reqSlots } }

/-- The meaning of a command after which mailbox slots may have been released and other work may go on. -/
def State.serve (ok : Bool) (f : Dev → Dev) (s : State) : Host.Outcome State Fault Refusal := s.run ok fun d => (f d).serveRings.settle

/-- One Ruling quantum in which no command is in front (DESIGN CHOICE: assumption log, entry 2): released mailbox slots, what follows of itself, and the
performance counters go on. -/
def Dev.idle (d : Dev) : Dev := (({ d with q := d.q + 1 } : Dev).serveRings.settle).pmcSync

end Sys2Proof.Machine
end

