-- ==== Sys2Proof/Machine/CommandRows.lean ====
section
/-! DEFINITION. How packets, Sends and frames reach the command processor and the host queues (R57, R84, R107, R138, R153, R157, R183,
R483), and the rows of the table for them. -/

namespace Sys2Proof.Machine

/-! ## Held and waiting commands (R59, R82, R84) -/

/-- HELD_COMMAND_DISPATCH: generation and freeze are checked again, and the command starts; a failure of either check is replied. -/
def Dev.dispatchHeld (d : Dev) (c : Cmd) : Dev :=
  match d.stateFault c.op c.pkt.generation c.livery with
  | some f => (d.countLivery c.livery f.2.2 1).fail { c with generation := d.generation c.livery } f.1 f.2.1
  | none => d.startCmd c

/-- HELD_COMMAND_DISPATCH: the due quantum of a held command comes (R84). -/
def execHeldCommandDispatch (id : Nat) (s : State) : Host.Outcome State Fault Refusal :=
  s.serve true fun d =>
    match d.cmd? id with
    | some c => match c.phase with
      | .held rts => (d.upTo (d.quantumOfRts rts)).dispatchHeld c
      | _ => d
    | none => d

/-- ORD_COMMAND_START: every command that it waited for has finished (R82). -/
def execOrdCommandStart (id : Nat) (s : State) : Host.Outcome State Fault Refusal :=
  s.serve true fun d =>
    match (d.cmd? id).filter fun c => c.phase == .waiting with
    | some c => d.turnOf c
    | none => d

/-- UDP_SESSION_IDLE: no packet came within the idle time (R59). -/
def execUdpSessionIdle (session : Nat) (s : State) : Host.Outcome State Fault Refusal :=
  s.serve true fun d =>
    match (d.session? session).bind Session.idleAt with
    | some t => (d.upTo t).closeSession session
    | none => d

/-- MAILBOX_DOORBELL: `slots` are the request slots from PI on as the host wrote them (R483). -/
def execMailboxDoorbell (ring pi : Nat) (pasid : Option Nat) (slots : List (List Byte)) (s : State) : Host.Outcome State Fault Refusal :=
  s.serve (decide (ring < 8) && decide (pi < 65536) && decide (slots.length ≤ 8)) fun d =>
    if d.blockServed 0x0F then (d.fillSlots ring slots).ringDoorbell ring pi pasid else d

/-! ## Frames (R107, R138) -/

/-- Where a frame's command packet goes. -/
def commandSink : CommandSink := fun d src l => d.receiveBytes src l

/-- A Tandem frame in order (R138): decapsulated when it is for this module, else forwarded. -/
def Dev.tandemDeliver (d : Dev) (f : TandemFrame) : Dev :=
  if f.dest ≠ d.moduleId then d.tandemForward f
  else if f.type = 0 then
    match f.inner with
    | none => d
    | some g =>
      let v := ethReg Reg.ethVlan (f.link / 8)
      d.stage3 ⟨{ g with link := f.link }, if g.tagged && g.vlan != 0 then g.vlan else d.fld v 0 12, f.priority, b2n (g.tagged && g.dei), true⟩ commandSink
  else if f.type = 2 then d.receiveBytes ⟨.tandem, f.source * 65536 + f.flow, none⟩ f.payload
  else d

/-- A Tandem frame arrives: on a tandem-role link that is up, once the ports carry traffic. -/
def Dev.tandemArrives (d : Dev) (f : TandemFrame) : Dev :=
  if !(d.linkUp f.link) then d
  else if !(d.tandemRole f.link) || !d.clk.done then d.unknownDest f.link
  else d.tandemIn f fun d f => d.tandemDeliver f

/-- ETH_FRAME_RECEIVED (R107). -/
def execEthFrameReceived (f : EthFrame) (s : State) : Host.Outcome State Fault Refusal := s.serve f.wf fun d => d.ethIn f commandSink

/-- TANDEM_FRAME_RECEIVED (R138). -/
def execTandemFrameReceived (f : TandemFrame) (s : State) : Host.Outcome State Fault Refusal := s.serve f.wf fun d => d.tandemArrives f

/-- RESEQ_FLUSH (R143). -/
def execReseqFlush (source flow : Nat) (s : State) : Host.Outcome State Fault Refusal :=
  s.serve (wfCid source && wfFlow flow) fun d => d.reseqFlush source flow fun d f => d.tandemDeliver f

/-! ## Capsules as bytes (R191, R192; PRESUMED: assumption log, entry 28) -/

/-- The capsule of a 64-byte submission entry and its in-capsule data. -/
def capsuleOf (qp : Nat) (l : List Byte) : Capsule :=
  let w (k : Nat) : Word := BitVec.ofNat 32 (fieldAt l k 4)
  { qp := qp, cid := fieldAt l 2 2, fuse := fieldAt l 1 1 % 4, nsid := fieldAt l 4 4, cdw10 := w 40, cdw11 := w 44, cdw12 := w 48,
    cdw13 := w 52, cdw14 := w 56, cdw15 := w 60, sglAddr := fieldAt l 24 8, sglKey := fieldAt l 35 4, sglLen := fieldAt l 32 3,
    data := l.drop 64 }

/-- The Connect of a Fabrics entry and its data. -/
def connectOf (qp : Nat) (l : List Byte) : ConnectData :=
  { qp := qp, cid := fieldAt l 2 2, qid := fieldAt l 42 2, cntlid := fieldAt l 80 2, sqsize := fieldAt l 44 2, katoMs := fieldAt l 48 4,
    hostId := fieldAt l 64 16, subNqn := (fit 255 (l.drop 320)).takeWhile (· != 0), hostNqn := (fit 255 (l.drop 576)).takeWhile (· != 0) }

/-- A Fabrics capsule, by its type. -/
def Dev.fabricsIn (d : Dev) (qp : Nat) (l : List Byte) : Dev :=
  match fieldAt l 4 1 with
  | 0x01 => d.connect (connectOf qp l)
  | 0x00 => d.propertySet (capsuleOf qp l)
  | 0x04 => d.propertyGet (capsuleOf qp l)
  | _ => d.invalidIn (capsuleOf qp l)

/-- An admin capsule, by its opcode. -/
def Dev.adminCapsule (d : Dev) (c : Capsule) (op : Nat) : Dev :=
  match op with
  | 0x02 => d.getLogPage c
  | 0x06 => d.identify c
  | 0x08 => d.abort c
  | 0x09 => d.setFeatures c
  | 0x0A => d.getFeatures c
  | 0x0C => d.asyncRequest c
  | 0x0D => d.nsManagement c
  | 0x18 => d.keepAlive c
  | _ => d.invalidIn c

/-- A capsule on an NVMe-oF QP. -/
def Dev.capsuleBytes (d : Dev) (qp : Nat) (l : List Byte) : Dev :=
  let op := fieldAt l 0 1
  if l.length < 64 then d
  else if op = 0x7F then d.fabricsIn qp l
  else if (d.nvmeQueue? qp).all fun q => q.qid == 0 then d.adminCapsule (capsuleOf qp l) op
  else if op ∈ servedIo then d.ioIn (capsuleOf qp l) op
  else d.invalidIn (capsuleOf qp l)

/-! ## Sends (R153, R154, R157) -/

/-- A Send in order: acknowledged, and passed on. -/
def Dev.sendInOrder (d : Dev) (q : Qp) (psn : Nat) (l : List Byte) : Dev :=
  if (if q.nvme then 8256 else 8192) < l.length then d.nakInvalid q.num psn
  else
    let d := d.roceAck q.num psn
    if q.nvme then d.capsuleBytes q.num l
    else if l.length = 32 ∧ fieldAt l 0 1 = 0 then d.placementMessage q.num (fieldAt l 1 1) (fieldAt l 4 4)
    else d.receiveBytes ⟨.rdma, q.num, none⟩ l

/-- Whether the 1,024 receive buffers are all held (R425). -/
def Dev.buffersFull (d : Dev) : Bool := decide (1024 ≤ d.cp.cmds.length)

/-- A Send by its PSN; on a native QP it needs a receive buffer, and draws an RNR NAK without one. -/
def Dev.sendBySeq (d : Dev) (q : Qp) (psn : Nat) (l : List Byte) : Dev :=
  if !q.nvme && d.buffersFull && psnAhead q.expected psn == 0 then
    ((d.emit (.roce q.num (.rnrNak psn (d.fld Reg.raeRetry 11 5)))).countRae 7 1).countRae 1 1
  else d.bySequence q psn (d.readPackets l.length) (fun d q => d.sendInOrder q psn l) fun d q => d.ackAgain q psn

/-- A Placement Flush message that its own row brings. -/
def Dev.placementBySeq (d : Dev) (q : Qp) (psn kind number : Nat) : Dev :=
  if q.nvme then d
  else d.bySequence q psn 1 (fun d q => (d.roceAck q.num psn).placementMessage q.num kind number) fun d q => d.ackAgain q psn

/-- A packet meets its QP's sequence: at once, or when its context has come (R183). -/
def Dev.rocePacket (d : Dev) (q : Qp) (psn : Nat) (c : Instr) : Dev :=
  match c with
  | .roceSend _ l => d.sendBySeq q psn l
  | .rdmaWrite _ key va length first last data => d.writeBySeq q psn key va length first last data none
  | .rdmaWriteWithImmediate _ key va length first last data imm =>
    d.writeBySeq q psn key va length first last data (if last then some imm else none)
  | .rdmaRead _ key va length => d.readBySeq q psn key va length
  | .placementFlushRequest _ n => d.placementBySeq q psn 1 n
  | .placementFlushReply _ n => d.placementBySeq q psn 2 n
  | .unsupportedOp _ kind => d.unsupportedOn q psn kind
  | .duplicatePacket _ isRead key va length => d.duplicateIn q psn isRead key va length
  | .psnSequenceError _ => d.gapIn q psn
  | _ => d

/-- A RoCE packet arrives for a QP. -/
def Dev.roceArrives (d : Dev) (h : RoceHdr) (c : Instr) : Dev :=
  if d.portsOpen then d.roceIn h c fun d q => d.rocePacket q h.psn c else d

/-- A parked packet in its place by PSN, seen from the expected one. -/
def placeParked (expected : Nat) (p : Parked) : List Parked → List Parked
  | [] => [p]
  | x :: t => if psnAhead expected x.psn ≤ psnAhead expected p.psn then x :: placeParked expected p t else p :: x :: t

/-- CONTEXT_FETCH_DONE: the context is on chip, and the parked packets are processed in PSN order (R182, R183). Without room it stays out. -/
def Dev.contextArrives (d : Dev) (qp : Nat) : Dev :=
  match (d.qp? qp).filter fun q => q.fetching && !q.resident with
  | none => d
  | some q =>
    let r := d.makeRoom
    if !r.2 then d
    else
      let d := r.1.sample 12 0 ((r.1.q - q.usedAt) * 5 / 4)
      let t := d.q
      let d := d.onQp qp fun q => { q with resident := true, fetching := false, parked := [], usedAt := t }
      let order := q.parked.foldl (fun l p => placeParked q.expected p l) []
      d.forEach order fun d p =>
        match d.qp? qp with
        | some q => if q.state = .error then d.countRae 13 1 else d.rocePacket q p.psn p.cmd
        | none => d.roceDrop

/-! ## Rows of the table -/

/-- PLACEMENT_FLUSH_REQUEST (R177). -/
def execPlacementFlushRequest (qp number : Nat) (s : State) : Host.Outcome State Fault Refusal :=
  s.serve (wfQp qp) fun d => d.roceArrives (d.nextHdr qp) (.placementFlushRequest qp number)

/-- PLACEMENT_FLUSH_REPLY (R177). -/
def execPlacementFlushReply (qp number : Nat) (s : State) : Host.Outcome State Fault Refusal :=
  s.serve (wfQp qp) fun d => d.roceArrives (d.nextHdr qp) (.placementFlushReply qp number)

/-- ROCE_SEND (R153). -/
def execRoceSend (h : RoceHdr) (bytes : List Byte) (s : State) : Host.Outcome State Fault Refusal :=
  s.serve h.wf fun d => d.roceArrives h (.roceSend h bytes)

/-- RDMA_WRITE (R164). -/
def execRdmaWrite (h : RoceHdr) (key va length : Nat) (first last : Bool) (data : List Byte) (s : State) : Host.Outcome State Fault Refusal :=
  s.serve (h.wf && wfKey key && wfVa va && wfMsgLen length) fun d => d.roceArrives h (.rdmaWrite h key va length first last data)

/-- RDMA_WRITE_WITH_IMMEDIATE (R158). -/
def execRdmaWriteWithImmediate (h : RoceHdr) (key va length : Nat) (first last : Bool) (data : List Byte) (imm : Word) (s : State) :
    Host.Outcome State Fault Refusal :=
  s.serve (h.wf && wfKey key && wfVa va && wfMsgLen length) fun d => d.roceArrives h (.rdmaWriteWithImmediate h key va length first last data imm)

/-- RDMA_READ (R164). -/
def execRdmaRead (h : RoceHdr) (key va length : Nat) (s : State) : Host.Outcome State Fault Refusal :=
  s.serve (h.wf && wfKey key && wfVa va && wfMsgLen length) fun d => d.roceArrives h (.rdmaRead h key va length)

/-- UNSUPPORTED_OP (R154). -/
def execUnsupportedOp (h : RoceHdr) (kind : UnsupportedKind) (s : State) : Host.Outcome State Fault Refusal :=
  s.serve h.wf fun d =>
    match kind with
    | .otherTransport => if d.portsOpen then d.roceStray h else d
    | .closedQp => if d.portsOpen && (d.qp? h.qp).isNone then d.roceStray h else d
    | _ => d.roceArrives h (.unsupportedOp h kind)

/-- DUPLICATE_PACKET (R160). -/
def execDuplicatePacket (h : RoceHdr) (isRead : Bool) (key va length : Nat) (s : State) : Host.Outcome State Fault Refusal :=
  s.serve (h.wf && wfKey key && wfVa va && wfMsgLen length) fun d => d.roceArrives h (.duplicatePacket h isRead key va length)

/-- PSN_SEQUENCE_ERROR (R160). -/
def execPsnSequenceError (h : RoceHdr) (s : State) : Host.Outcome State Fault Refusal :=
  s.serve h.wf fun d => d.roceArrives h (.psnSequenceError h)

/-- CONTEXT_FETCH_DONE (R183). -/
def execContextFetchDone (qp : Nat) (s : State) : Host.Outcome State Fault Refusal := s.serve (wfQp qp) fun d => d.contextArrives qp

end Sys2Proof.Machine
end

