-- ==== Sys2Proof/Machine/DriveRows.lean ====
section
/-! DEFINITION. What drives, locks, lanes and the slot bus report (R196, R318, R335, R358 to R374, R387, R389): the rows of the table
for them. -/

namespace Sys2Proof.Machine

/-! ## Completions (R364) -/

/-- The bytes that a command moves. -/
def DriveCmd.bytes (c : DriveCmd) : Nat := 4160 * c.blocks

/-- A command that ended with success is counted and timed (DPC_CNT, monitors 4 and 5). -/
def Dev.countDone (d : Dev) (c : DriveCmd) : Dev :=
  let us := toUs (d.q - c.at_.getD d.q)
  match c.op with
  | .read => (d.countDrive c.slot 1 c.bytes).sample 5 c.slot us
  | .write => (d.countDrive c.slot 2 c.bytes).sample 4 c.slot us
  | _ => d

/-- A reservation is acquired (R366): the module is the holder, and held Writes proceed. -/
def Dev.resvAcquired (d : Dev) (slot : Nat) : Dev :=
  let mine (c : DriveCmd) : Bool := c.slot == slot && (match c.purpose with | .reserve _ => true | _ => false)
  if d.drv.cmds.any mine then
    { d with drv := { d.drv with cmds := d.drv.cmds.filter fun c => !(mine c) } }.onSlot slot fun s =>
      { s with holder := true, otherHolder := false, registered := true, respHold := false }
  else d

/-- Reservation Conflict (R364, R366): a Write is held with every further one; the module is no longer the holder and registers again. A
conflict of the acquisition itself names another holder, which the next one preempts. -/
def Dev.resvConflict (d : Dev) (c : DriveCmd) : Dev :=
  let d := (d.countDrive c.slot 10 1).raise 0x1C9
  let d := d.onSlot c.slot fun s => { s with otherHolder := true, holder := false }
  match c.purpose with
  | .reserve _ => (d.dropDrvCmd c.id).acquireMember c.slot
  | _ =>
    let d := (d.onDrvCmd c.id fun c => { c with at_ := none }).onSlot c.slot fun s => { s with respHold := true, registered := false }
    (d.submit c.slot (.admin 0x0D00) 0 0 6 .register).1

/-- What becomes of a Write that failed for good: it waits for its port, and a home copy of a live member counts in COPY_FAIL and goes to the
member's next free home block instead (spec/11_blotter.md, BLT_CNT). -/
def Dev.writeAgain (d : Dev) (c : DriveCmd) : Dev :=
  match c.purpose with
  | .home h m =>
    if d.liveMembers.contains m then ((d.dropDrvCmd c.id).countBlt 12 1).writeHome h m
    else d.onDrvCmd c.id fun c => { c with at_ := none, tries := 0 }
  | _ => d.onDrvCmd c.id fun c => { c with at_ := none, tries := 0 }

/-- A Write ended with an error (R364): with DNR = 0 it is submitted again after 1 ms up to three times, with another error once; after
that the port escalates. -/
def Dev.writeFailed (d : Dev) (c : DriveCmd) (retryable : Bool) : Dev :=
  if retryable && decide (c.tries % 16 < 3) then
    d.onDrvCmd c.id fun c => { c with at_ := none, tries := c.tries + 1, retryAt := some (d.q + quantaMs 1) }
  else if !retryable && decide (c.tries < 16) then d.onDrvCmd c.id fun c => { c with at_ := none, tries := c.tries + 16 }
  else (d.writeAgain c).escalate c.slot

/-- A command that is neither a Read nor a Write ended with an error: an initialisation command fails its check, any other is over. -/
def Dev.otherFailed (d : Dev) (c : DriveCmd) : Dev := (d.dropDrvCmd c.id).driveDone c []

/-- DRIVE_COMPLETION: a command that is at a drive ends. -/
def Dev.driveEnds (d : Dev) (c : DriveCmd) (status : DriveStatus) (l : List Block) : Dev :=
  match status with
  | .success =>
    match c.purpose with
    | .reserve _ => d.resvAcquired c.slot
    | _ => ((d.countDone c).dropDrvCmd c.id).driveDone c l
  | st =>
    if c.op = .read then ((d.countDrive c.slot 9 1).dropDrvCmd c.id).driveReadFails c false
    else if st = .reservationConflict then d.resvConflict c
    else if c.op.writes then d.writeFailed c (st == .writeRetryable)
    else d.otherFailed c

/-- DRIVE_COMPLETION (R364). -/
def execDriveCompletion (id : Nat) (status : DriveStatus) (blocks : List Block) (s : State) : Host.Outcome State Fault Refusal :=
  s.act true fun d =>
    match d.drvCmd? id with
    | some c => if c.at_.isSome then d.driveEnds c status blocks else d
    | none => d

/-- DRIVE_WRITE_RETRY: 1 ms has passed, and the Write is submitted again (R364). -/
def execDriveWriteRetry (id : Nat) (s : State) : Host.Outcome State Fault Refusal :=
  s.act true fun d =>
    match (d.drvCmd? id).bind DriveCmd.retryAt with
    | some t => (d.upTo t).onDrvCmd id fun c => { c with retryAt := none }
    | none => d

/-! ## Timeouts and escalation (R359, R367 to R370) -/

/-- The timeout of a command: ADMIN_MS for an admin command, CMD_MS for an I/O command. -/
def Dev.timeoutOf (d : Dev) (c : DriveCmd) : Nat :=
  quantaMs (match c.op with | .admin _ => d.fld Reg.dpcTimeout 16 16 | _ => d.fld Reg.dpcTimeout 0 16)

/-- A command times out: counted, raised, and escalation starts. -/
def Dev.timedOut (d : Dev) (slot : Nat) : Dev := ((d.countDrive slot 3 1).raise 0x1C5).escalate slot

/-- CMD_TIMEOUT (R367). -/
def execCmdTimeout (id : Nat) (s : State) : Host.Outcome State Fault Refusal :=
  s.act true fun d =>
    match d.drvCmd? id with
    | some c =>
      match c.at_ with
      | some t => (d.upTo (t + d.timeoutOf c)).timedOut c.slot
      | none => d
    | none => d

/-- CTRL_RESET_RESULT (R368): the controller of an escalating port is ready with its queues, or RESET_MS expires in step 1. -/
def execCtrlResetResult (slot : Nat) (ready : Bool) (s : State) : Host.Outcome State Fault Refusal :=
  s.act (wfDrive slot) fun d =>
    let x := d.slotAt slot
    if x.drive ≠ .escalating ∨ (x.escStep = 2 ∧ x.powerEn = false) then d
    else if ready then d.escDone slot
    else match x.escAt with
      | some t => let d := d.upTo t; if d.flag Reg.dpcCtl 1 then d.escCycle slot else d.escFails slot
      | none => d

/-- SLOT_POWER_OFF_EXPIRY: OFF_MS has passed, and the slot's power is turned on again (R368). -/
def execSlotPowerOffExpiry (slot : Nat) (s : State) : Host.Outcome State Fault Refusal :=
  s.act (wfDrive slot) fun d => match (d.slotAt slot).offUntil with | some t => (d.upTo t).powerOn slot | none => d

/-- BOOT_TIMEOUT: a drive is not initialised within BOOT_MS: step 2 of an escalation fails, and any other drive is treated as a
command timeout (R359, R368). -/
def execBootTimeout (slot : Nat) (s : State) : Host.Outcome State Fault Refusal :=
  s.act (wfDrive slot) fun d =>
    match (d.slotAt slot).bootAt with
    | some t =>
      let d := (d.upTo t).onSlot slot fun s => { s with bootAt := none }
      if d.escalating slot then d.escFails slot else d.timedOut slot
    | none => d

/-- RESERVATION_ACQUIRED (R366). -/
def execReservationAcquired (slot : Nat) (s : State) : Host.Outcome State Fault Refusal := s.act (wfDrive slot) fun d => d.resvAcquired slot

/-! ## Links (R359, R360, R362) -/

/-- DRIVE_LINK_TRAINED (R359). -/
def execDriveLinkTrained (slot speed width : Nat) (s : State) : Host.Outcome State Fault Refusal :=
  s.act (decide (slot < 48) && decide (speed < 8) && decide (width ≤ 4)) fun d => d.linkTrained slot (min speed 3) width

/-- AER_ERROR (R360). -/
def execAerError (slot : Nat) (kind : AerKind) (s : State) : Host.Outcome State Fault Refusal := s.act (wfDrive slot) fun d => d.aerError slot kind

/-- AER_CORRECTABLE (R360). -/
def execAerCorrectable (slot : Nat) (s : State) : Host.Outcome State Fault Refusal := s.act (wfDrive slot) fun d => d.aerCorrectable slot

/-- DRIVE_ASYNC_EVENT: a critical warning is raised and changes nothing else (R362). -/
def execDriveAsyncEvent (slot : Nat) (critical : Bool) (s : State) : Host.Outcome State Fault Refusal :=
  s.run (wfDrive slot) fun d => if critical then d.raise 0x1CA else d

/-! ## Slots (R372, R373) -/

/-- SLOT_POLL: every slot controller as the poll found it, while SLT_CTL.EN is set (R372). -/
def execSlotPoll (readings : List SlotReading) (s : State) : Host.Outcome State Fault Refusal :=
  s.act (decide (readings.length = 12) && readings.all SlotReading.wf) fun d =>
    if d.flag Reg.sltCtl 0 then
      d.forEach (List.range 12) fun d n => match readings[n]? with | some r => d.pollQuad n r | none => d
    else d

/-- INSERT_DELAY_EXPIRY: the active module turns a new drive's slot on (R373). -/
def execInsertDelayExpiry (slot : Nat) (s : State) : Host.Outcome State Fault Refusal :=
  s.act (wfDrive slot) fun d =>
    match (d.slotAt slot).insertAt with
    | some t => let d := d.upTo t; if d.isActive then d.powerOn slot else d
    | none => d

/-! ## Declarations (R335) -/

/-- The declaration at the head of the label runs takes effect: strips in flight go to their new locations (R272), and every other
command on the member's drive ends; an escalation on it ends (R370). -/
def Dev.declare (d : Dev) (j : Declaration) : Dev :=
  let slot := d.memberSlot j.member
  let d := (d.declareNow j).resubmitStrips slot
  let d := d.failAll slot
  if d.escalating slot then d.onSlot slot fun s => { s with drive := .failed, escStep := 0, escAt := none, bootAt := none, offUntil := none } else d

/-- DECLARATION_EFFECT: the last label copy 0 write of a declaration has ended (R335, step 3). -/
def execDeclarationEffect (s : State) : Host.Outcome State Fault Refusal :=
  s.act true fun d =>
    match d.rly.jobs with
    | j :: _ => if j.kind = .declare ∧ j.step = 3 ∧ j.writes = [] then d.declare j else d
    | [] => d

/-- MEMBER_FAIL_DECLARE: a trigger of R333 for a member. -/
def execMemberFailDeclare (member : Nat) (s : State) : Host.Outcome State Fault Refusal := s.act (decide (member < 64)) fun d => d.failTrigger member none

/-! ## Locks, windows and reads (R51, R197, R318) -/

/-- The unit that asked for a lock has it. -/
def Dev.lockGoes (d : Dev) (h : LockHolder) : Dev :=
  match h with
  | .nib _ => d
  | .outrider => d.otrGranted
  | .relay => d.relayGranted
  | .hqe qp cid => d.nvmeStep qp cid
  | .read id => d.readGranted id

/-- RANGE_LOCK_GRANT (R197). -/
def execRangeLockGrant (id : Nat) (s : State) : Host.Outcome State Fault Refusal :=
  s.act true fun d =>
    match d.lock? id with
    | some l => if d.grantable l then (d.grantLock l).lockGoes l.holder else d
    | none => d

/-- CLASS_WINDOW_OPEN: the class is open, or the clock comes to its next opening, and work that waited for it is submitted (R51). -/
def execClassWindowOpen (cls : Nat) (s : State) : Host.Outcome State Fault Refusal :=
  s.act (decide (cls < 16)) fun d => if d.classOpen cls then d else match d.nextOpen cls with | some t => d.upTo t | none => d

/-- READ_DELIVERY: ready bytes of a read leave in ascending order (R318). -/
def execReadDelivery (id : Nat) (s : State) : Host.Outcome State Fault Refusal :=
  s.act true fun d =>
    match d.read? id with
    | some r => match r.owner with | .packet _ => d.deliverRead r | .nvme _ _ => d.nvmeReadProgress id
    | none => d

/-! ## Lanes of the check-value engine (R386 to R389) -/

/-- A lane ends a tag request. -/
def Dev.laneTags (d : Dev) (r : CveReq) : Dev :=
  let d := d.cveTake r
  let x := d.tagBlock r.slot (match r.asker with | .nib l => some l | _ => none) r.strip r.row r.block
  match r.asker with
  | .nib _ => x.1.emit (.block r.drive x.2)
  | .outrider => x.1.otrTagged r.strip r.row x.2
  | .relay => x.1.relayTagged r.strip r.row x.2
  | .read _ => x.1

/-- A lane ends a verify request. -/
def Dev.laneVerifies (d : Dev) (r : CveReq) : Dev :=
  let d := d.cveTake r
  let x := d.verifyBlock r.strip r.row r.block
  match r.asker with
  | .read id => x.1.readVerified id r.strip r.row r.block x.2
  | .outrider => x.1.otrVerified r.slot r.strip r.row x.2
  | _ => x.1

/-- CVE_TAG_REQUEST: a lane takes the next request, a tag request. -/
def execCveTagRequest (s : State) : Host.Outcome State Fault Refusal :=
  s.act true fun d => match d.cveNext with | some r => if d.lanesRun && r.tag then d.laneTags r else d | none => d

/-- CVE_VERIFY_REQUEST: a lane takes the next request, a verify request. -/
def execCveVerifyRequest (s : State) : Host.Outcome State Fault Refusal :=
  s.act true fun d => match d.cveNext with | some r => if d.lanesRun && !r.tag then d.laneVerifies r else d | none => d

end Sys2Proof.Machine
end

