-- ==== Sys2Proof/Machine/LogRows.lean ====
section
/-! DEFINITION. The rows of the table for the Blotter and the map (R237, R294, R299 to R305). -/

namespace Sys2Proof.Machine

/-- BATCH_EXPIRY (R294). -/
def execBatchExpiry (s : State) : Host.Outcome State Fault Refusal := s.act true Dev.batchExpires

/-- MIRROR_RECORDS_RECEIVED (R299). -/
def execMirrorRecordsReceived (records : List BltRecord) (payload : List (Nat × List Byte)) (a ra : Nat) (s : State) : Host.Outcome State Fault Refusal :=
  s.act true fun d => d.mirrorReceived records payload a ra

/-- MIRROR_ACK_RECEIVED (R299). -/
def execMirrorAckReceived (rsn : Nat) (s : State) : Host.Outcome State Fault Refusal := s.act true fun d => d.mirrorAcks rsn

/-- MIRROR_ACK_TIMEOUT (R300). -/
def execMirrorAckTimeout (s : State) : Host.Outcome State Fault Refusal :=
  s.act true fun d => match d.blt.mirrorAt with | some t => if d.blt.mirror = .live then (d.upTo t).loseMirror else d | none => d

/-- PARTNER_DISCOVERED (R80, R300). -/
def execPartnerDiscovered (low high recordVersion mapVersion : Byte) (s : State) : Host.Outcome State Fault Refusal :=
  s.act true fun d => d.partnerFound low.toNat high.toNat recordVersion.toNat mapVersion.toNat

/-- PARTNER_CHECKPOINT_LOADED (R300). -/
def execPartnerCheckpointLoaded (s : State) : Host.Outcome State Fault Refusal := s.act true Dev.partnerLoads

/-- The quantum at which `need` quanta of open classes will have passed since quantum `q`, of which `got` have; `none` when the fuel, in
lines, does not reach it. -/
def Dev.openUntil (d : Dev) (classes : List Nat) (need : Nat) : Nat → Nat → Nat → Option Nat
  | 0, _, _ => none
  | fuel + 1, q, got =>
    let next := max (q + 1) (d.rul.quantumOf ((d.rul.posAt q / 16384 + 1) * 16384))
    let n := d.openQuanta classes q next
    if need ≤ got + n then some (q + (need - got)) else d.openUntil classes need fuel next (got + n)

/-- REMIRROR_LATE: re-mirroring has run past 64 ms of open RELAY time (R302). -/
def execRemirrorLate (s : State) : Host.Outcome State Fault Refusal :=
  s.act true fun d =>
    if d.blt.remirror.isEmpty || d.blt.remirrorLate then d
    else match d.openUntil [4] (quantaMs 64) 200000 d.blt.remirrorFrom 0 with
      | some t => ((d.upTo t).onBlt fun b => { b with remirrorLate := true }).raise 0x185
      | none => d

/-- Whether the takeover that runs has to replay the log and load the map from the drives. -/
def Dev.resumesFull (d : Dev) : Bool := d.fov.role == .takeover && d.fov.tstep == 5 && d.fov.resumeFull

/-- BLOTTER_REPLAY: phase 1 of replay, in step 13 of start-up on the active module, or in a takeover after a return (R304, R512). -/
def execBlotterReplay (blocks : List HomeBlock) (s : State) : Host.Outcome State Fault Refusal :=
  s.act true fun d =>
    if d.blt.replay = 0 ∧ ((d.clk.step = 13 ∧ !d.clk.done ∧ !d.clk.failed ∧ d.isActive) ∨ d.resumesFull) then d.replayScan blocks else d

/-- MAP_LOAD: labels and checkpoint segments are loaded in step 14 of start-up, or in a takeover after a return (R237, R249). -/
def execMapLoad (labels : List (Nat × List Label)) (entries : List (Nat × Nat × Nat)) (s : State) : Host.Outcome State Fault Refusal :=
  s.act true fun d =>
    if (d.clk.step = 14 ∧ !d.clk.done ∧ !d.clk.failed ∧ d.blt.replay ≤ 1) ∨ (d.resumesFull ∧ d.blt.replay = 1) then
      let d := d.mapLoads labels entries
      if d.isActive then d.acquireAll else d
    else d

end Sys2Proof.Machine
end

