-- ==== Sys2Proof/Machine/PacketRows.lean ====
section
/-! DEFINITION. The command packets of the Sundef Command Protocol (R77): each row is the arrival of a request with its opcode. -/

namespace Sys2Proof.Machine

/-- NOP, opcode 0x0000 (R73, R77). -/
def execNop (p : Packet) (s : State) : Host.Outcome State Fault Refusal := s.serve p.wf fun d => d.receive 0x0000 p

/-- SESSION_OPEN, opcode 0x0001 (R73, R77). -/
def execSessionOpen (p : Packet) (s : State) : Host.Outcome State Fault Refusal := s.serve p.wf fun d => d.receive 0x0001 p

/-- SESSION_CLOSE, opcode 0x0002 (R73, R77). -/
def execSessionClose (p : Packet) (s : State) : Host.Outcome State Fault Refusal := s.serve p.wf fun d => d.receive 0x0002 p

/-- VERSION_QUERY, opcode 0x0003 (R73, R77). -/
def execVersionQuery (p : Packet) (s : State) : Host.Outcome State Fault Refusal := s.serve p.wf fun d => d.receive 0x0003 p

/-- STEP_CONTINUE, opcode 0x0004 (R73, R77). -/
def execStepContinue (p : Packet) (s : State) : Host.Outcome State Fault Refusal := s.serve p.wf fun d => d.receive 0x0004 p

/-- STEP_RELEASE, opcode 0x0005 (R73, R77). -/
def execStepRelease (p : Packet) (s : State) : Host.Outcome State Fault Refusal := s.serve p.wf fun d => d.receive 0x0005 p

/-- STEP_CANCEL, opcode 0x0006 (R73, R77). -/
def execStepCancel (p : Packet) (s : State) : Host.Outcome State Fault Refusal := s.serve p.wf fun d => d.receive 0x0006 p

/-- LONGOP_QUERY, opcode 0x0007 (R73, R77). -/
def execLongopQuery (p : Packet) (s : State) : Host.Outcome State Fault Refusal := s.serve p.wf fun d => d.receive 0x0007 p

/-- NS_CREATE, opcode 0x0100 (R73, R77). -/
def execNsCreate (p : Packet) (s : State) : Host.Outcome State Fault Refusal := s.serve p.wf fun d => d.receive 0x0100 p

/-- NS_DELETE, opcode 0x0101 (R73, R77). -/
def execNsDelete (p : Packet) (s : State) : Host.Outcome State Fault Refusal := s.serve p.wf fun d => d.receive 0x0101 p

/-- NS_QUERY, opcode 0x0102 (R73, R77). -/
def execNsQuery (p : Packet) (s : State) : Host.Outcome State Fault Refusal := s.serve p.wf fun d => d.receive 0x0102 p

/-- NS_FORMAT, opcode 0x0103 (R73, R77). -/
def execNsFormat (p : Packet) (s : State) : Host.Outcome State Fault Refusal := s.serve p.wf fun d => d.receive 0x0103 p

/-- TAKE_OPEN, opcode 0x0104 (R73, R77). -/
def execTakeOpen (p : Packet) (s : State) : Host.Outcome State Fault Refusal := s.serve p.wf fun d => d.receive 0x0104 p

/-- TAKE_CLOSE, opcode 0x0105 (R73, R77). -/
def execTakeClose (p : Packet) (s : State) : Host.Outcome State Fault Refusal := s.serve p.wf fun d => d.receive 0x0105 p

/-- TAKE_EXPORT, opcode 0x0106 (R73, R77). -/
def execTakeExport (p : Packet) (s : State) : Host.Outcome State Fault Refusal := s.serve p.wf fun d => d.receive 0x0106 p

/-- TAKE_DELETE, opcode 0x0107 (R73, R77). -/
def execTakeDelete (p : Packet) (s : State) : Host.Outcome State Fault Refusal := s.serve p.wf fun d => d.receive 0x0107 p

/-- TAKE_QUERY, opcode 0x0108 (R73, R77). -/
def execTakeQuery (p : Packet) (s : State) : Host.Outcome State Fault Refusal := s.serve p.wf fun d => d.receive 0x0108 p

/-- COMMIT, opcode 0x0200 (R73, R77). -/
def execCommit (p : Packet) (s : State) : Host.Outcome State Fault Refusal := s.serve p.wf fun d => d.receive 0x0200 p

/-- FLUSH, opcode 0x0201 (R73, R77). -/
def execFlush (p : Packet) (s : State) : Host.Outcome State Fault Refusal := s.serve p.wf fun d => d.receive 0x0201 p

/-- READ_TO, opcode 0x0202 (R73, R77). -/
def execReadTo (p : Packet) (s : State) : Host.Outcome State Fault Refusal := s.serve p.wf fun d => d.receive 0x0202 p

/-- FRAME_INDEX_QUERY, opcode 0x0203 (R73, R77). -/
def execFrameIndexQuery (p : Packet) (s : State) : Host.Outcome State Fault Refusal := s.serve p.wf fun d => d.receive 0x0203 p

/-- INK_REGISTER, opcode 0x0300 (R73, R77). -/
def execInkRegister (p : Packet) (s : State) : Host.Outcome State Fault Refusal := s.serve p.wf fun d => d.receive 0x0300 p

/-- INK_REVOKE, opcode 0x0301 (R73, R77). -/
def execInkRevoke (p : Packet) (s : State) : Host.Outcome State Fault Refusal := s.serve p.wf fun d => d.receive 0x0301 p

/-- INK_QUERY, opcode 0x0302 (R73, R77). -/
def execInkQuery (p : Packet) (s : State) : Host.Outcome State Fault Refusal := s.serve p.wf fun d => d.receive 0x0302 p

/-- RQ_CREATE, opcode 0x0303 (R73, R77). -/
def execRqCreate (p : Packet) (s : State) : Host.Outcome State Fault Refusal := s.serve p.wf fun d => d.receive 0x0303 p

/-- RQ_DESTROY, opcode 0x0304 (R73, R77). -/
def execRqDestroy (p : Packet) (s : State) : Host.Outcome State Fault Refusal := s.serve p.wf fun d => d.receive 0x0304 p

/-- RQ_FLUSH, opcode 0x0305 (R73, R77). -/
def execRqFlush (p : Packet) (s : State) : Host.Outcome State Fault Refusal := s.serve p.wf fun d => d.receive 0x0305 p

/-- ARRAY_CREATE, opcode 0x0400 (R73, R77). -/
def execArrayCreate (p : Packet) (s : State) : Host.Outcome State Fault Refusal := s.serve p.wf fun d => d.receive 0x0400 p

/-- ARRAY_QUERY, opcode 0x0401 (R73, R77). -/
def execArrayQuery (p : Packet) (s : State) : Host.Outcome State Fault Refusal := s.serve p.wf fun d => d.receive 0x0401 p

/-- MEMBER_QUERY, opcode 0x0402 (R73, R77). -/
def execMemberQuery (p : Packet) (s : State) : Host.Outcome State Fault Refusal := s.serve p.wf fun d => d.receive 0x0402 p

/-- MAP_CHECKPOINT, opcode 0x0403 (R73, R77). -/
def execMapCheckpoint (p : Packet) (s : State) : Host.Outcome State Fault Refusal := s.serve p.wf fun d => d.receive 0x0403 p

/-- MEMBER_FAIL, opcode 0x0404 (R73, R77). -/
def execMemberFail (p : Packet) (s : State) : Host.Outcome State Fault Refusal := s.serve p.wf fun d => d.receive 0x0404 p

/-- MEMBER_REPLACE, opcode 0x0405 (R73, R77). -/
def execMemberReplace (p : Packet) (s : State) : Host.Outcome State Fault Refusal := s.serve p.wf fun d => d.receive 0x0405 p

/-- LOST_STRIPE_QUERY, opcode 0x0406 (R73, R77). -/
def execLostStripeQuery (p : Packet) (s : State) : Host.Outcome State Fault Refusal := s.serve p.wf fun d => d.receive 0x0406 p

/-- OTR_CONFIGURE, opcode 0x0500 (R73, R77). -/
def execOtrConfigure (p : Packet) (s : State) : Host.Outcome State Fault Refusal := s.serve p.wf fun d => d.receive 0x0500 p

/-- OTR_PASS, opcode 0x0501 (R73, R77). -/
def execOtrPass (p : Packet) (s : State) : Host.Outcome State Fault Refusal := s.serve p.wf fun d => d.receive 0x0501 p

/-- OTR_SUSPECT_QUERY, opcode 0x0502 (R73, R77). -/
def execOtrSuspectQuery (p : Packet) (s : State) : Host.Outcome State Fault Refusal := s.serve p.wf fun d => d.receive 0x0502 p

/-- RLY_CONFIGURE, opcode 0x0503 (R73, R77). -/
def execRlyConfigure (p : Packet) (s : State) : Host.Outcome State Fault Refusal := s.serve p.wf fun d => d.receive 0x0503 p

/-- RLY_QUERY, opcode 0x0504 (R73, R77). -/
def execRlyQuery (p : Packet) (s : State) : Host.Outcome State Fault Refusal := s.serve p.wf fun d => d.receive 0x0504 p

/-- RLY_PASS, opcode 0x0505 (R73, R77). -/
def execRlyPass (p : Packet) (s : State) : Host.Outcome State Fault Refusal := s.serve p.wf fun d => d.receive 0x0505 p

/-- RLY_COPYBACK, opcode 0x0506 (R73, R77). -/
def execRlyCopyback (p : Packet) (s : State) : Host.Outcome State Fault Refusal := s.serve p.wf fun d => d.receive 0x0506 p

/-- LVY_CREATE, opcode 0x0600 (R73, R77). -/
def execLvyCreate (p : Packet) (s : State) : Host.Outcome State Fault Refusal := s.serve p.wf fun d => d.receive 0x0600 p

/-- LVY_DELETE, opcode 0x0601 (R73, R77). -/
def execLvyDelete (p : Packet) (s : State) : Host.Outcome State Fault Refusal := s.serve p.wf fun d => d.receive 0x0601 p

/-- LVY_CONFIGURE, opcode 0x0602 (R73, R77). -/
def execLvyConfigure (p : Packet) (s : State) : Host.Outcome State Fault Refusal := s.serve p.wf fun d => d.receive 0x0602 p

/-- LVY_MAP_PID, opcode 0x0603 (R73, R77). -/
def execLvyMapPid (p : Packet) (s : State) : Host.Outcome State Fault Refusal := s.serve p.wf fun d => d.receive 0x0603 p

/-- LVY_RESET, opcode 0x0604 (R73, R77). -/
def execLvyReset (p : Packet) (s : State) : Host.Outcome State Fault Refusal := s.serve p.wf fun d => d.receive 0x0604 p

/-- LVY_FREEZE, opcode 0x0605 (R73, R77). -/
def execLvyFreeze (p : Packet) (s : State) : Host.Outcome State Fault Refusal := s.serve p.wf fun d => d.receive 0x0605 p

/-- LVY_SAVE, opcode 0x0606 (R73, R77). -/
def execLvySave (p : Packet) (s : State) : Host.Outcome State Fault Refusal := s.serve p.wf fun d => d.receive 0x0606 p

/-- LVY_RESTORE, opcode 0x0607 (R73, R77). -/
def execLvyRestore (p : Packet) (s : State) : Host.Outcome State Fault Refusal := s.serve p.wf fun d => d.receive 0x0607 p

/-- LVY_THAW, opcode 0x0608 (R73, R77). -/
def execLvyThaw (p : Packet) (s : State) : Host.Outcome State Fault Refusal := s.serve p.wf fun d => d.receive 0x0608 p

/-- LVY_QUERY, opcode 0x0609 (R73, R77). -/
def execLvyQuery (p : Packet) (s : State) : Host.Outcome State Fault Refusal := s.serve p.wf fun d => d.receive 0x0609 p

/-- RUL_QUERY, opcode 0x0700 (R73, R77). -/
def execRulQuery (p : Packet) (s : State) : Host.Outcome State Fault Refusal := s.serve p.wf fun d => d.receive 0x0700 p

/-- RUL_CONFIGURE, opcode 0x0701 (R73, R77). -/
def execRulConfigure (p : Packet) (s : State) : Host.Outcome State Fault Refusal := s.serve p.wf fun d => d.receive 0x0701 p

/-- RUL_TABLE_LOAD, opcode 0x0702 (R73, R77). -/
def execRulTableLoad (p : Packet) (s : State) : Host.Outcome State Fault Refusal := s.serve p.wf fun d => d.receive 0x0702 p

/-- RUL_PULSE, opcode 0x0703 (R73, R77). -/
def execRulPulse (p : Packet) (s : State) : Host.Outcome State Fault Refusal := s.serve p.wf fun d => d.receive 0x0703 p

/-- RUL_CONVERT, opcode 0x0704 (R73, R77). -/
def execRulConvert (p : Packet) (s : State) : Host.Outcome State Fault Refusal := s.serve p.wf fun d => d.receive 0x0704 p

/-- KEY_LOAD, opcode 0x0800 (R73, R77). -/
def execKeyLoad (p : Packet) (s : State) : Host.Outcome State Fault Refusal := s.serve p.wf fun d => d.receive 0x0800 p

/-- KEY_CLEAR, opcode 0x0801 (R73, R77). -/
def execKeyClear (p : Packet) (s : State) : Host.Outcome State Fault Refusal := s.serve p.wf fun d => d.receive 0x0801 p

/-- KEY_SUCCESSOR, opcode 0x0802 (R73, R77). -/
def execKeySuccessor (p : Packet) (s : State) : Host.Outcome State Fault Refusal := s.serve p.wf fun d => d.receive 0x0802 p

/-- KEY_QUERY, opcode 0x0803 (R73, R77). -/
def execKeyQuery (p : Packet) (s : State) : Host.Outcome State Fault Refusal := s.serve p.wf fun d => d.receive 0x0803 p

/-- FOV_CONFIGURE, opcode 0x0900 (R73, R77). -/
def execFovConfigure (p : Packet) (s : State) : Host.Outcome State Fault Refusal := s.serve p.wf fun d => d.receive 0x0900 p

/-- FOV_QUERY, opcode 0x0901 (R73, R77). -/
def execFovQuery (p : Packet) (s : State) : Host.Outcome State Fault Refusal := s.serve p.wf fun d => d.receive 0x0901 p

/-- FOV_HANDOVER, opcode 0x0902 (R73, R77). -/
def execFovHandover (p : Packet) (s : State) : Host.Outcome State Fault Refusal := s.serve p.wf fun d => d.receive 0x0902 p

/-- EVT_SUBSCRIBE, opcode 0x0A00 (R73, R77). -/
def execEvtSubscribe (p : Packet) (s : State) : Host.Outcome State Fault Refusal := s.serve p.wf fun d => d.receive 0x0A00 p

/-- EVT_UNSUBSCRIBE, opcode 0x0A01 (R73, R77). -/
def execEvtUnsubscribe (p : Packet) (s : State) : Host.Outcome State Fault Refusal := s.serve p.wf fun d => d.receive 0x0A01 p

/-- EVT_MASK, opcode 0x0A02 (R73, R77). -/
def execEvtMask (p : Packet) (s : State) : Host.Outcome State Fault Refusal := s.serve p.wf fun d => d.receive 0x0A02 p

/-- PMC_CONFIGURE, opcode 0x0A03 (R73, R77). -/
def execPmcConfigure (p : Packet) (s : State) : Host.Outcome State Fault Refusal := s.serve p.wf fun d => d.receive 0x0A03 p

/-- PMC_SNAPSHOT, opcode 0x0A04 (R73, R77). -/
def execPmcSnapshot (p : Packet) (s : State) : Host.Outcome State Fault Refusal := s.serve p.wf fun d => d.receive 0x0A04 p

/-- PMC_QUERY, opcode 0x0A05 (R73, R77). -/
def execPmcQuery (p : Packet) (s : State) : Host.Outcome State Fault Refusal := s.serve p.wf fun d => d.receive 0x0A05 p

/-- LMON_CONFIGURE, opcode 0x0A06 (R73, R77). -/
def execLmonConfigure (p : Packet) (s : State) : Host.Outcome State Fault Refusal := s.serve p.wf fun d => d.receive 0x0A06 p

/-- LMON_QUERY, opcode 0x0A07 (R73, R77). -/
def execLmonQuery (p : Packet) (s : State) : Host.Outcome State Fault Refusal := s.serve p.wf fun d => d.receive 0x0A07 p

/-- WBL_QUERY, opcode 0x0A08 (R73, R77). -/
def execWblQuery (p : Packet) (s : State) : Host.Outcome State Fault Refusal := s.serve p.wf fun d => d.receive 0x0A08 p

/-- WBL_CLEAR, opcode 0x0A09 (R73, R77). -/
def execWblClear (p : Packet) (s : State) : Host.Outcome State Fault Refusal := s.serve p.wf fun d => d.receive 0x0A09 p

/-- REG_READ, opcode 0x0B00 (R73, R77). -/
def execRegRead (p : Packet) (s : State) : Host.Outcome State Fault Refusal := s.serve p.wf fun d => d.receive 0x0B00 p

/-- REG_WRITE, opcode 0x0B01 (R73, R77). -/
def execRegWrite (p : Packet) (s : State) : Host.Outcome State Fault Refusal := s.serve p.wf fun d => d.receive 0x0B01 p

/-- REG_RMW, opcode 0x0B02 (R73, R77). -/
def execRegRmw (p : Packet) (s : State) : Host.Outcome State Fault Refusal := s.serve p.wf fun d => d.receive 0x0B02 p

/-- FW_QUERY, opcode 0x0C00 (R73, R77). -/
def execFwQuery (p : Packet) (s : State) : Host.Outcome State Fault Refusal := s.serve p.wf fun d => d.receive 0x0C00 p

/-- FW_UPDATE, opcode 0x0C01 (R73, R77). -/
def execFwUpdate (p : Packet) (s : State) : Host.Outcome State Fault Refusal := s.serve p.wf fun d => d.receive 0x0C01 p

/-- FW_ACTIVATE, opcode 0x0C02 (R73, R77). -/
def execFwActivate (p : Packet) (s : State) : Host.Outcome State Fault Refusal := s.serve p.wf fun d => d.receive 0x0C02 p

/-- MOD_RESET, opcode 0x0C03 (R73, R77). -/
def execModReset (p : Packet) (s : State) : Host.Outcome State Fault Refusal := s.serve p.wf fun d => d.receive 0x0C03 p

/-- POWER_STATE, opcode 0x0C04 (R73, R77). -/
def execPowerState (p : Packet) (s : State) : Host.Outcome State Fault Refusal := s.serve p.wf fun d => d.receive 0x0C04 p

end Sys2Proof.Machine
end

