-- ==== Sys2Proof/Machine/RegRows.lean ====
section
/-! DEFINITION. Register accesses of the four masters (R14, R528 to R532): the rows of the table for them. -/

namespace Sys2Proof.Machine

/-- A register write by a master. -/
def State.writes (ok : Bool) (m : Master) (off v : Nat) (s : State) : Host.Outcome State Fault Refusal := s.serve ok fun d => d.writeReg m off v

/-! ## Ports, Turnpike and shaping (R105, R120, R128, R133) -/

/-- ETH_APPLY (R105). -/
def execEthApply (m : Master) (port : Nat) (value : Word) (s : State) : Host.Outcome State Fault Refusal :=
  s.writes (wfPort port) m (0x100000 + 0x10000 * port) (setBit value.toNat 4)

/-- TPK_TBL_READ: TPK_TBL_CMD with GO and OP 0 (R133). -/
def execTpkTblRead (m : Master) (value : Word) (s : State) : Host.Outcome State Fault Refusal :=
  s.writes true m Reg.tpkTblCmd (setBit (clearBit value.toNat 18) 19)

/-- TPK_TBL_WRITE: TPK_TBL_CMD with GO and OP 1 (R133). -/
def execTpkTblWrite (m : Master) (value : Word) (s : State) : Host.Outcome State Fault Refusal :=
  s.writes true m Reg.tpkTblCmd (setBit (setBit value.toNat 18) 19)

/-- TSS_SHP_COMMIT (R128). -/
def execTssShpCommit (m : Master) (s : State) : Host.Outcome State Fault Refusal := s.writes true m Reg.tssShpCmd 1

/-- TSS_POL_COMMIT (R120). -/
def execTssPolCommit (m : Master) (value : Word) (s : State) : Host.Outcome State Fault Refusal :=
  s.writes true m Reg.tssPolCtl (setBit value.toNat 2)

/-! ## Ruling (R35, R41, R52, R532, R555) -/

/-- RUL_CTL_RELOCK (R35). -/
def execRulCtlRelock (m : Master) (value : Word) (s : State) : Host.Outcome State Fault Refusal :=
  s.writes true m Reg.rulCtl (setBit value.toNat 1)

/-- RUL_CTL_EN (R555). -/
def execRulCtlEn (m : Master) (value : Word) (s : State) : Host.Outcome State Fault Refusal := s.writes true m Reg.rulCtl value.toNat

/-- RUL_CTL_FORCE_HOLD (R41). -/
def execRulCtlForceHold (m : Master) (value : Word) (s : State) : Host.Outcome State Fault Refusal := s.serve true fun d => d.writeReg m Reg.rulCtl value.toNat

/-- RUL_TBL_SWAP (R52). -/
def execRulTblSwap (m : Master) (s : State) : Host.Outcome State Fault Refusal := s.writes true m Reg.rulTblCtl 1

/-- RUL_TBL_COPY (R52). -/
def execRulTblCopy (m : Master) (s : State) : Host.Outcome State Fault Refusal := s.writes true m Reg.rulTblCtl 2

/-- RUL_NOW_LO_READ (R532). -/
def execRulNowLoRead (m : Master) (s : State) : Host.Outcome State Fault Refusal := s.serve true fun d => d.readBy m Reg.rulNowLo

/-! ## Layout, drives and slots (R239, R359, R363, R367, R368, R373, R374, R560) -/

/-- LAY_LOC_CMD (R239). -/
def execLayLocCmd (m : Master) (value : Word) (s : State) : Host.Outcome State Fault Refusal := s.writes true m Reg.layLocCmd value.toNat

/-- DPC_CTL_EN (R560). -/
def execDpcCtlEn (m : Master) (value : Word) (s : State) : Host.Outcome State Fault Refusal := s.writes true m Reg.dpcCtl value.toNat

/-- The offset of DPQn_Ps_CTL of a slot. -/
def portCtl (slot : Nat) : Nat := Reg.dpqCtl + 0x10000 * (slot / 4) + 0x10 * (slot % 4)

/-- DPQ_RETRAIN (R359). -/
def execDpqRetrain (m : Master) (slot : Nat) (s : State) : Host.Outcome State Fault Refusal :=
  s.serve (wfDrive slot) fun d => d.writeReg m (portCtl slot) (setBit (d.raw (portCtl slot)) 2)

/-- DPQ_FORMAT (R363). -/
def execDpqFormat (m : Master) (slot : Nat) (s : State) : Host.Outcome State Fault Refusal :=
  s.serve (wfDrive slot) fun d => d.writeReg m (portCtl slot) (setBit (d.raw (portCtl slot)) 3)

/-- A write to SLT_CMD that leaves ATTN of the indexed slot as it is and sets bit `b`. -/
def Dev.slotBit (d : Dev) (m : Master) (b : Nat) : Dev :=
  d.writeReg m Reg.sltCmd (setBit (d.fld (bank Reg.sltCmd (min 47 (d.fld Reg.sltIdx 0 6))) 0 2) b)

/-- SLT_CMD_ATTN (R374). -/
def execSltCmdAttn (m : Master) (value : Word) (s : State) : Host.Outcome State Fault Refusal := s.writes true m Reg.sltCmd (value.toNat % 4)

/-- SLT_CMD_CYCLE (R367). -/
def execSltCmdCycle (m : Master) (s : State) : Host.Outcome State Fault Refusal := s.serve true fun d => d.slotBit m 2

/-- SLT_CMD_OFF (R368). -/
def execSltCmdOff (m : Master) (s : State) : Host.Outcome State Fault Refusal := s.serve true fun d => d.slotBit m 3

/-- SLT_CMD_ON (R373). -/
def execSltCmdOn (m : Master) (s : State) : Host.Outcome State Fault Refusal := s.serve true fun d => d.slotBit m 4

/-! ## Check values (R385, R391, R394) -/

/-- CVE_KEY_LOAD (R385). -/
def execCveKeyLoad (m : Master) (s : State) : Host.Outcome State Fault Refusal := s.writes true m Reg.cveKeyCmd 1

/-- CVE_KEY_CLEAR (R391). -/
def execCveKeyClear (m : Master) (s : State) : Host.Outcome State Fault Refusal := s.writes true m Reg.cveKeyCmd 2

/-- ENT_RESTART (R394): CVE_CTL with ENT_RESTART, EN as it is. -/
def execEntRestart (m : Master) (s : State) : Host.Outcome State Fault Refusal :=
  s.serve true fun d => d.writeReg m Reg.cveCtl (setBit (d.raw Reg.cveCtl) 1)

/-! ## Pools, liveries, queues and snapshots (R166, R193, R207, R214, R262, R418, R424, R479, R492, R556) -/

/-- DRL_POOL_HDRM_WRITE (R424). -/
def execDrlPoolHdrmWrite (m : Master) (value : Word) (s : State) : Host.Outcome State Fault Refusal := s.writes true m Reg.drlPoolHdrm value.toNat

/-- POOL_SNAPSHOT (R418). -/
def execPoolSnapshot (m : Master) (value : Word) (s : State) : Host.Outcome State Fault Refusal := s.writes true m Reg.drlPoolIdx value.toNat

/-- MEP_WIN_WRITE (R479). -/
def execMepWinWrite (m : Master) (value : Word) (s : State) : Host.Outcome State Fault Refusal := s.writes true m Reg.mepWin value.toNat

/-- INSERT_MS_WRITE (R492). -/
def execInsertMsWrite (m : Master) (value : Word) (s : State) : Host.Outcome State Fault Refusal := s.writes true m Reg.pesCfg value.toNat

/-- LVY_MAP_LAST_WRITE (R214). -/
def execLvyMapLastWrite (m : Master) (value : Word) (s : State) : Host.Outcome State Fault Refusal := s.writes true m Reg.lvyMapLast value.toNat

/-- LVY_CFG_WRITE (R556). -/
def execLvyCfgWrite (m : Master) (value : Word) (s : State) : Host.Outcome State Fault Refusal := s.writes true m Reg.lvyCfg value.toNat

/-- RLT_IDX_SNAPSHOT (R207). -/
def execRltIdxSnapshot (m : Master) (value : Word) (s : State) : Host.Outcome State Fault Refusal := s.writes true m Reg.rltIdx value.toNat

/-- NIB_DIDX_SNAPSHOT (R262). -/
def execNibDidxSnapshot (m : Master) (value : Word) (s : State) : Host.Outcome State Fault Refusal := s.writes true m Reg.nibDidx value.toNat

/-- HQE_BIND_WORD_WRITE (R193). -/
def execHqeBindWordWrite (m : Master) (value : Word) (s : State) : Host.Outcome State Fault Refusal := s.writes true m Reg.hqeBindData value.toNat

/-- INK_SPACE_WRITE (R166). -/
def execInkSpaceWrite (m : Master) (value : Word) (s : State) : Host.Outcome State Fault Refusal := s.writes true m Reg.inkCtl value.toNat

/-! ## SMBus (R488) -/

/-- SMBUS_READ. -/
def execSmbusRead (s : State) : Host.Outcome State Fault Refusal := s.serve true fun d => if d.smbOn then d.smbRead else d

/-- SMBUS_WRITE. -/
def execSmbusWrite (value : Word) (pecOk : Bool) (s : State) : Host.Outcome State Fault Refusal :=
  s.serve true fun d => if d.smbOn then d.smbWrite value.toNat pecOk else d

/-! ## Reads with side effects, reserved offsets, every other register (R528 to R532) -/

/-- LO_READ_LATCH: a read of the low half of a 64-bit value (R532). -/
def execLoReadLatch (m : Master) (offset : Nat) (s : State) : Host.Outcome State Fault Refusal :=
  s.serve (wfOffset offset) fun d => if (d.wide offset).isSome then d.readBy m offset else d

/-- RC_READ: a read of a register that a read clears (R528). -/
def execRcRead (m : Master) (offset : Nat) (s : State) : Host.Outcome State Fault Refusal :=
  s.serve (wfOffset offset) fun d => if rcMask offset then d.readBy m offset else d

/-- An access to a reserved offset, or a write with partial byte enables (R530, R531). -/
def Dev.oddAccess (d : Dev) (m : Master) (off : Nat) (write : Bool) (enables : Nat) : Dev :=
  if !(d.blockServed (off / 0x10000)) then d
  else if !(isRegister off) then (if write then d.reservedAccess m off true (enables != 15) else d.readBy m off)
  else if write && enables != 15 then d.reservedAccess m off true true
  else d

/-- RESERVED_OFFSET_ACCESS (R530, R531). -/
def execReservedOffsetAccess (m : Master) (offset : Nat) (write : Bool) (enables : Nat) (s : State) : Host.Outcome State Fault Refusal :=
  s.serve (wfOffset offset && wfNibble enables) fun d => d.oddAccess m offset write enables

/-- REGISTER_WRITE (R528). -/
def execRegisterWrite (m : Master) (offset : Nat) (value : Word) (enables : Nat) (s : State) : Host.Outcome State Fault Refusal :=
  s.serve (wfOffset offset && wfNibble enables) fun d => d.writeEnabled m offset value.toNat enables

end Sys2Proof.Machine
end

