-- ==== Sys2Proof/Machine/Dispatch.lean ====
section
/-! DEFINITION. The meaning of each command: one arm for each constructor of `Instr`, each one direct call. -/

namespace Sys2Proof.Machine

def exec (i : Instr) (s : State) : Host.Outcome State Fault Refusal :=
  match i with
  | .nop p => Sys2Proof.Machine.execNop p s
  | .sessionOpen p => Sys2Proof.Machine.execSessionOpen p s
  | .sessionClose p => Sys2Proof.Machine.execSessionClose p s
  | .versionQuery p => Sys2Proof.Machine.execVersionQuery p s
  | .stepContinue p => Sys2Proof.Machine.execStepContinue p s
  | .stepRelease p => Sys2Proof.Machine.execStepRelease p s
  | .stepCancel p => Sys2Proof.Machine.execStepCancel p s
  | .longopQuery p => Sys2Proof.Machine.execLongopQuery p s
  | .nsCreate p => Sys2Proof.Machine.execNsCreate p s
  | .nsDelete p => Sys2Proof.Machine.execNsDelete p s
  | .nsQuery p => Sys2Proof.Machine.execNsQuery p s
  | .nsFormat p => Sys2Proof.Machine.execNsFormat p s
  | .takeOpen p => Sys2Proof.Machine.execTakeOpen p s
  | .takeClose p => Sys2Proof.Machine.execTakeClose p s
  | .takeExport p => Sys2Proof.Machine.execTakeExport p s
  | .takeDelete p => Sys2Proof.Machine.execTakeDelete p s
  | .takeQuery p => Sys2Proof.Machine.execTakeQuery p s
  | .commit p => Sys2Proof.Machine.execCommit p s
  | .flush p => Sys2Proof.Machine.execFlush p s
  | .readTo p => Sys2Proof.Machine.execReadTo p s
  | .frameIndexQuery p => Sys2Proof.Machine.execFrameIndexQuery p s
  | .inkRegister p => Sys2Proof.Machine.execInkRegister p s
  | .inkRevoke p => Sys2Proof.Machine.execInkRevoke p s
  | .inkQuery p => Sys2Proof.Machine.execInkQuery p s
  | .rqCreate p => Sys2Proof.Machine.execRqCreate p s
  | .rqDestroy p => Sys2Proof.Machine.execRqDestroy p s
  | .rqFlush p => Sys2Proof.Machine.execRqFlush p s
  | .arrayCreate p => Sys2Proof.Machine.execArrayCreate p s
  | .arrayQuery p => Sys2Proof.Machine.execArrayQuery p s
  | .memberQuery p => Sys2Proof.Machine.execMemberQuery p s
  | .mapCheckpoint p => Sys2Proof.Machine.execMapCheckpoint p s
  | .memberFail p => Sys2Proof.Machine.execMemberFail p s
  | .memberReplace p => Sys2Proof.Machine.execMemberReplace p s
  | .lostStripeQuery p => Sys2Proof.Machine.execLostStripeQuery p s
  | .otrConfigure p => Sys2Proof.Machine.execOtrConfigure p s
  | .otrPass p => Sys2Proof.Machine.execOtrPass p s
  | .otrSuspectQuery p => Sys2Proof.Machine.execOtrSuspectQuery p s
  | .rlyConfigure p => Sys2Proof.Machine.execRlyConfigure p s
  | .rlyQuery p => Sys2Proof.Machine.execRlyQuery p s
  | .rlyPass p => Sys2Proof.Machine.execRlyPass p s
  | .rlyCopyback p => Sys2Proof.Machine.execRlyCopyback p s
  | .lvyCreate p => Sys2Proof.Machine.execLvyCreate p s
  | .lvyDelete p => Sys2Proof.Machine.execLvyDelete p s
  | .lvyConfigure p => Sys2Proof.Machine.execLvyConfigure p s
  | .lvyMapPid p => Sys2Proof.Machine.execLvyMapPid p s
  | .lvyReset p => Sys2Proof.Machine.execLvyReset p s
  | .lvyFreeze p => Sys2Proof.Machine.execLvyFreeze p s
  | .lvySave p => Sys2Proof.Machine.execLvySave p s
  | .lvyRestore p => Sys2Proof.Machine.execLvyRestore p s
  | .lvyThaw p => Sys2Proof.Machine.execLvyThaw p s
  | .lvyQuery p => Sys2Proof.Machine.execLvyQuery p s
  | .rulQuery p => Sys2Proof.Machine.execRulQuery p s
  | .rulConfigure p => Sys2Proof.Machine.execRulConfigure p s
  | .rulTableLoad p => Sys2Proof.Machine.execRulTableLoad p s
  | .rulPulse p => Sys2Proof.Machine.execRulPulse p s
  | .rulConvert p => Sys2Proof.Machine.execRulConvert p s
  | .keyLoad p => Sys2Proof.Machine.execKeyLoad p s
  | .keyClear p => Sys2Proof.Machine.execKeyClear p s
  | .keySuccessor p => Sys2Proof.Machine.execKeySuccessor p s
  | .keyQuery p => Sys2Proof.Machine.execKeyQuery p s
  | .fovConfigure p => Sys2Proof.Machine.execFovConfigure p s
  | .fovQuery p => Sys2Proof.Machine.execFovQuery p s
  | .fovHandover p => Sys2Proof.Machine.execFovHandover p s
  | .evtSubscribe p => Sys2Proof.Machine.execEvtSubscribe p s
  | .evtUnsubscribe p => Sys2Proof.Machine.execEvtUnsubscribe p s
  | .evtMask p => Sys2Proof.Machine.execEvtMask p s
  | .pmcConfigure p => Sys2Proof.Machine.execPmcConfigure p s
  | .pmcSnapshot p => Sys2Proof.Machine.execPmcSnapshot p s
  | .pmcQuery p => Sys2Proof.Machine.execPmcQuery p s
  | .lmonConfigure p => Sys2Proof.Machine.execLmonConfigure p s
  | .lmonQuery p => Sys2Proof.Machine.execLmonQuery p s
  | .wblQuery p => Sys2Proof.Machine.execWblQuery p s
  | .wblClear p => Sys2Proof.Machine.execWblClear p s
  | .regRead p => Sys2Proof.Machine.execRegRead p s
  | .regWrite p => Sys2Proof.Machine.execRegWrite p s
  | .regRmw p => Sys2Proof.Machine.execRegRmw p s
  | .fwQuery p => Sys2Proof.Machine.execFwQuery p s
  | .fwUpdate p => Sys2Proof.Machine.execFwUpdate p s
  | .fwActivate p => Sys2Proof.Machine.execFwActivate p s
  | .modReset p => Sys2Proof.Machine.execModReset p s
  | .powerState p => Sys2Proof.Machine.execPowerState p s
  | .longopStep slot => Sys2Proof.Machine.execLongopStep slot s
  | .cookieExpired slot => Sys2Proof.Machine.execCookieExpired slot s
  | .heldLongopStart slot => Sys2Proof.Machine.execHeldLongopStart slot s
  | .heldCommandDispatch id => Sys2Proof.Machine.execHeldCommandDispatch id s
  | .ordCommandStart id => Sys2Proof.Machine.execOrdCommandStart id s
  | .udpSessionIdle session => Sys2Proof.Machine.execUdpSessionIdle session s
  | .placementFlushRequest qp number => Sys2Proof.Machine.execPlacementFlushRequest qp number s
  | .placementFlushReply qp number => Sys2Proof.Machine.execPlacementFlushReply qp number s
  | .roceSend h bytes => Sys2Proof.Machine.execRoceSend h bytes s
  | .rdmaWrite h key va length first last data => Sys2Proof.Machine.execRdmaWrite h key va length first last data s
  | .rdmaWriteWithImmediate h key va length first last data imm => Sys2Proof.Machine.execRdmaWriteWithImmediate h key va length first last data imm s
  | .rdmaRead h key va length => Sys2Proof.Machine.execRdmaRead h key va length s
  | .unsupportedOp h kind => Sys2Proof.Machine.execUnsupportedOp h kind s
  | .duplicatePacket h isRead key va length => Sys2Proof.Machine.execDuplicatePacket h isRead key va length s
  | .psnSequenceError h => Sys2Proof.Machine.execPsnSequenceError h s
  | .cnpReceived qp => Sys2Proof.Machine.execCnpReceived qp s
  | .ccRateIncrease qp => Sys2Proof.Machine.execCcRateIncrease qp s
  | .contextFetchDone qp => Sys2Proof.Machine.execContextFetchDone qp s
  | .cmReq m => Sys2Proof.Machine.execCmReq m s
  | .cmRep qp peerQp startPsn => Sys2Proof.Machine.execCmRep qp peerQp startPsn s
  | .cmRtu qp => Sys2Proof.Machine.execCmRtu qp s
  | .cmRej qp reason => Sys2Proof.Machine.execCmRej qp reason s
  | .cmDreq qp => Sys2Proof.Machine.execCmDreq qp s
  | .cmDrep qp => Sys2Proof.Machine.execCmDrep qp s
  | .cmMra qp timeoutUs => Sys2Proof.Machine.execCmMra qp timeoutUs s
  | .cmTimeout qp => Sys2Proof.Machine.execCmTimeout qp s
  | .qpLingerExpiry qp => Sys2Proof.Machine.execQpLingerExpiry qp s
  | .rqAckReceived qp count => Sys2Proof.Machine.execRqAckReceived qp count s
  | .rqNakReceived qp fatal => Sys2Proof.Machine.execRqNakReceived qp fatal s
  | .rqAckTimeout qp => Sys2Proof.Machine.execRqAckTimeout qp s
  | .rnrRetryTimer qp => Sys2Proof.Machine.execRnrRetryTimer qp s
  | .workRequestWaitRelease qp => Sys2Proof.Machine.execWorkRequestWaitRelease qp s
  | .flushTimeout qp => Sys2Proof.Machine.execFlushTimeout qp s
  | .revokeCut index => Sys2Proof.Machine.execRevokeCut index s
  | .nvmeConnect c => Sys2Proof.Machine.execNvmeConnect c s
  | .propertyGet c => Sys2Proof.Machine.execPropertyGet c s
  | .propertySet c => Sys2Proof.Machine.execPropertySet c s
  | .identify c => Sys2Proof.Machine.execIdentify c s
  | .getFeatures c => Sys2Proof.Machine.execGetFeatures c s
  | .setFeatures c => Sys2Proof.Machine.execSetFeatures c s
  | .getLogPage c => Sys2Proof.Machine.execGetLogPage c s
  | .keepAlive c => Sys2Proof.Machine.execKeepAlive c s
  | .asynchronousEventRequest c => Sys2Proof.Machine.execAsynchronousEventRequest c s
  | .namespaceManagement c => Sys2Proof.Machine.execNamespaceManagement c s
  | .abort c => Sys2Proof.Machine.execAbort c s
  | .nvmeFlush c => Sys2Proof.Machine.execNvmeFlush c s
  | .nvmeWrite c => Sys2Proof.Machine.execNvmeWrite c s
  | .nvmeRead c => Sys2Proof.Machine.execNvmeRead c s
  | .writeZeroes c => Sys2Proof.Machine.execWriteZeroes c s
  | .datasetManagement c => Sys2Proof.Machine.execDatasetManagement c s
  | .reservationRegister c => Sys2Proof.Machine.execReservationRegister c s
  | .reservationReport c => Sys2Proof.Machine.execReservationReport c s
  | .reservationAcquire c => Sys2Proof.Machine.execReservationAcquire c s
  | .reservationRelease c => Sys2Proof.Machine.execReservationRelease c s
  | .invalidCommandOpcode c => Sys2Proof.Machine.execInvalidCommandOpcode c s
  | .rdmaReadPullDone qp cid data => Sys2Proof.Machine.execRdmaReadPullDone qp cid data s
  | .katoExpired cntlid => Sys2Proof.Machine.execKatoExpired cntlid s
  | .cmdOverdue qp cid => Sys2Proof.Machine.execCmdOverdue qp cid s
  | .rangeLockGrant id => Sys2Proof.Machine.execRangeLockGrant id s
  | .ethFrameReceived f => Sys2Proof.Machine.execEthFrameReceived f s
  | .pauseTimerExpiry link prio => Sys2Proof.Machine.execPauseTimerExpiry link prio s
  | .pfcWatchdog link prio => Sys2Proof.Machine.execPfcWatchdog link prio s
  | .xoffRepeat link prio => Sys2Proof.Machine.execXoffRepeat link prio s
  | .linkTxSelect link => Sys2Proof.Machine.execLinkTxSelect link s
  | .fairQueueSelect port => Sys2Proof.Machine.execFairQueueSelect port s
  | .shaperRefill => Sys2Proof.Machine.execShaperRefill s
  | .storageAttachmentServe => Sys2Proof.Machine.execStorageAttachmentServe s
  | .gateRunOpen link prio => Sys2Proof.Machine.execGateRunOpen link prio s
  | .fecWindow port uncorrected corrected => Sys2Proof.Machine.execFecWindow port uncorrected corrected s
  | .ethLinkChange link up => Sys2Proof.Machine.execEthLinkChange link up s
  | .ethApply m port value => Sys2Proof.Machine.execEthApply m port value s
  | .tpkTblRead m value => Sys2Proof.Machine.execTpkTblRead m value s
  | .tpkTblWrite m value => Sys2Proof.Machine.execTpkTblWrite m value s
  | .tssShpCommit m => Sys2Proof.Machine.execTssShpCommit m s
  | .tssPolCommit m value => Sys2Proof.Machine.execTssPolCommit m value s
  | .tandemFrameReceived f => Sys2Proof.Machine.execTandemFrameReceived f s
  | .helloSend link => Sys2Proof.Machine.execHelloSend link s
  | .helloLoss link => Sys2Proof.Machine.execHelloLoss link s
  | .reseqFlush source flow => Sys2Proof.Machine.execReseqFlush source flow s
  | .reseqContextFree source flow => Sys2Proof.Machine.execReseqContextFree source flow s
  | .houseFrameEdge at_ => Sys2Proof.Machine.execHouseFrameEdge at_ s
  | .houseLineEdge at_ => Sys2Proof.Machine.execHouseLineEdge at_ s
  | .sourceLost source => Sys2Proof.Machine.execSourceLost source s
  | .acqTimeout => Sys2Proof.Machine.execAcqTimeout s
  | .holdClkFault => Sys2Proof.Machine.execHoldClkFault s
  | .rulCtlRelock m value => Sys2Proof.Machine.execRulCtlRelock m value s
  | .rulCtlEn m value => Sys2Proof.Machine.execRulCtlEn m value s
  | .rulCtlForceHold m value => Sys2Proof.Machine.execRulCtlForceHold m value s
  | .rulTblSwap m => Sys2Proof.Machine.execRulTblSwap m s
  | .rulTblCopy m => Sys2Proof.Machine.execRulTblCopy m s
  | .frameStart => Sys2Proof.Machine.execFrameStart s
  | .classWindowOpen cls => Sys2Proof.Machine.execClassWindowOpen cls s
  | .rulNowLoRead m => Sys2Proof.Machine.execRulNowLoRead m s
  | .descriptorClosePoint d => Sys2Proof.Machine.execDescriptorClosePoint d s
  | .descriptorIdleClose d => Sys2Proof.Machine.execDescriptorIdleClose d s
  | .drainSlotGrant d => Sys2Proof.Machine.execDrainSlotGrant d s
  | .driveBlockFetch d strip block => Sys2Proof.Machine.execDriveBlockFetch d strip block s
  | .subStripeAdmit d => Sys2Proof.Machine.execSubStripeAdmit d s
  | .driveCompletion id status blocks => Sys2Proof.Machine.execDriveCompletion id status blocks s
  | .driveWriteRetry id => Sys2Proof.Machine.execDriveWriteRetry id s
  | .batchExpiry => Sys2Proof.Machine.execBatchExpiry s
  | .mirrorRecordsReceived records payload a ra => Sys2Proof.Machine.execMirrorRecordsReceived records payload a ra s
  | .mirrorAckReceived rsn => Sys2Proof.Machine.execMirrorAckReceived rsn s
  | .mirrorAckTimeout => Sys2Proof.Machine.execMirrorAckTimeout s
  | .partnerDiscovered low high recordVersion mapVersion => Sys2Proof.Machine.execPartnerDiscovered low high recordVersion mapVersion s
  | .partnerCheckpointLoaded => Sys2Proof.Machine.execPartnerCheckpointLoaded s
  | .pwrFailAsserted => Sys2Proof.Machine.execPwrFailAsserted s
  | .pwrFailReleased => Sys2Proof.Machine.execPwrFailReleased s
  | .pfInternalThreshold => Sys2Proof.Machine.execPfInternalThreshold s
  | .blotterReplay blocks => Sys2Proof.Machine.execBlotterReplay blocks s
  | .remirrorLate => Sys2Proof.Machine.execRemirrorLate s
  | .checkpointInterval segment => Sys2Proof.Machine.execCheckpointInterval segment s
  | .ckptLag segment => Sys2Proof.Machine.execCkptLag segment s
  | .layLocCmd m value => Sys2Proof.Machine.execLayLocCmd m value s
  | .mapLoad labels entries => Sys2Proof.Machine.execMapLoad labels entries s
  | .readDelivery id => Sys2Proof.Machine.execReadDelivery id s
  | .readGranuleGrant id => Sys2Proof.Machine.execReadGranuleGrant id s
  | .otrCheckStart => Sys2Proof.Machine.execOtrCheckStart s
  | .memberFailDeclare member => Sys2Proof.Machine.execMemberFailDeclare member s
  | .declarationEffect => Sys2Proof.Machine.execDeclarationEffect s
  | .relayStep => Sys2Proof.Machine.execRelayStep s
  | .driveLinkTrained slot speed width => Sys2Proof.Machine.execDriveLinkTrained slot speed width s
  | .aerError slot kind => Sys2Proof.Machine.execAerError slot kind s
  | .aerCorrectable slot => Sys2Proof.Machine.execAerCorrectable slot s
  | .driveAsyncEvent slot critical => Sys2Proof.Machine.execDriveAsyncEvent slot critical s
  | .cmdTimeout id => Sys2Proof.Machine.execCmdTimeout id s
  | .ctrlResetResult slot ready => Sys2Proof.Machine.execCtrlResetResult slot ready s
  | .slotPowerOffExpiry slot => Sys2Proof.Machine.execSlotPowerOffExpiry slot s
  | .bootTimeout slot => Sys2Proof.Machine.execBootTimeout slot s
  | .reservationAcquired slot => Sys2Proof.Machine.execReservationAcquired slot s
  | .dpcCtlEn m value => Sys2Proof.Machine.execDpcCtlEn m value s
  | .dpqRetrain m slot => Sys2Proof.Machine.execDpqRetrain m slot s
  | .dpqFormat m slot => Sys2Proof.Machine.execDpqFormat m slot s
  | .slotPoll readings => Sys2Proof.Machine.execSlotPoll readings s
  | .insertDelayExpiry slot => Sys2Proof.Machine.execInsertDelayExpiry slot s
  | .sltCmdAttn m value => Sys2Proof.Machine.execSltCmdAttn m value s
  | .sltCmdCycle m => Sys2Proof.Machine.execSltCmdCycle m s
  | .sltCmdOff m => Sys2Proof.Machine.execSltCmdOff m s
  | .sltCmdOn m => Sys2Proof.Machine.execSltCmdOn m s
  | .cveTagRequest => Sys2Proof.Machine.execCveTagRequest s
  | .cveVerifyRequest => Sys2Proof.Machine.execCveVerifyRequest s
  | .entropyHealth repetition => Sys2Proof.Machine.execEntropyHealth repetition s
  | .entropyRestartDone passed => Sys2Proof.Machine.execEntropyRestartDone passed s
  | .cveKeyLoad m => Sys2Proof.Machine.execCveKeyLoad m s
  | .cveKeyClear m => Sys2Proof.Machine.execCveKeyClear m s
  | .entRestart m => Sys2Proof.Machine.execEntRestart m s
  | .actPeerLow2ms => Sys2Proof.Machine.execActPeerLow2ms s
  | .guardExpiry => Sys2Proof.Machine.execGuardExpiry s
  | .claimLost => Sys2Proof.Machine.execClaimLost s
  | .discoverTimeout => Sys2Proof.Machine.execDiscoverTimeout s
  | .heartbeatSend => Sys2Proof.Machine.execHeartbeatSend s
  | .hbLineToggle => Sys2Proof.Machine.execHbLineToggle s
  | .fovWdogKick m => Sys2Proof.Machine.execFovWdogKick m s
  | .wdogExpiry => Sys2Proof.Machine.execWdogExpiry s
  | .heartbeatReceived msg => Sys2Proof.Machine.execHeartbeatReceived msg s
  | .hbInChange => Sys2Proof.Machine.execHbInChange s
  | .pathSilent line => Sys2Proof.Machine.execPathSilent line s
  | .fenceAckSeen => Sys2Proof.Machine.execFenceAckSeen s
  | .fenceTimeout => Sys2Proof.Machine.execFenceTimeout s
  | .actPeerFall => Sys2Proof.Machine.execActPeerFall s
  | .takeoverBlocked => Sys2Proof.Machine.execTakeoverBlocked s
  | .fenceInAsserted => Sys2Proof.Machine.execFenceInAsserted s
  | .fenceInReleased => Sys2Proof.Machine.execFenceInReleased s
  | .fenceRelease m => Sys2Proof.Machine.execFenceRelease m s
  | .autoReleaseExpiry => Sys2Proof.Machine.execAutoReleaseExpiry s
  | .handoverMessage msg => Sys2Proof.Machine.execHandoverMessage msg s
  | .resumedMessage msg => Sys2Proof.Machine.execResumedMessage msg s
  | .handoverTimeout => Sys2Proof.Machine.execHandoverTimeout s
  | .partnerLinkChange lanes => Sys2Proof.Machine.execPartnerLinkChange lanes s
  | .levelStall level => Sys2Proof.Machine.execLevelStall level s
  | .drlPoolHdrmWrite m value => Sys2Proof.Machine.execDrlPoolHdrmWrite m value s
  | .poolSnapshot m value => Sys2Proof.Machine.execPoolSnapshot m value s
  | .correctableError memory address device overwritten => Sys2Proof.Machine.execCorrectableError memory address device overwritten s
  | .uncorrectableError memory address syndrome requester => Sys2Proof.Machine.execUncorrectableError memory address syndrome requester s
  | .ceRateWindow memory => Sys2Proof.Machine.execCeRateWindow memory s
  | .mapSegReload segment => Sys2Proof.Machine.execMapSegReload segment s
  | .scrubRead memory => Sys2Proof.Machine.execScrubRead memory s
  | .memInjArm m value => Sys2Proof.Machine.execMemInjArm m value s
  | .memoryFill failed => Sys2Proof.Machine.execMemoryFill failed s
  | .eventPacketSend session => Sys2Proof.Machine.execEventPacketSend session s
  | .evtPendClear m group value => Sys2Proof.Machine.execEvtPendClear m group value s
  | .evtAlertMaskWrite m group value => Sys2Proof.Machine.execEvtAlertMaskWrite m group value s
  | .pmcUpdateArrival => Sys2Proof.Machine.execPmcUpdateArrival s
  | .pmcFreeze m value => Sys2Proof.Machine.execPmcFreeze m value s
  | .pmcSnap m => Sys2Proof.Machine.execPmcSnap m s
  | .pmcValPreset m value => Sys2Proof.Machine.execPmcValPreset m value s
  | .lmonIdxCopy m value => Sys2Proof.Machine.execLmonIdxCopy m value s
  | .lmonClear m => Sys2Proof.Machine.execLmonClear m s
  | .lmonClearAll m => Sys2Proof.Machine.execLmonClearAll m s
  | .lmonSelWrite m value => Sys2Proof.Machine.execLmonSelWrite m value s
  | .wblRecordWrite => Sys2Proof.Machine.execWblRecordWrite s
  | .wblFault => Sys2Proof.Machine.execWblFault s
  | .wblManual m => Sys2Proof.Machine.execWblManual m s
  | .mailboxDoorbell ring pi pasid slots => Sys2Proof.Machine.execMailboxDoorbell ring pi pasid slots s
  | .mailboxReplyFree m ring ci => Sys2Proof.Machine.execMailboxReplyFree m ring ci s
  | .dmaPiWrite m channel value => Sys2Proof.Machine.execDmaPiWrite m channel value s
  | .dmaDescriptorDone channel descriptor ending data => Sys2Proof.Machine.execDmaDescriptorDone channel descriptor ending data s
  | .dmaResume m channel => Sys2Proof.Machine.execDmaResume m channel s
  | .bmeChange value => Sys2Proof.Machine.execBmeChange value s
  | .bar2Access write address enables data => Sys2Proof.Machine.execBar2Access write address enables data s
  | .mepWinWrite m value => Sys2Proof.Machine.execMepWinWrite m value s
  | .perst => Sys2Proof.Machine.execPerst s
  | .hotReset => Sys2Proof.Machine.execHotReset s
  | .functionLevelReset => Sys2Proof.Machine.execFunctionLevelReset s
  | .epLinkChange speed width => Sys2Proof.Machine.execEpLinkChange speed width s
  | .smbusAddr offset pecOk => Sys2Proof.Machine.execSmbusAddr offset pecOk s
  | .smbusRead => Sys2Proof.Machine.execSmbusRead s
  | .smbusWrite value pecOk => Sys2Proof.Machine.execSmbusWrite value pecOk s
  | .smbusStatus => Sys2Proof.Machine.execSmbusStatus s
  | .smbusTimeout => Sys2Proof.Machine.execSmbusTimeout s
  | .inputThreshold millivolts => Sys2Proof.Machine.execInputThreshold millivolts s
  | .insertionDelayExpiry => Sys2Proof.Machine.execInsertionDelayExpiry s
  | .inrushTrip => Sys2Proof.Machine.execInrushTrip s
  | .energyTrip => Sys2Proof.Machine.execEnergyTrip s
  | .powerGood => Sys2Proof.Machine.execPowerGood s
  | .breakerTrip => Sys2Proof.Machine.execBreakerTrip s
  | .fastTrip => Sys2Proof.Machine.execFastTrip s
  | .offtimeExpiry => Sys2Proof.Machine.execOfftimeExpiry s
  | .retryCountReset => Sys2Proof.Machine.execRetryCountReset s
  | .pwrEnInChange level => Sys2Proof.Machine.execPwrEnInChange level s
  | .partnerCycle m => Sys2Proof.Machine.execPartnerCycle m s
  | .partnerCycleEnd => Sys2Proof.Machine.execPartnerCycleEnd s
  | .inputLost => Sys2Proof.Machine.execInputLost s
  | .keptStateExpiry => Sys2Proof.Machine.execKeptStateExpiry s
  | .insertMsWrite m value => Sys2Proof.Machine.execInsertMsWrite m value s
  | .startStepComplete => Sys2Proof.Machine.execStartStepComplete s
  | .startStepSlow => Sys2Proof.Machine.execStartStepSlow s
  | .startStepFailed cause => Sys2Proof.Machine.execStartStepFailed cause s
  | .drivesLate => Sys2Proof.Machine.execDrivesLate s
  | .modRstPin asserted => Sys2Proof.Machine.execModRstPin asserted s
  | .clkRstCtlModReset m => Sys2Proof.Machine.execClkRstCtlModReset m s
  | .clockCheck khz => Sys2Proof.Machine.execClockCheck khz s
  | .cpStopped instance_ => Sys2Proof.Machine.execCpStopped instance_ s
  | .lvyMapLastWrite m value => Sys2Proof.Machine.execLvyMapLastWrite m value s
  | .lvyCfgWrite m value => Sys2Proof.Machine.execLvyCfgWrite m value s
  | .rltIdxSnapshot m value => Sys2Proof.Machine.execRltIdxSnapshot m value s
  | .nibDidxSnapshot m value => Sys2Proof.Machine.execNibDidxSnapshot m value s
  | .hqeBindWordWrite m value => Sys2Proof.Machine.execHqeBindWordWrite m value s
  | .inkSpaceWrite m value => Sys2Proof.Machine.execInkSpaceWrite m value s
  | .loReadLatch m offset => Sys2Proof.Machine.execLoReadLatch m offset s
  | .rcRead m offset => Sys2Proof.Machine.execRcRead m offset s
  | .reservedOffsetAccess m offset write enables => Sys2Proof.Machine.execReservedOffsetAccess m offset write enables s
  | .registerWrite m offset value enables => Sys2Proof.Machine.execRegisterWrite m offset value enables s
  | .tempSample eighths => Sys2Proof.Machine.execTempSample eighths s
  | .configSpaceWrite register value => Sys2Proof.Machine.execConfigSpaceWrite register value s
  | .delayReqSend link => Sys2Proof.Machine.execDelayReqSend link s
  | .pwrFailDeasserted => Sys2Proof.Machine.execPwrFailDeasserted s
  | .plugInModuleOverpower cage => Sys2Proof.Machine.execPlugInModuleOverpower cage s

end Sys2Proof.Machine
end

