-- ==== Sys2Proof/Safety.lean ====
section
/-! DEFINITION. What counts as a safe step, and the words that statements use: the next state that a command leaves, and a
request that the command processor takes up at once. -/

namespace Sys2Proof

/-- A step from `s` is safe when it answers a next state. -/
def StepSafe (s : Machine.State) : Prop := ∃ t, Machine.step s = .next t

namespace Machine

/-- Every command that waits is one that can reach the module. -/
def State.QueueWf (s : State) : Prop := ∀ c ∈ s.pending, c.wf = true

/-- The state whose module is `d`, with the queue of `s`. -/
def State.becomes (s : State) (d : Dev) : State := { s with toDev := d }

/-- The same once what follows of itself has followed (DESIGN CHOICE: assumption log, entry 2). -/
def State.settles (s : State) (d : Dev) : State := s.becomes d.settle

/-- The same once released mailbox slots have been served as well. -/
def State.serves (s : State) (d : Dev) : State := s.becomes d.serveRings.settle

/-! ## A request that is taken up at once (R73) -/

/-- The command that a request becomes when it takes a receive buffer, before any check that depends on the livery. -/
def Dev.requestOf (d : Dev) (op : Nat) (p : Packet) : Cmd :=
  { id := d.cp.nextId, op := op, pkt := p, session := (d.sessionAt p.src).map Session.id, livery := noLivery, generation := 0, arrived := d.q,
    detail := 0, due := none, phase := .waiting, aux := [], auth := none }

/-- The module that has given a request its receive buffer: the idle time of its session starts again (R59), and the control reserve is
judged (R425). -/
def Dev.entered (d : Dev) (op : Nat) (p : Packet) : Dev :=
  let e := d.touchSession (d.sessionAt p.src)
  ({ e with cp := { e.cp with cmds := e.cp.cmds ++ [d.requestOf op p], nextId := e.cp.nextId + 1 } } : Dev).noteControl

/-- The command as checks 3 to 12 see it in livery `n`: with that livery's generation, and its parameter area padded to PLEN. -/
def Dev.checkedCmd (d : Dev) (op : Nat) (p : Packet) (n : Nat) : Cmd :=
  { d.requestOf op p with
    livery := n, generation := (d.entered op p).generation n, pkt := { p with params := fit (8 * p.plen) p.params } }

/-- The module that has counted a request for its livery (R73 step 8, R228). -/
def Dev.checkedDev (d : Dev) (op : Nat) (p : Packet) (n : Nat) : Dev :=
  ((d.entered op p).onCmd (d.requestOf op p).id fun _ => d.checkedCmd op p n).countLivery n 0 1

/-- The module in which the work of a command begins: the command runs, and a sleeping shelf wakes for one that needs a drive (R206). -/
def Dev.beginning (d : Dev) (c : Cmd) : Dev :=
  let d := d.onCmd c.id fun _ => { c with phase := .running }
  if needsDrive c.op then d.wakeShelf else d

/-- A request passes checks 1 to 9 of R73 in livery `n`: its transport is served, it is whole and sound, no duplicate, its turn has come,
its version, opcode and length are served by this module in its role, its identifier maps to the livery that it names, and that livery's
generation and state admit it. -/
structure Passes (s : State) (op : Nat) (p : Packet) (n : Nat) : Prop where
  wf : p.wf = true
  taken : s.takesFrom p.src.transport = true
  whole : packetFits p = true
  sound : p.crc.toNat = packetCrc op p
  fresh : ((s.sessionAt p.src).bind fun x => (s.touchSession (s.sessionAt p.src)).duplicateOf x p) = none
  turn : (s.entered op p).mustWait (s.requestOf op p) = false
  served : (s.entered op p).served op = true
  mapped : (s.entered op p).liveryOf p = .ok n
  format : let e := (s.entered op p).onCmd (s.requestOf op p).id fun _ => s.checkedCmd op p n
    e.earlyFault op { p with params := fit (8 * p.plen) p.params } ((s.requestOf op p).session.bind e.session?) = none
  admitted : (s.checkedDev op p n).stateFault op p.generation n = none

/-- A request is taken up at once: it passes every check of R73, needs no authentication, names no due time, and finds the slot that it
needs. `d` is the module in which its work begins, and `c` its command. -/
structure Started (s : State) (op : Nat) (p : Packet) (n : Nat) (d : Dev) (c : Cmd) : Prop extends Passes s op p n where
  plain : (s.checkedDev op p n).authRequired n = false
  now : hasDue p = false
  room : (s.checkedDev op p n).limitFault (s.checkedCmd op p n) false = none
  module : d = (s.checkedDev op p n).beginning (s.checkedCmd op p n)
  command : c = { s.checkedCmd op p n with phase := .running }

/-! ## A capsule that a controller takes up (R183, R191) -/

/-- A capsule finds its queue and its controller: `d` is the module that has taken it, `q` its queue, and `k` its controller. -/
structure Taken (s : State) (c : Capsule) (d : Dev) (q : NvmeQueue) (k : Controller) : Prop where
  wf : c.wf = true
  taken : ∃ x, s.nvmeQp? c.qp = some x ∧ d = (s.firstPacket x).countHqe 0 1
  queue : d.nvmeQueue? c.qp = some q
  controller : d.controllerOf c.qp = some k

/-! ## A RoCE packet that its QP takes up in order (R150 to R160, R183) -/

/-- A RoCE packet reaches its QP: the ports are open, the engine is enabled, the packet is sound, the QP is in use and resident with nothing parked,
and its livery admits it. `d` is the module that has taken it, and `q` the QP then. -/
structure Reaches (s : State) (h : RoceHdr) (d : Dev) (q : Qp) : Prop where
  wf : h.wf = true
  ports : s.portsOpen = true
  enabled : s.flag Reg.raeCtl 0 = true
  sound : h.icrcOk = true
  found : ∃ x, (s.countRae 0 1).qp? h.qp = some x ∧ x.state ≠ .error ∧ (x.freezeDrop && x.admitted.isNone) = false ∧ x.resident = true ∧
    x.parked = [] ∧ (∀ l, x.livery.bind (s.countRae 0 1).livery? = some l → l.state = .service ∨ l.state = .freezing) ∧
    d = ((s.countRae 0 1).noteCe x h.ce).firstPacket x ∧ q = (d.qp? h.qp).getD x

/-- It reaches its QP in order: its PSN is the one expected. -/
structure InOrder (s : State) (h : RoceHdr) (d : Dev) (q : Qp) : Prop extends Reaches s h d q where
  turn : psnAhead q.expected h.psn = 0

/-- The module in which the QP expects the PSN after a packet that takes `n` of them. -/
def Dev.passed (d : Dev) (q : Qp) (psn n : Nat) : Dev :=
  d.onQp q.num fun x => { x with expected := (psn + n) % 2 ^ 24, nakSent := false, usedAt := d.q }

/-! ## What raising an event may change (R441 to R445, R466, R469) -/

/-- `d` with what raising events may change taken from `e`: registers, counters and their updates on the way, the event sequence, the queues of the
sessions, pending vectors, queued Waybill records, and what has left the module. -/
def Dev.signalled (d e : Dev) : Dev :=
  { d with
    out := e.out, regs := e.regs, counters := e.counters, evtSeq := e.evtSeq
    cp := { d.cp with sessions := e.cp.sessions }
    pmc := { d.pmc with inflight := e.pmc.inflight }
    wbl := { d.wbl with seq := e.wbl.seq, queue := e.wbl.queue }
    mep := { d.mep with pba := e.mep.pba } }

end Machine

end Sys2Proof
end

