-- ==== Sys2Proof/Certificates/Slice0/Obligations.lean ====
section
/-! DEFINITION. The statements for the provers: what the commands do and leave, what a step is, what reset leaves, and what the machine's
arithmetic, bytes and memories keep. -/

section
open Sys2Proof Sys2Proof.Machine

/-! ## Requests of the Sundef Command Protocol: the work that each opcode does (R77) -/

/-- Group 0x00: NOP, SESSION_OPEN, SESSION_CLOSE, VERSION_QUERY, STEP_CONTINUE, STEP_RELEASE, STEP_CANCEL and LONGOP_QUERY. -/
def Obligations.SessionGroupCompletes : Prop :=
  (∀ s p n d c, Started s 0x0000 p n d c → exec (.nop p) s = .next (s.serves (d.done c []))) ∧
  (∀ s p n d c k, Started s 0x0001 p n d c →
    let v := min (c.par 1 1) 0x12
    let e := match d.sessionAt c.pkt.src with | some x => d.closeSession x.id | none => d
    max (c.par 0 1) 0x10 ≤ v → (d.sessionAt c.pkt.src).isSome ∨ d.cp.sessions.length < 4096 →
    freeKey Session.id e.cp.sessions 4096 0 = some k →
    let idle := e.idleAsked c
    let x : Session :=
      { id := k, src := c.pkt.src, version := BitVec.ofNat 8 v, idleMs := idle.1,
        idleAt := if idle.1 = 0 then none else some (e.q + quantaMs idle.1), subs := 0, drops := 0, sent := 0, queue := [], cache := [] }
    let f := { e with cp := { e.cp with sessions := e.cp.sessions ++ [x], peak := max e.cp.peak (e.cp.sessions.length + 1) } }
    exec (.sessionOpen p) s = .next (s.serves (f.doneClamped { c with session := some k }
      (leBytes 1 v ++ leBytes 1 0x12 ++ leBytes 2 k ++ leBytes 4 idle.1) idle.2))) ∧
  (∀ s p n d c k, Started s 0x0002 p n d c → c.session = some k →
    exec (.sessionClose p) s = .next (s.serves ((d.done c []).closeSession k))) ∧
  (∀ s p n d c, Started s 0x0003 p n d c →
    exec (.versionQuery p) s = .next (s.serves (d.done c
      ((List.range 10).flatMap fun i => leBytes 1 i ++ (d.versionEntry i).flatMap (leBytes 1) ++ leBytes 4 0)))) ∧
  (∀ s p n d c l, Started s 0x0004 p n d c → d.byCookie c = .ok l → l.mode = .stepped →
    let e := d.onCmd c.id fun c => { c with phase := .running, aux := [l.slot, 1] }
    exec (.stepContinue p) s = .next (s.serves ((e.onLong l.slot fun l => { l with holdAt := none }).runStep l.slot))) ∧
  (∀ s p n d c l, Started s 0x0005 p n d c → d.byCookie c = .ok l → l.mode = .stepped →
    exec (.stepRelease p) s = .next (s.serves ((d.onLong l.slot fun l => { l with mode := .background, holdAt := none }).finishWith c 4 0 [] []))) ∧
  (∀ s p n d c l, Started s 0x0006 p n d c → d.byCookie c = .ok l → ((opInfo l.op).any OpInfo.cancel) = true →
    let e := d.onCmd c.id fun c => { c with phase := .running, aux := [l.slot, if l.mode = .stepped then 1 else 2] }
    exec (.stepCancel p) s = .next (s.serves ((e.onLong l.slot fun l => { l with holdAt := none }).cancelLong l))) ∧
  (∀ s p n d c, Started s 0x0007 p n d c →
    exec (.longopQuery p) s = .next (s.serves (d.done c ((List.range 8).map fun k => Config.reportByte (0x500 + c.par 0 1) k))))

/-- Group 0x01: namespaces and takes are created, queried, formatted, opened, closed, exported and deleted. -/
def Obligations.ObjectGroupCompletes : Prop :=
  (∀ s p n d c k, Started s 0x0100 p n d c →
    let v := clampParam c.pkt.params 0 0 64 1 (2 ^ 52 - 1)
    let lb := max d.geo.lb 1
    let stripes := ceilDiv v.1 lb
    d.objectFault stripes = none → d.freeObject = some k →
    exec (.nsCreate p) s = .next (s.serves (d.changeAll c
      [.objCreate { num := k, kind := .ns, livery := c.livery, blocks := stripes * lb, length := 0, accepted := 0, reserved := stripes,
                    frames := [], ordinal := 0,
                    chunks := if stripes = 0 then [] else [(freeChunks d.allRuns (chunksFor stripes), chunksFor stripes)] }]
      (leBytes 2 k ++ leBytes 6 0) (reclamp c.pkt.params 0 64 v.2 3 (stripes * lb))))) ∧
  (∀ s p n d c k, Started s 0x0104 p n d c →
    let v := clampParam c.pkt.params 0 0 64 0 (2 ^ 48)
    let stripes := ceilDiv v.1 (4096 * max d.geo.lb 1)
    d.objectFault stripes = none → d.freeObject = some k →
    exec (.takeOpen p) s = .next (s.serves (d.changeAll c
      [.objCreate { num := k, kind := .openTake, livery := c.livery, blocks := 0, length := 0, accepted := 0, reserved := stripes,
                    frames := [], ordinal := 0,
                    chunks := if stripes = 0 then [] else [(freeChunks d.allRuns (chunksFor stripes), chunksFor stripes)] }]
      (leBytes 2 k ++ leBytes 6 0) v.2))) ∧
  (∀ s p n d c o, Started s 0x0101 p n d c → d.objOf c = some o → o.kind = .ns ∨ o.kind = .exported →
    exec (.nsDelete p) s = .next (s.serves (d.acceptLong c o.num [] []))) ∧
  (∀ s p n d c o, Started s 0x0107 p n d c → d.objOf c = some o → o.kind = .openTake ∨ o.kind = .closedTake →
    exec (.takeDelete p) s = .next (s.serves (d.acceptLong c o.num [] []))) ∧
  (∀ s p n d c o, Started s 0x0103 p n d c → d.objOf c = some o → o.kind = .ns →
    exec (.nsFormat p) s = .next (s.serves (d.acceptLong c o.num [] []))) ∧
  (∀ s p n d c o, Started s 0x0102 p n d c → d.objOf c = some o →
    exec (.nsQuery p) s = .next (s.serves (d.done c (leBytes 2 o.num ++ leBytes 1 o.kind.code ++ leBytes 1 o.livery ++ leBytes 4 0
      ++ leBytes 8 o.size ++ leBytes 8 o.length ++ leBytes 8 o.reserved ++ leBytes 4 o.frames.length ++ leBytes 12 0)))) ∧
  (∀ s p n d c o, Started s 0x0108 p n d c → d.objOf c = some o → o.isTake = true →
    exec (.takeQuery p) s = .next (s.serves (d.done c (leBytes 2 o.num ++ leBytes 1 o.kind.code ++ leBytes 1 o.livery ++ leBytes 4 0
      ++ leBytes 8 o.size ++ leBytes 8 o.length ++ leBytes 8 o.reserved ++ leBytes 4 o.frames.length ++ leBytes 12 0)))) ∧
  (∀ s p n d c o, Started s 0x0105 p n d c → d.objOf c = some o → o.kind = .openTake →
    exec (.takeClose p) s = .next (s.serves (((d.onCmd c.id fun c => { c with phase := .running, aux := [2, o.num] }).closeTail o.num).change
      (.objKind o.num .closedTake o.blocks) none))) ∧
  (∀ s p n d c o, Started s 0x0106 p n d c → d.objOf c = some o → o.kind = .closedTake →
    exec (.takeExport p) s = .next (s.serves (d.changeAll c [.objKind o.num .exported (ceilDiv o.length 4096)]
      (leBytes 4 (o.num + 1) ++ leBytes 4 0) [])))

/-- Group 0x02: a COMMIT whose checks pass is accepted when its blocks have descriptors, a FLUSH whose blocks have descriptors names them
and closes every open descriptor of its livery under one job, a READ_TO starts its read, and FRAME_INDEX_QUERY answers up to 500 frames. -/
def Obligations.MediaGroupCompletes : Prop :=
  (∀ s p n d c r, Started s 0x0200 p n d c → d.checkCommit c = .ok r → d.descRoom r.obj.num (d.commitBlocks r) none = true →
    exec (.commit p) s = .next (s.serves ((d.endWait 5 c.id).acceptCommit c r))) ∧
  (∀ s p n d c, Started s 0x0201 p n d c →
    let work := d.flushBlocks c.livery
    (work.all fun w => d.descRoom w.1 w.2 none) = true →
    let e := d.endWait 5 c.id
    let j := e.newJob
      { id := 0, owner := .packet c.id, object := 4096, livery := c.livery, accepted := e.q, due := c.due, dueFlag := hasDue c.pkt,
        takeOrdinal := 0, first := 0, lengthAfter := 0, frame := none, waits := [], pending := [], counts := [0, 0, 0, 0], durable := none,
        failed := none, isFlush := true, after := (e.nib.jobs.filter fun j => j.livery == c.livery).map WriteJob.id }
    let m := j.1.forEach work fun d w => ((d.clearMarks w.2).nameAll j.2 w.1 c.livery w.2 none).1
    let open_ := m.nib.descs.filter fun x => x.state == .opened && x.livery == c.livery
    let f := (m.onCmd c.id fun c => { c with phase := .running, aux := [(work.map fun w => w.2.length).sum, open_.length] }).forEach open_ fun d x =>
      (d.onDesc x.idx fun y => { y with jobs := if j.2 ∈ y.jobs then y.jobs else y.jobs ++ [j.2] }).onJob j.2 fun w =>
        { w with waits := if x.idx ∈ w.waits then w.waits else w.waits ++ [x.idx]
                 pending := if x.idx ∈ w.pending then w.pending else w.pending ++ [x.idx] }
    exec (.flush p) s = .next (s.serves (f.forEach open_ fun d x => d.closeDesc x.idx))) ∧
  (∀ s p n d c o x, Started s 0x0202 p n d c → d.objOf c = some o →
    let mode := if 2 < c.par 2 1 then 0 else c.par 2 1
    (mode ≠ 0 → o.isTake = true) → d.rqOpen (c.par 4 4) c.livery = true → readExtent o c.pkt.params mode = .ok x → x.2.1 ≠ 0 →
    let first := x.1 / 4096
    let clamps := replaceParam c.pkt.params 2 0 8 3 mode ++ reservedParam c.pkt.params 3 1 7 ++ x.2.2
    exec (.readTo p) s = .next (s.serves ((d.onCmd c.id fun c => { c with phase := .running, aux := clampsToNats clamps }).startRead
      (.packet c.id) c.livery o.num mode first (ceilDiv (x.1 + x.2.1) 4096 - first) x.1 x.2.1 (c.par 4 4) (c.par 24 8) (c.par 32 4)
      (bit (c.par 3 1) 0) d.q))) ∧
  (∀ s p n d c o, Started s 0x0203 p n d c → d.objOf c = some o → o.isTake = true →
    let i := c.par 4 4
    let part := (o.frames.drop i).take 500
    exec (.frameIndexQuery p) s = .next (s.serves (d.done c (leBytes 4 o.frames.length
      ++ leBytes 4 (if i + part.length < o.frames.length then i + part.length else 0xFFFFFFFF)
      ++ (part.map fun f => leBytes 8 f.1 ++ leBytes 8 f.2).flatten))))

/-- Group 0x03: Inkwells are registered, revoked and queried, and requester queues opened, destroyed and flushed. -/
def Obligations.AccessGroupCompletes : Prop :=
  (∀ s p n d c o k e, Started s 0x0300 p n d c →
    let v := clampParam c.pkt.params 0 0 64 65536 (2 ^ 32)
    let size := ceilDiv v.1 65536 * 65536
    let t := c.par 12 4
    d.inkTarget c.livery t = some o → (bit t 31 = true → c.par 16 8 < o.blocks) → size / 65536 ≤ d.freePages.length → d.takeInk = some (k, e) →
    let x : Inkwell :=
      { index := k, livery := c.livery, pages := d.freePages.take (size / 65536), rights := c.par 8 1 % 4, isNs := bit t 31,
        target := t % 2 ^ 31, firstBlock := c.par 16 8, lastImm := 0, immCount := 0, revoking := none, revokeCmd := none, placedAfter := 0,
        cutCount := 0, reissue := false }
    let f := (e.onRae fun r => { r with inks := r.inks ++ [x] }).noteSpace
    exec (.inkRegister p) s = .next (s.serves (f.doneClamped c (leBytes 4 (k * 256 + f.tagOf k) ++ leBytes 4 0)
      (reclamp c.pkt.params 0 64 v.2 3 size ++ reservedParam c.pkt.params 8 2 6)))) ∧
  (∀ s p n d c k, Started s 0x0301 p n d c → d.inkAt (c.par 0 4) = some k → k.livery = c.livery → k.revoking = none →
    let cut := d.q + quantaMs (max 1 (d.fld Reg.inkRevokeWait 0 16))
    let e := (d.advanceTag k.index).onRae fun r =>
      { r with qps := r.qps.map fun q => match q.admitted with
        | some a => if a.ink = k.index then { q with admitted := some { a with cutAt := some cut } } else q
        | none => q }
    let f := e.onCmd c.id fun c => { c with phase := .running, aux := clampsToNats (reservedParam c.pkt.params 4 1 7) }
    exec (.inkRevoke p) s = .next (s.serves ((f.onInk k.index fun k =>
      { k with revoking := some (f.q, cut), revokeCmd := some c.id, placedAfter := 0, cutCount := 0, reissue := bit (c.par 4 1) 0 }).revokeProgress k.index))) ∧
  (∀ s p n d c k, Started s 0x0302 p n d c → d.inkOf (c.par 0 3) = some k → k.livery = c.livery →
    exec (.inkQuery p) s = .next (s.serves (d.done c (leBytes 4 (k.index * 256 + d.tagOf k.index) ++ leBytes 1 k.rights
      ++ leBytes 1 (if k.revoking.isSome then 2 else 1) ++ leBytes 2 0 ++ leBytes 8 k.size ++ leBytes 4 (k.target + b2n k.isNs * 2 ^ 31)
      ++ leBytes 4 k.lastImm.toNat ++ leBytes 8 k.immCount)))) ∧
  (∀ s p n d c q, Started s 0x0303 p n d c → c.par 0 1 = 0 →
    (d.qp? (c.par 4 4)).filter (fun q => !q.nvme && q.livery == some c.livery && q.state == .ready && q.rq.isNone) = some q →
    d.rqCount < 16384 →
    let pp := c.pkt.params
    let kind := if 1 < c.par 1 1 then 0 else c.par 1 1
    let depth := clampParam pp 2 0 8 4 12
    let prio := clampParam pp 3 0 8 0 7
    exec (.rqCreate p) s = .next (s.serves ((d.attachRq q.num kind depth.1 prio.1 false).doneClamped c (leBytes 4 q.num ++ leBytes 4 0)
      (replaceParam pp 0 0 8 3 0 ++ replaceParam pp 1 0 8 3 kind ++ depth.2 ++ prio.2 ++ [] ++ reservedParam pp 10 1 7)))) ∧
  (∀ s p n d c q r, Started s 0x0304 p n d c → d.rqOf c = some q → q.rq = some r →
    let e := (d.endRq q.num 4).onQp q.num fun x => { x with rq := none, closeAfter := x.closeAfter || r.active }
    exec (.rqDestroy p) s = .next (s.serves ((if r.active then e.emit (.cm q.num .dreq) else e).done c []))) ∧
  (∀ s p n d c q, Started s 0x0305 p n d c → d.rqOf c = some q → d.rqRoom q.num = true →
    exec (.rqFlush p) s = .next (s.serves ((d.onCmd c.id fun c => { c with phase := .running }).postFlush q.num none (some c.id))))

/-- Group 0x04: the array is created, queried and checkpointed; members are queried, failed and replaced; lost stripes are listed. -/
def Obligations.ArrayGroupCompletes : Prop :=
  (∀ s p n d c, Started s 0x0400 p n d c →
    let slots := createSlots c.pkt.params
    let g := arrayGeometry c.pkt.params slots.length (d.smallest slots)
    (d.lay.geo.isSome = true → bit (c.par 11 1) 0 = true) → (∀ k ∈ slots, (d.slotAt k).usable = true) → g.1.usable = true →
    let e := if g.2.any fun e => e.byte == 9 && e.reason == 6 then d.raise 0x161 else d
    exec (.arrayCreate p) s = .next (s.serves (e.acceptLong c 0 (g.2 ++ reservedParam c.pkt.params 11 1 7) []))) ∧
  (∀ s p n d c, Started s 0x0401 p n d c →
    exec (.arrayQuery p) s = .next (s.serves (d.done c (leBytes 1 d.lay.state ++ leBytes 1 d.geo.d ++ leBytes 1 d.geo.sc ++ leBytes 1 d.geo.s
      ++ leBytes 1 d.geo.n ++ leBytes 3 0 ++ leBytes 8 d.geo.seed ++ leBytes 16 d.geo.identity ++ leBytes 8 d.geo.u ++ leBytes 8 d.geo.p
      ++ leBytes 8 d.geo.l ++ leBytes 8 d.stripesReserved)))) ∧
  (∀ s p n d c, Started s 0x0402 p n d c → c.par 0 1 < d.members →
    let x := d.slotAt (d.memberSlot (c.par 0 1))
    exec (.memberQuery p) s = .next (s.serves (d.done c (leBytes 1 (d.memberSlot (c.par 0 1)) ++ leBytes 1 (d.ordinal (c.par 0 1)) ++ leBytes 6 0
      ++ leBytes 8 (if x.present then x.capacity else 0))))) ∧
  (∀ s p n d c, Started s 0x0403 p n d c → exec (.mapCheckpoint p) s = .next (s.serves (d.acceptLong c 0 [] []))) ∧
  (∀ s p n d c, Started s 0x0404 p n d c → d.isLive (c.par 0 1) = true → d.rly.triggers.contains (c.par 0 1) = false →
    (2 ≤ d.workMembers → bit (c.par 1 1) 0 = true) →
    let e := (d.onCmd c.id fun c => { c with phase := .running }).failTrigger (c.par 0 1) (some c.id)
    let slot := e.memberSlot (c.par 0 1)
    exec (.memberFail p) s = .next (s.serves
      (if e.rly.triggers.contains (c.par 0 1) && e.escalating slot then e.escFails slot else e))) ∧
  (∀ s p n d c, Started s 0x0405 p n d c → c.par 0 1 < d.members → d.memberState (c.par 0 1) = 1 →
    (∀ j ∈ d.rly.jobs, j.member ≠ c.par 0 1) → c.par 1 1 < 48 → (d.slotAt (c.par 1 1)).usable = true →
    d.geo.u * d.geo.b ≤ (d.slotAt (c.par 1 1)).capacity → d.memberAt (c.par 1 1) = none →
    exec (.memberReplace p) s = .next (s.serves (((d.onCmd c.id fun c => { c with phase := .running }).onRly fun r =>
      { r with jobs := r.jobs ++ [⟨.replace, c.par 0 1, c.par 1 1, 0, [], some c.id⟩] }).labelProgress))) ∧
  (∀ s p n d c, Started s 0x0406 p n d c →
    let i := c.par 0 8
    let part := (d.lay.lost.drop i).take 1000
    exec (.lostStripeQuery p) s = .next (s.serves (d.done c (leBytes 4 d.lay.lost.length
      ++ leBytes 4 (if i + part.length < d.lay.lost.length then i + part.length else 0xFFFFFFFF)
      ++ (part.map fun e => leBytes 8 (e.1 + e.2 * 2 ^ 36)).flatten))))

/-- Group 0x05: the patrol and the rebuild are configured, passed over a range and queried, and a returned member is copied back to. -/
def Obligations.PatrolRebuildGroupCompletes : Prop :=
  (∀ s p n d c, Started s 0x0500 p n d c →
    let v := clampParam c.pkt.params 0 0 16 1 65535
    exec (.otrConfigure p) s = .next (s.serves (((d.setFld Reg.otrRate 0 16 v.1).setFld Reg.otrCtl 0 3 (c.par 2 1 % 8)).doneClamped c []
      (v.2 ++ reservedParam c.pkt.params 2 3 5)))) ∧
  (∀ s p n d c, Started s 0x0501 p n d c → c.par 0 8 < d.geo.p →
    let v := clampParam c.pkt.params 8 0 64 1 (d.geo.p - c.par 0 8)
    exec (.otrPass p) s = .next (s.serves (d.acceptLong c 0 v.2 [c.par 0 8, c.par 0 8 + v.1]))) ∧
  (∀ s p n d c, Started s 0x0502 p n d c →
    let i := c.par 0 8
    let part := (d.otr.suspects.drop i).take 300
    exec (.otrSuspectQuery p) s = .next (s.serves (d.done c (leBytes 4 d.otr.suspects.length
      ++ leBytes 4 (if i + part.length < d.otr.suspects.length then i + part.length else 0xFFFFFFFF)
      ++ (part.map fun x => leBytes 8 (x.psi + x.object * 2 ^ 36) ++ leBytes 8 (x.lstripe + x.reason * 2 ^ 48) ++ leBytes 8 x.rts).flatten)))) ∧
  (∀ s p n d c, Started s 0x0503 p n d c →
    let rate := clampParam c.pkt.params 0 0 16 1 400
    let up := clampParam c.pkt.params 2 0 16 1 400
    let up' := if up.1 < rate.1 then (rate.1, replaceParam c.pkt.params 2 0 16 5 rate.1) else up
    exec (.rlyConfigure p) s = .next (s.serves (((d.relayTick.setRaw Reg.rlyBudget (rate.1 + up'.1 * 2 ^ 16)).setFld Reg.rlyCtl 0 2
      (c.par 4 1 % 4)).doneClamped c [] (rate.2 ++ up'.2 ++ reservedParam c.pkt.params 4 2 6)))) ∧
  (∀ s p n d c, Started s 0x0504 p n d c →
    exec (.rlyQuery p) s = .next (s.serves (d.done c (leBytes 1 d.rly.phase ++ leBytes 1 d.rly.ordinal ++ leBytes 1 (b2n d.rly.raised)
      ++ leBytes 1 d.workMembers ++ leBytes 4 0 ++ leBytes 8 (if d.rly.phase = 1 then d.remirrorLow else d.rly.cursor) ++ leBytes 8 d.periods
      ++ leBytes 8 ((List.range d.members).map d.unbuiltOf).sum ++ leBytes 4 d.lay.lost.length ++ leBytes 4 0 ++ leBytes 8 d.rly.declaredAt)))) ∧
  (∀ s p n d c, Started s 0x0505 p n d c → c.par 0 8 < d.periods →
    let v := clampParam c.pkt.params 8 0 64 1 (d.periods - c.par 0 8)
    exec (.rlyPass p) s = .next (s.serves (d.acceptLong c 0 v.2 [c.par 0 8, c.par 0 8 + v.1]))) ∧
  (∀ s p n d c, Started s 0x0506 p n d c → c.par 0 1 < d.members → d.memberState (c.par 0 1) = 2 →
    exec (.rlyCopyback p) s = .next (s.serves (d.acceptLong c 0 [] [c.par 0 1])))

/-- Group 0x06: liveries are created, configured, mapped, reset, thawed and queried at once, and deleted, frozen, saved and restored as long
operations. -/
def Obligations.LiveryGroupCompletes : Prop :=
  (∀ s p n d c, Started s 0x0600 p n d c → d.livery? c.target = none →
    exec (.lvyCreate p) s = .next (s.serves (d.changeAll c [.liveryCreate c.target 1] (leBytes 2 1 ++ leBytes 6 0) []))) ∧
  (∀ s p n d c, Started s 0x0601 p n d c → c.target ≠ 0 → (d.livery? c.target).isSome = true →
    ((d.lay.objects.any fun o => o.livery == c.target) = true → bit (c.par 1 1) 0 = true) →
    exec (.lvyDelete p) s = .next (s.serves (d.acceptLong c c.target (reservedParam c.pkt.params 1 1 7) []))) ∧
  (∀ s p n d c, Started s 0x0602 p n d c → (d.livery? c.target).isSome = true →
    let pp := c.pkt.params
    let w := clampParam pp 2 0 16 1 1023
    let pf := clampParam pp 4 0 16 0 4095
    let pc := clampParam pp 6 0 16 0 (4096 - pf.1)
    let q := d.nqnParam c.target pp
    exec (.lvyConfigure p) s = .next (s.serves (d.changeAll c
      ([.liveryConfig c.target pf.1 pc.1 (c.par 8 8) w.1, .liverySwitches c.target (bit (c.par 1 1) 0) (bit (c.par 1 1) 1)]
        ++ (match q.1 with | some x => [.liveryNqn c.target x] | none => []))
      [] (reservedParam pp 1 2 6 ++ w.2 ++ pf.2 ++ pc.2 ++ q.2)))) ∧
  (∀ s p n d c, Started s 0x0603 p n d c →
    let pp := c.pkt.params
    let i := clampParam pp 0 0 16 0 1023
    let k := clampParam pp 2 0 16 1 (min 1019 (1024 - i.1))
    let change (j : Nat) : MetaChange :=
      .liveryMap (i.1 + j) (clampParam pp (8 + 8 * j) 0 24 0 0xFFFFF).1 (clampParam pp (8 + 8 * j + 3) 0 24 0 0xFFFFF).1 (c.par (8 + 8 * j + 6) 1)
        (bit (c.par (8 + 8 * j + 7) 1) 0)
    let report (j : Nat) : List ClampEntry :=
      (clampParam pp (8 + 8 * j) 0 24 0 0xFFFFF).2 ++ (clampParam pp (8 + 8 * j + 3) 0 24 0 0xFFFFF).2 ++ reservedParam pp (8 + 8 * j + 7) 1 7
    exec (.lvyMapPid p) s = .next (s.serves (d.changeAll c ((List.range k.1).map change) []
      (i.2 ++ k.2 ++ (List.range k.1).flatMap report)))) ∧
  (∀ s p n d c, Started s 0x0604 p n d c → (d.livery? c.target).isSome = true →
    let g := nextGeneration (d.generation c.target)
    let e := d.clearLivery c.target
    let f := (if d.liveryState c.target = 6 then e else e.setLivery c.target .service).raiseL 0x152 (some c.target)
    exec (.lvyReset p) s = .next (s.serves (f.changeAll c [.liveryGen c.target g] (leBytes 2 g ++ leBytes 6 0) []))) ∧
  (∀ s p n d c, Started s 0x0605 p n d c →
    (d.liveryState c.target = 1 ∨ d.liveryState c.target = 2 → exec (.lvyFreeze p) s = .next (s.serves (d.acceptLong c c.target [] []))) ∧
    (d.liveryState c.target = 3 ∨ d.liveryState c.target = 4 → exec (.lvyFreeze p) s = .next (s.serves (d.done c [])))) ∧
  (∀ s p n d c, Started s 0x0606 p n d c → d.liveryState c.target = 3 →
    let dst := if 2 < c.par 1 1 then 0 else c.par 1 1
    let buf := clampParam c.pkt.params 2 0 8 0 3
    (dst = 2 → d.rqOpen (c.par 4 4) c.livery = true) → (dst ≠ 2 → buf.1 ∉ d.lvy.busyBuffers) →
    exec (.lvySave p) s = .next (s.serves (d.acceptLong c c.target (replaceParam c.pkt.params 1 0 8 3 dst ++ buf.2) []))) ∧
  (∀ s p n d c, Started s 0x0607 p n d c → (d.livery? c.target).isSome = true →
    exec (.lvyRestore p) s = .next (s.serves (d.acceptLong c c.target
      (replaceParam c.pkt.params 1 0 8 3 (if c.par 1 1 = 2 then 2 else 0) ++ (clampParam c.pkt.params 2 0 8 0 3).2) []))) ∧
  (∀ s p n d c, Started s 0x0608 p n d c →
    let thawed (e : Dev) : Dev := (((e.setLivery c.target .service).setFreezeDrop c.target false).raiseL 0x154 (some c.target)).done c []
    (d.liveryState c.target = 1 → exec (.lvyThaw p) s = .next (s.serves (d.done c []))) ∧
    (d.liveryState c.target = 2 → exec (.lvyThaw p) s = .next (s.serves (thawed (d.endEarly 0x0605 c.target)))) ∧
    (d.liveryState c.target = 3 → exec (.lvyThaw p) s = .next (s.serves (thawed d)))) ∧
  (∀ s p n d c, Started s 0x0609 p n d c → (d.livery? c.target).isSome = true →
    let hide := d.hidesCounters c c.target
    exec (.lvyQuery p) s = .next (s.serves (d.done c (leBytes 1 (d.liveryState c.target) ++ leBytes 1 (b2n !hide)
      ++ leBytes 2 (d.generation c.target) ++ leBytes 4 (d.qpsOf c.target).length
      ++ leBytes 4 (d.rae.inks.filter fun k => k.livery == c.target).length
      ++ leBytes 4 (d.hqe.controllers.filter fun k => k.livery == c.target).length
      ++ leBytes 16 0 ++ (List.range 16).flatMap fun i => leBytes 8 (if hide then 0 else d.ctr 0x24 c.target i)))))

/-- Group 0x07: Ruling answers where it stands, takes a configuration, loads the table, is pulsed in band and converts times. -/
def Obligations.RulingGroupCompletes : Prop :=
  (∀ s p n d c, Started s 0x0700 p n d c →
    exec (.rulQuery p) s = .next (s.serves (d.done c (leBytes 1 d.rul.state.code ++ leBytes 1 (d.rul.source.getD 3)
      ++ leBytes 1 (d.rul.epoch % 16) ++ leBytes 1 0 ++ leBytes 4 (d.rul.phaseErr % 2 ^ 32).toNat ++ leBytes 8 d.now)))) ∧
  (∀ s p n d c, Started s 0x0701 p n d c →
    let pp := c.pkt.params
    let g := clampGeometry (fieldAt pp 0 4) (fieldAt pp 4 4) (fieldAt pp 8 2)
    let e := if bit (fieldAt pp 11 1) 1 then (d.rulSet pp g).relock else d.rulSet pp g
    exec (.rulConfigure p) s = .next (s.serves (e.doneClamped c [] (rulConfigureReport pp g)))) ∧
  (∀ s p n d c, Started s 0x0702 p n d c →
    let pp := c.pkt.params
    let first := clampParam pp 0 0 8 0 63
    let count := clampParam pp 1 0 8 1 (64 - first.1)
    let entry (i : Nat) := loadEntry pp (8 + 8 * i)
    let clamps := first.2 ++ count.2 ++ reservedParam pp 2 2 6 ++ (List.range count.1).flatMap fun i => (entry i).2
    let e := if bit (fieldAt pp 2 1) 1 then d.copyTables else d
    let f := e.onRul fun r => r.setShadow ((List.range count.1).foldl (fun t i => sput bankDflt t (first.1 + i) (entry i).1) r.shadow)
    (bit (fieldAt pp 2 1) 0 = false → exec (.rulTableLoad p) s = .next (s.serves (f.doneClamped c [] clamps))) ∧
    (bit (fieldAt pp 2 1) 0 = true → exec (.rulTableLoad p) s =
      .next (s.serves (f.onCmd c.id fun c => { c with phase := .running, aux := clampsToNats clamps }).requestSwap))) ∧
  (∀ s p n d c, Started s 0x0703 p n d c → d.flag Reg.rulCtl 0 = true → d.rul.started = true →
    exec (.rulPulse p) s = .next (s.serves
      ((d.pulse (c.par 0 4) (c.arrived - ceilDiv (4 * (c.par 4 4 + d.raw Reg.rulInbandDly)) 5)).done c []))) ∧
  (∀ s p n d c r, Started s 0x0704 p n d c → d.toPresent (c.par 0 8) = some r →
    exec (.rulConvert p) s = .next (s.serves
      (d.done (if d.epochsBehind (c.par 0 8) = 0 then c else { c with detail := 0x0201 }) (leBytes 8 r))))

/-- Groups 0x08 and 0x09: check-value keys are loaded, cleared, given a successor and queried; failover is configured, queried and handed over. -/
def Obligations.KeyFailoverGroupsComplete : Prop :=
  (∀ s p n d c, Started s 0x0800 p n d c → c.par 0 1 < 64 → d.keyLoadFault (c.par 0 1) (c.par 4 4) (fit 32 (c.pkt.params.drop 16)) = none →
    let lim := clampParam c.pkt.params 8 0 64 1 (2 ^ 48)
    let key := fit 32 (c.pkt.params.drop 16)
    let e := d.loadKey (c.par 0 1) (c.par 1 1 % 2) (c.par 4 4) lim.1 key
    let f := if e.isActive && e.partnerUp then e.emit (.partnerKey (c.par 0 1) key (c.par 4 4) (c.par 1 1 % 2) lim.1) else e
    exec (.keyLoad p) s = .next (s.serves (f.doneClamped c (leBytes 4 (f.keySlot (c.par 0 1)).kcv ++ leBytes 4 0)
      (reservedParam c.pkt.params 1 1 7 ++ lim.2)))) ∧
  (∀ s p n d c, Started s 0x0801 p n d c → c.par 0 1 < 64 → (d.keySlot (c.par 0 1)).state ≠ 0 →
    let e := if d.isActive && d.partnerUp then d.emit (.partnerKeyClear (c.par 0 1)) else d
    exec (.keyClear p) s = .next (s.serves (((e.onCmd c.id fun c => { c with phase := .running }).onCve fun v =>
      { v with clears := v.clears ++ [(c.par 0 1, some c.id)] }).finishClears))) ∧
  (∀ s p n d c, Started s 0x0802 p n d c → c.par 0 1 < 64 → d.successorOk (c.par 0 1) (c.par 1 1) = true →
    exec (.keySuccessor p) s = .next (s.serves
      ((d.setKeySlot (c.par 0 1) { d.keySlot (c.par 0 1) with succ := c.par 1 1 }).done c []))) ∧
  (∀ s p n d c, Started s 0x0803 p n d c → c.par 0 1 < 64 →
    let k := d.keySlot (c.par 0 1)
    exec (.keyQuery p) s = .next (s.serves (d.done c ([BitVec.ofNat 8 k.state, BitVec.ofNat 8 k.role, BitVec.ofNat 8 k.succ, 0]
      ++ leBytes 4 k.salt ++ leBytes 8 k.usage ++ leBytes 8 k.limit ++ leBytes 4 k.kcv ++ leBytes 4 0)))) ∧
  (∀ s p n d c, Started s 0x0900 p n d c →
    let pp := c.pkt.params
    let a := clampParam pp 2 0 16 100 1000
    let b := clampParam pp 4 0 16 10 1000
    let h := clampParam pp 6 0 16 100 10000
    let r := clampParam pp 8 0 16 1 3600
    let w := clampParam pp 10 0 8 1 15
    let e := (d.setFld Reg.fovCtl 0 2 (c.par 0 1 % 4)).setFld Reg.fovTiming2 0 10 a.1
    let f := ((e.setFld Reg.fovTiming 0 16 b.1).setFld Reg.fovTiming 16 16 h.1).setFld Reg.fovTiming2 20 12 r.1
    exec (.fovConfigure p) s = .next (s.serves ((f.setFld Reg.fovTiming2 16 4 w.1).doneClamped c []
      (reservedParam pp 0 2 6 ++ a.2 ++ b.2 ++ h.2 ++ r.2 ++ w.2)))) ∧
  (∀ s p n d c, Started s 0x0901 p n d c →
    let f := d.fov
    let flags := b2n f.ptlAlive + 2 * b2n f.hblAlive + 4 * b2n f.degraded + 8 * b2n d.eligible + 16 * b2n d.pins.fenceOut + 32 * b2n f.pwrCut
      + 64 * b2n f.blocked
    exec (.fovQuery p) s = .next (s.serves (d.done c (leBytes 1 f.role.code ++ leBytes 1 f.partnerRole ++ leBytes 1 flags
      ++ leBytes 1 (b2n d.pins.slotIdStrap) ++ leBytes 4 (d.ctr 0x0D 0 0) ++ leBytes 8 f.roleRts ++ leBytes 4 f.lastUs ++ leBytes 12 0)))) ∧
  (∀ s p n d c, Started s 0x0902 p n d c → d.fov.role = .active → (∀ k ∈ (carriedList c.pkt.params).1, (d.livery? k).isSome = true) →
    d.handoverReady = true →
    exec (.fovHandover p) s = .next (s.serves ((d.acceptLong c 0 (carriedList c.pkt.params).2 []).onFov fun f =>
      { f with role := .handover, roleRts := d.now, carried := (carriedList c.pkt.params).1 })))

/-- Group 0x0A: event subscriptions and masks, performance counters, latency monitors and Waybill records. -/
def Obligations.MonitorGroupCompletes : Prop :=
  (∀ s p n d c k, Started s 0x0A00 p n d c → c.session = some k →
    let set := Nat.land (sourceSet c.pkt.params) listedSources
    let e := d.onSession k fun x => { x with subs := if bit (c.par 64 1) 0 then set else Nat.lor x.subs set }
    exec (.evtSubscribe p) s = .next (s.serves (e.doneClamped c
      (leBytes 2 (match e.session? k with | some x => setSize x.subs | none => 0) ++ leBytes 6 0)
      (reservedSources c.pkt.params ++ reservedParam c.pkt.params 64 1 7)))) ∧
  (∀ s p n d c k, Started s 0x0A01 p n d c → c.session = some k →
    let e := d.onSession k fun x => { x with subs := x.subs - Nat.land x.subs (sourceSet c.pkt.params) }
    exec (.evtUnsubscribe p) s = .next (s.serves (e.done c
      (leBytes 2 (match e.session? k with | some x => setSize x.subs | none => 0) ++ leBytes 6 0)))) ∧
  (∀ s p n d c, Started s 0x0A02 p n d c → c.par 0 2 ≤ 511 →
    let v := clampParam c.pkt.params 2 0 16 1 (512 - c.par 0 2)
    let m := c.par 4 1
    let e := d.forEach (List.range' (c.par 0 2) v.1) fun d x =>
      let d := ((d.maskSource Reg.evtMsixMask x (bit m 0)).maskSource Reg.evtAlertMask x (bit m 1)).maskSource Reg.evtPktMask x (bit m 2)
      if bit (c.par 5 1) 0 then d.clearPending (x / 32) (2 ^ (x % 32)) else d
    exec (.evtMask p) s = .next (s.serves (e.doneClamped c [] (v.2 ++ reservedParam c.pkt.params 4 3 5 ++ reservedParam c.pkt.params 5 1 7)))) ∧
  (∀ s p n d c, Started s 0x0A03 p n d c → c.par 0 2 ≤ 255 →
    let v := clampParam c.pkt.params 2 0 16 1 (256 - c.par 0 2)
    exec (.pmcConfigure p) s = .next (s.serves ((d.forEach (List.range v.1) fun d k => d.pmcEntry c (c.par 0 2 + k) (8 + 16 * k)).doneClamped c []
      (v.2 ++ (List.range v.1).flatMap fun k => pmcClamps c.pkt.params (8 + 16 * k))))) ∧
  (∀ s p n d c, Started s 0x0A04 p n d c →
    let b := c.par 0 1
    let e := if bit b 0 then d.pmcFreeze true else if bit b 1 then d.pmcFreeze false else d
    let f := if bit b 2 then e.pmcSnapshot else e
    exec (.pmcSnapshot p) s = .next (s.serves (f.doneClamped c (leBytes 8 (if bit b 2 then f.pmc.snapRts else 0))
      ((if bit b 0 && bit b 1 then replaceParam c.pkt.params 0 1 1 3 0 else []) ++ reservedParam c.pkt.params 0 3 5)))) ∧
  (∀ s p n d c, Started s 0x0A05 p n d c →
    let first := clampParam c.pkt.params 0 0 16 0 255
    let v := clampParam c.pkt.params 2 0 16 1 (256 - first.1)
    let shadow := bit (c.par 4 1) 0
    let e := d.pmcSync
    exec (.pmcQuery p) s = .next (s.serves (e.doneClamped c
      (leBytes 8 (if shadow then e.pmc.snapRts else e.now) ++ (List.range v.1).flatMap fun k => e.pmcReport c (first.1 + k) shadow)
      (first.2 ++ v.2 ++ reservedParam c.pkt.params 4 1 7)))) ∧
  (∀ s p n d c, Started s 0x0A06 p n d c →
    let first := clampParam c.pkt.params 0 0 8 0 63
    let v := clampParam c.pkt.params 1 0 8 1 (64 - first.1)
    exec (.lmonConfigure p) s = .next (s.serves ((d.forEach (List.range v.1) fun d k => d.lmonEntry c (first.1 + k) (8 + 8 * k)).doneClamped c []
      (first.2 ++ v.2 ++ (List.range v.1).flatMap fun k => lmonClamps c.pkt.params (8 + 8 * k))))) ∧
  (∀ s p n d c, Started s 0x0A07 p n d c → c.par 0 1 ≤ 63 →
    let w := d.raw (bank Reg.lmonSel (c.par 0 1))
    let gated := d.gatedFor c (bit w 17) (bits w 24 8)
    exec (.lmonQuery p) s = .next (s.serves (d.done c (leBytes 1 (bits w 0 5) ++ leBytes 1 (bits w 8 8) ++ leBytes 1 (b2n gated) ++ leBytes 1 0
      ++ (if gated then leBytes 164 0 else (d.monitor (c.par 0 1)).bytes ++ leBytes 8 d.now))))) ∧
  (∀ s p n d c, Started s 0x0A08 p n d c →
    let rs := d.wbl.readable
    let low := match rs with | r :: _ => r.seq | [] => c.par 0 8
    let from_ := rs.filter fun r => decide (max (c.par 0 8) low ≤ r.seq)
    exec (.wblQuery p) s = .next (s.serves (d.doneClamped c
      (leBytes 8 (match from_.drop 15 with | r :: _ => r.seq | [] => 2 ^ 64 - 1) ++ ((from_.take 15).map WblRecord.bytes).flatten)
      (if c.par 0 8 < low then [⟨0, 0, 64, 1, c.par 0 8, low⟩] else [])))) ∧
  (∀ s p n d c, Started s 0x0A09 p n d c → exec (.wblClear p) s = .next (s.serves (d.acceptLong c 0 [] [])))

/-- Groups 0x0B and 0x0C: register lists by packet, firmware banks, module reset and the shelf's power state. -/
def Obligations.RegisterModuleGroupsComplete : Prop :=
  (∀ s p n d c, Started s 0x0B00 p n d c →
    let k := clampParam c.pkt.params 0 0 16 1 2000
    let r := d.regAccesses 0x0B00 c.pkt.params 4 k.1
    badOffset c.pkt.params 4 k.1 = none → (r.1.cmd? c.id).isSome = true →
    exec (.regRead p) s = .next (s.serves (r.1.doneClamped c r.2 k.2))) ∧
  (∀ s p n d c, Started s 0x0B01 p n d c →
    let k := clampParam c.pkt.params 0 0 16 1 1000
    let r := d.regAccesses 0x0B01 c.pkt.params 8 k.1
    badOffset c.pkt.params 8 k.1 = none → (r.1.cmd? c.id).isSome = true →
    exec (.regWrite p) s = .next (s.serves (r.1.doneClamped c r.2 k.2))) ∧
  (∀ s p n d c, Started s 0x0B02 p n d c →
    let k := clampParam c.pkt.params 0 0 16 1 500
    let r := d.regAccesses 0x0B02 c.pkt.params 16 k.1
    badOffset c.pkt.params 16 k.1 = none → (r.1.cmd? c.id).isSome = true →
    exec (.regRmw p) s = .next (s.serves (r.1.doneClamped c r.2 k.2))) ∧
  (∀ s p n d c, Started s 0x0C00 p n d c →
    let k := d.clk
    exec (.fwQuery p) s = .next (s.serves (d.done c (leBytes 1 k.runningBank ++ leBytes 1 k.preferred
      ++ leBytes 1 (b2n k.trial + 2 * b2n k.fellBack) ++ leBytes 1 0 ++ leBytes 1 (k.bank 0).state ++ leBytes 1 (k.bank 1).state ++ leBytes 2 0
      ++ leBytes 1 (k.bank 0).version ++ leBytes 1 (k.bank 1).version ++ leBytes 6 0 ++ leBytes 8 (k.bank 0).sequence
      ++ leBytes 8 (k.bank 1).sequence)))) ∧
  (∀ s p n d c, Started s 0x0C01 p n d c →
    let b := clampParam c.pkt.params 0 0 8 0 3
    b.1 ∉ d.lvy.busyBuffers → 32 ≤ c.par 4 4 → c.par 4 4 ≤ 50331648 →
    exec (.fwUpdate p) s = .next (s.serves (d.acceptLong c 0 b.2 []))) ∧
  (∀ s p n d c, Started s 0x0C02 p n d c →
    let b := clampParam c.pkt.params 0 0 8 0 1
    (d.clk.bank b.1).state = 1 →
    exec (.fwActivate p) s = .next (s.serves ((d.onClk fun k =>
      { k with previous := k.runningBank, preferred := b.1, trial := bit (c.par 1 1) 0, trialRunning := false }).doneClamped c []
        (b.2 ++ reservedParam c.pkt.params 1 1 7)))) ∧
  (∀ s p n d c, Started s 0x0C03 p n d c → exec (.modReset p) s = .next (s.serves (d.done c []).commandReset)) ∧
  (∀ s p n d c, Started s 0x0C04 p n d c →
    let t := clampParam c.pkt.params 0 0 8 0 2
    let down := t.1 == 2 && d.relayWork
    let app := if down then 1 else t.1
    let e := if d.powerEntry.isSome then d.cancelEntry else d
    exec (.powerState p) s = .next (s.serves (e.acceptLong
      { c with pkt := { c.pkt with params := BitVec.ofNat 8 app :: c.pkt.params.drop 1 } } 0
      (if down then reclamp c.pkt.params 0 8 t.2 3 1 else t.2) [])))

/-! ## Register accesses (R14, R528 to R532) -/

/-- Registers of the ports, Turnpike and the shapers: a port applies its settings, a table entry is read or written, and a staged shaper or
policer waits for the next refill. -/
def Obligations.SwitchRegistersComplete : Prop :=
  (∀ s m k v, k < 12 → s.blockServed (0x10 + k) = true →
    exec (.ethApply m k v) s = .next (s.serves ((s.applyWrite (0x100000 + 0x10000 * k) (setBit v.toNat 4)).applyPort k))) ∧
  (∀ s m v, s.blockServed 0x1C = true →
    exec (.tpkTblRead m v) s = .next (s.serves (s.applyWrite Reg.tpkTblCmd (setBit (clearBit v.toNat 18) 19)).tpkTable)) ∧
  (∀ s m v, s.blockServed 0x1C = true →
    exec (.tpkTblWrite m v) s = .next (s.serves (s.applyWrite Reg.tpkTblCmd (setBit (setBit v.toNat 18) 19)).tpkTable)) ∧
  (∀ s m, s.blockServed 0x1E = true →
    exec (.tssShpCommit m) s = .next (s.serves (s.onTpk fun t => { t with shpPending := dropAt (·.1) (s.fld Reg.tssShpIdx 0 12) t.shpPending ++
      [(s.fld Reg.tssShpIdx 0 12, s.fld Reg.tssShpRate 0 20, s.fld Reg.tssShpHi 0 24, s.fld Reg.tssShpLo 0 24)] }))) ∧
  (∀ s m v, s.blockServed 0x1E = true →
    exec (.tssPolCommit m v) s = .next (s.serves (s.applyWrite Reg.tssPolCtl (setBit v.toNat 2)).commitPolicer))

/-- Registers of Ruling: a relock, the enable and the forced hold act in their order, the window banks are copied and swapped, and reading
RUL_NOW_LO keeps the high half of the present time for RUL_NOW_HI. -/
def Obligations.RulingRegistersComplete : Prop :=
  (∀ s m v, s.blockServed 0x04 = true →
    let w := setBit v.toNat 1
    let d := ((s.applyWrite Reg.rulCtl w).rulEnable (s.flag Reg.rulCtl 0) (bit w 0)).forceHold (s.flag Reg.rulCtl 3) (bit w 3)
    exec (.rulCtlRelock m v) s = .next (s.serves (if bit w 1 && bit w 0 then d.relock else d))) ∧
  (∀ s m v, s.blockServed 0x04 = true → bit v.toNat 1 = false →
    let d := ((s.applyWrite Reg.rulCtl v.toNat).rulEnable (s.flag Reg.rulCtl 0) (bit v.toNat 0)).forceHold (s.flag Reg.rulCtl 3) (bit v.toNat 3)
    exec (.rulCtlEn m v) s = .next (s.serves d) ∧ exec (.rulCtlForceHold m v) s = .next (s.serves d)) ∧
  (∀ s m, s.blockServed 0x04 = true → s.rul.swapAt = none →
    exec (.rulTblSwap m) s = .next (s.serves (s.onRul fun r => { r with swapAt := some s.nextFrame }))) ∧
  (∀ s m, s.blockServed 0x04 = true →
    exec (.rulTblCopy m) s = .next (s.serves (s.onRul fun r => r.setShadow r.active))) ∧
  (∀ s m, s.blockServed 0x04 = true →
    let d := s.setRaw (Reg.rulNowLo + 4) (s.now / 2 ^ 32)
    exec (.rulNowLoRead m) s = .next (s.serves
      (match m with | .endpoint => d.emit (.barData (leBytes 4 (s.now % 2 ^ 32)) false) | _ => d)))

/-- Registers of the layout, the drive ports and slot control: a strip is located, the drive controller is enabled, a port retrains or formats, and
the active module sets a slot's indicator and cycles, removes or gives its power. -/
def Obligations.DriveRegistersComplete : Prop :=
  (∀ s m v, s.blockServed 0x25 = true → exec (.layLocCmd m v) s = .next (s.serves (s.applyWrite Reg.layLocCmd v.toNat).locate)) ∧
  (∀ s m v, s.blockServed 0x2A = true → exec (.dpcCtlEn m v) s = .next (s.serves (s.applyWrite Reg.dpcCtl v.toNat))) ∧
  (∀ s m k, k < 48 → s.blockServed (0x2B + k / 4) = true →
    let off := Reg.dpqCtl + 0x10000 * (k / 4) + 0x10 * (k % 4)
    exec (.dpqRetrain m k) s = .next (s.serves (s.writePort off (setBit (s.raw off) 2))) ∧
    exec (.dpqFormat m k) s = .next (s.serves (s.writePort off (setBit (s.raw off) 3)))) ∧
  (∀ s m v, s.blockServed 0x37 = true → s.isActive = true →
    exec (.sltCmdAttn m v) s = .next (s.serves (s.setFld (bank Reg.sltCmd (min 47 (s.fld Reg.sltIdx 0 6))) 0 2 (v.toNat % 4)))) ∧
  (∀ s m, s.blockServed 0x37 = true → s.isActive = true →
    let k := min 47 (s.fld Reg.sltIdx 0 6)
    let attn := s.fld (bank Reg.sltCmd k) 0 2
    let d (b : Nat) : Dev := s.setFld (bank Reg.sltCmd k) 0 2 (setBit attn b)
    exec (.sltCmdCycle m) s = .next (s.serves
      ((((d 2).holdPort k).onSlot k fun x => { x with drive := if x.present then .initialising else .absent, escStep := 0, escAt := none }).powerOff k true)) ∧
    exec (.sltCmdOff m) s = .next (s.serves (((d 3).powerOff k false).slotFails k)) ∧
    exec (.sltCmdOn m) s = .next (s.serves ((d 4).powerOn k)))

/-- Registers of the check-value engine: staged keys are loaded and slots cleared, and a failed entropy source is started again. -/
def Obligations.KeyRegistersComplete : Prop :=
  (∀ s m, s.blockServed 0x0C = true → s.keyLoadFault (s.fld Reg.cveKeyIdx 0 6) (s.raw Reg.cveSalt) s.stagedKey = none →
    exec (.cveKeyLoad m) s = .next (s.serves ((s.loadKey (s.fld Reg.cveKeyIdx 0 6) (s.fld Reg.cveKeyCfg 0 1) (s.raw Reg.cveSalt)
      (clampNat 1 (2 ^ 48) (s.raw Reg.cveLimitLo + 2 ^ 32 * s.fld Reg.cveLimitHi 0 17)) s.stagedKey).onCve fun c => { c with keyFail := false, stage := [] }))) ∧
  (∀ s m, s.blockServed 0x0C = true → (s.keySlot (s.fld Reg.cveKeyIdx 0 6)).state ≠ 0 →
    exec (.cveKeyClear m) s = .next (s.serves ((s.onCve fun c =>
      { c with keyFail := false, clears := c.clears ++ [(s.fld Reg.cveKeyIdx 0 6, none)] }).finishClears))) ∧
  (∀ s m, s.blockServed 0x0C = true → s.cve.ent = 2 →
    let d := s.applyWrite Reg.cveCtl (setBit (s.raw Reg.cveCtl) 1)
    exec (.entRestart m) s = .next (s.serves (d.onCve fun c => { c with ent := 1, restarting := true, failures := [] })))

/-- Registers of pools, windows, power entry, liveries, snapshots, bindings and Inkwell space. -/
def Obligations.UnitRegistersComplete : Prop :=
  (∀ s m v r, s.blockServed 0x38 = true →
    let k := min 14 (s.fld Reg.drlPoolIdx 0 4)
    poolHdrmRange k = some r →
    exec (.drlPoolHdrmWrite m v) s = .next (s.serves
      { s.toDev with drl := { s.drl with hdrm := sput poolHdrmDflt s.drl.hdrm k (clampNat r.1 r.2 v.toNat) } })) ∧
  (∀ s m v, s.blockServed 0x38 = true →
    let d := s.applyWrite Reg.drlPoolIdx v.toNat
    let k := min 14 (bits v.toNat 0 4)
    exec (.poolSnapshot m v) s = .next (s.serves { d with drl := { d.drl with
      snapPool := k, snap := [d.poolCap k, d.poolUse k, d.poolHfree k, sget (fun _ => 0) d.drl.peak k] } })) ∧
  (∀ s m v, s.blockServed 0x0F = true → exec (.mepWinWrite m v) s = .next (s.serves (s.applyWrite Reg.mepWin v.toNat))) ∧
  (∀ s m v, s.blockServed 0x03 = true →
    exec (.insertMsWrite m v) s = .next (s.serves ((s.applyWrite Reg.pesCfg v.toNat).onPes fun p =>
      { p with insertNext := clampNat 25 400 (bits v.toNat 0 9) }))) ∧
  (∀ s m v, s.blockServed 0x24 = true →
    exec (.lvyMapLastWrite m v) s = .next (s.serves (s.change (.liveryMap (s.fld Reg.lvyMapIdx 0 10) (s.fld Reg.lvyMapFirst 0 20)
      (bits v.toNat 0 20) (bits v.toNat 20 8) (bit v.toNat 31)) none))) ∧
  (∀ s m v, s.blockServed 0x24 = true → (s.livery? (s.fld Reg.lvyIdx 0 8)).isSome = true →
    exec (.lvyCfgWrite m v) s = .next (s.serves (s.change (.liverySwitches (s.fld Reg.lvyIdx 0 8) (bit v.toNat 0) (bit v.toNat 1)) none))) ∧
  (∀ s m v, s.blockServed 0x23 = true →
    let d := s.applyWrite Reg.rltIdx v.toNat
    let k := d.fld Reg.rltIdx 0 13
    exec (.rltIdxSnapshot m v) s = .next (s.serves (d.onHqe fun h =>
      { h with ent := (h.locks.find? fun l => l.granted == some k).map fun l => (k, l) }))) ∧
  (∀ s m v, s.blockServed 0x26 = true →
    let d := s.applyWrite Reg.nibDidx v.toNat
    exec (.nibDidxSnapshot m v) s = .next (s.serves (d.onNib fun n =>
      { n with snap := (d.desc? (d.fld Reg.nibDidx 0 14)).map fun x => (x, (d.closePoint x).isSome) }))) ∧
  (∀ s m v, s.blockServed 0x22 = true →
    let i := s.fld Reg.hqeBindIdx 0 11
    let w := s.fld Reg.hqeBindIdx 16 6
    let stage := fit 224 (sget (fun _ => []) s.hqe.bindStage 0)
    (w < 56 → exec (.hqeBindWordWrite m v) s = .next (s.serves (s.onHqe fun h =>
      { h with bindStage := sput (fun _ => []) h.bindStage 0 (stage.take (4 * w) ++ leBytes 4 v.toNat ++ stage.drop (4 * w + 4)) }))) ∧
    (56 ≤ w → exec (.hqeBindWordWrite m v) s = .next (s.serves (s.onHqe fun h =>
      { h with bindings := sput bindDflt h.bindings i ⟨stage.takeWhile (· != 0), v.toNat % 2 ^ 20, bit v.toNat 31⟩ })))) ∧
  (∀ s m v, s.blockServed 0x21 = true →
    exec (.inkSpaceWrite m v) s = .next (s.serves (s.setRaw Reg.inkCtl (max (clampNat 1 32 (bits v.toNat 0 6)) s.spaceFloor))))

/-- Accesses by offset: a read of a low half keeps the high half, a read of a read-clear register clears it, a reserved offset and a partial write are
recorded and counted, any other register takes a write by its fields' access types, and the sideband reads and writes where its offset stands. -/
def Obligations.GenericAccessesComplete : Prop :=
  (∀ s m off w, off < 0x1000000 → s.blockServed (off / 0x10000) = true → isRegister off = true → off / 0x10000 ≠ 7 → s.wide off = some w →
    let d := s.setRaw (off + 4) (w / 2 ^ 32)
    exec (.loReadLatch m off) s = .next (s.serves
      (match m with | .endpoint => d.emit (.barData (leBytes 4 (w % 2 ^ 32)) false) | _ => d))) ∧
  (∀ s m off, off < 0x1000000 → s.blockServed (off / 0x10000) = true → isRegister off = true → off / 0x10000 ≠ 7 → s.wide off = none →
    rcMask off = true →
    let d := s.setRaw (s.keyAt off) 0
    exec (.rcRead m off) s = .next (s.serves
      (match m with | .endpoint => d.emit (.barData (leBytes 4 (s.view off % 2 ^ 32)) false) | _ => d))) ∧
  (∀ s m off en, off < 0x1000000 → en < 16 → s.blockServed (off / 0x10000) = true → isRegister off = false →
    exec (.reservedOffsetAccess m off true en) s = .next (s.serves (((s.setRaw Reg.mcrRsvdAddr
      (off % 2 ^ 24 + 2 ^ 24 + 2 ^ 25 * b2n (en != 15) + 2 ^ 26 * masterCode m)).countReg Reg.mcrRsvdCnt 1).raise 0x012))) ∧
  (∀ s m off v, off < 0x1000000 → s.blockServed (off / 0x10000) = true → isRegister off = true →
    (if off < 0x100000 then s.writeControl off v.toNat else s.writeMedia off v.toNat) = none →
    exec (.registerWrite m off v 15) s = .next (s.serves (s.applyWrite off v.toNat))) ∧
  (∀ s, s.smbOn = true → s.smbCheck = 0 →
    let r := s.readReg .smbus s.mep.smbOffset
    exec .smbusRead s = .next (s.serves ((r.2.emit (.smbus (leBytes 1 0 ++ leBytes 4 r.1))).smbEnds 0))) ∧
  (∀ s v, s.smbOn = true → s.smbCheck = 0 →
    exec (.smbusWrite v true) s = .next (s.serves ((s.writeReg .smbus s.mep.smbOffset v.toNat).smbEnds 0)))

/-! ## Edges and times (DESIGN CHOICE: assumption log, entry 2): the rows that the hardware's surroundings and its own clock cause -/

/-- Waybill, the ladder, the check-value engine and the catalogue: a record is written into the ring, a block that fails is replaced, a manual
trigger is recorded, a stall is reported, the entropy source fails and comes back, and a dirty segment's checkpoint is written. -/
def Obligations.RecordAndSourceRowsComplete : Prop :=
  (∀ s r rest, s.wbl.scanned = true → s.wbl.queue = r :: rest →
    let b := s.wbl.headBlock
    let d := if s.wbl.headSlot = 0 then s.eraseBlock (s.wbl.nextGood b) else s.toDev
    exec .wblRecordWrite s = .next (s.becomes (d.onWbl fun w =>
      { w with queue := rest, ring := w.ring ++ [⟨b, w.headSlot, r⟩]
               headBlock := if w.headSlot = 511 then w.nextGood b else b, headSlot := if w.headSlot = 511 then 0 else w.headSlot + 1 }))) ∧
  (∀ s, s.wbl.scanned = true → s.wbl.queue ≠ [] →
    exec .wblFault s = .next (s.becomes
      (((s.onWbl fun w => { w with bad := w.bad ++ [w.headBlock], headBlock := w.nextGood w.headBlock, headSlot := 0 }).writeRecord).raise 0x092))) ∧
  (∀ s m, s.triggers 0x203 = true → (s.queueRecord 0x203).2 = false →
    exec (.wblManual m) s = .next (s.becomes (s.queueRecord 0x203).1)) ∧
  (∀ s level t, 1 ≤ level → level < 6 → sget (fun _ => none) s.drl.stallAt level = some t →
    exec (.levelStall level) s = .next (s.becomes
      (({ s.toDev with drl := { s.drl with stallAt := sput (fun _ => none) s.drl.stallAt level none } } : Dev).upTo t |>.raise 0x1F0))) ∧
  (∀ s repetition, s.cve.ent ≠ 2 →
    exec (.entropyHealth repetition) s = .next (s.becomes (s.countCve (if repetition then 7 else 8) 1).entropyFails)) ∧
  (∀ s, s.cve.ent = 1 →
    exec (.entropyRestartDone true) s = .next (s.becomes (s.onCve fun c => { c with ent := 0, restarting := false })) ∧
    exec (.entropyRestartDone false) s = .next (s.becomes s.entropyFails)) ∧
  (∀ s g t, s.dirtySince g = some t → s.flag Reg.layCkpt 16 = true → s.lay.state = 3 → s.isActive = true → g ∈ s.dirtySegments →
    exec (.checkpointInterval g) s = .next (s.becomes ((s.upTo (t + s.ckptInterval)).writeSegment g))) ∧
  (∀ s g t, s.dirtySince g = some t →
    exec (.ckptLag g) s = .next (s.becomes ((s.upTo (t + 4 * s.ckptInterval)).raise 0x165)))

/-- Ruling: house sync edges are counted and judged, a silent source is lost, an acquisition that runs out ends in HOLDOVER or FREE, a holdover
clock that fails is reported, and a frame starts. -/
def Obligations.RulingEdgeRowsComplete : Prop :=
  (∀ s at_ t, (s.upTo at_).flag Reg.rulCtl 0 = true → s.rul.started = true → s.rul.house.last = some t →
    s.rul.house.lines = s.rul.judged.lpf → s.rul.judged.periodOk (max s.q at_ - t) = true →
    exec (.houseFrameEdge at_) s = .next (s.becomes (((s.upTo at_).onRul fun r =>
      { r with house := { r.house with last := some (max s.q at_), lines := 0, good := r.house.good + 1, badCounts := 0,
                                       frame := (r.house.frame + 1) % 2 ^ 32 } }).afterReference 1))) ∧
  (∀ s at_, exec (.houseLineEdge at_) s = .next (s.becomes
    ((s.upTo at_).onRul fun r => { r with house := { r.house with lines := r.house.lines + 1 } }))) ∧
  (∀ s source t, source < 3 → s.sourceDeadline source = some t →
    exec (.sourceLost source) s = .next (s.becomes ((s.upTo t).loseSource source))) ∧
  (∀ s t, s.rul.acqAt = some t → s.rul.state = .acquire → s.bestSource = none →
    (s.rul.timeline = true → exec .acqTimeout s = .next (s.becomes (s.upTo t).enterHoldover)) ∧
    (s.rul.timeline = false → exec .acqTimeout s = .next (s.becomes
      (((s.upTo t).onRul fun r => { r with state := .free, acqAt := none, source := none, held := none }).raise 0x048)))) ∧
  (∀ s, exec .holdClkFault s = .next (s.becomes ((s.onRul fun r => { r with holdClkOk := false }).raise 0x04E))) ∧
  (∀ s, let d : Dev := { s.upTo s.nextFrame with otr := { s.otr with frameUsed := 0 } }
    (s.rul.swapAt = none → exec .frameStart s = .next (s.becomes d)) ∧
    (s.rul.swapAt.isSome = true → exec .frameStart s = .next (s.becomes d.swapTables)))

/-- The non-interruptible buffer: a descriptor is granted a drain slot, a drive fetches a block of it, it closes at its close point or when nothing
more comes, and a part of a stripe is admitted. -/
def Obligations.NibRowsComplete : Prop :=
  (∀ s i x e, s.desc? i = some x → x.wantsSlot = true →
    x.waitingSince = (s.nib.descs.filter Desc.wantsSlot).foldl (fun a y => min a y.waitingSince) s.q →
    (s.nib.descs.filter Desc.hasSlot).length < s.drainSlots → s.blt.stopped = false →
    (if x.psi.isSome then (s.toDev, true) else s.allocFor i) = (e, true) →
    let d := (e.countNib 11 (nibCycles (e.q - x.waitingSince))).sampleUs 3 0 x.waitingSince
    let q := d.takeSeq
    let psi := (q.1.desc? i).bind Desc.psi |>.getD 0
    let r := q.1.append (.intentStripe q.2 psi x.lstripe x.object (match x.path with | .full => 1 | .fresh => 2 | _ => 3) x.fill)
    let f := r.1.onDesc i fun y =>
      { y with state := .draining, hasSlot := true, seq := q.2, intentRsn := r.2, done := [], accP := [], accQ := [] }
    exec (.drainSlotGrant i) s = .next (s.becomes ((f.submitData i psi x.fill).toParity i))) ∧
  (∀ s i x strip block w c t, s.desc? i = some x → x.state = .draining ∨ x.state = .parity →
    x.writes.find? (fun w => w.strip == strip && !w.acked) = some w → s.drvCmd? w.cmd = some c → c.at_ = some t →
    strip < 32 → block < 256 → block < s.geo.b → s.cveRoom = true →
    let g := s.geo
    let k := strip * g.b + block
    (strip < g.d → s.sourcePoisoned x k = false →
      let src := s.sourceOf x k
      let d := s.when (!(x.done.contains (strip, block))) fun d => d.countNib 7 4096
      exec (.driveBlockFetch i strip block) s = .next (s.becomes
        (((d.onDesc i fun y => y.accumulate strip block src.1).sendBlock x.livery c.slot strip block
          (g.block x.object x.lstripe (x.psi.getD 0) strip block src.2 x.seq src.1)).toParity i))) ∧
    (g.d ≤ strip →
      let b := g.block x.object x.lstripe (x.psi.getD 0) strip block (s.rul.rtsAt x.closeQ) x.seq
        (fit 4096 (sget (fun _ => []) (if strip = g.d then x.accP else x.accQ) block))
      let d := ((s.countNib 8 4096).onDesc i fun y =>
        { y with done := if (strip, block) ∈ y.done then y.done else y.done ++ [(strip, block)] }).sendBlock x.livery c.slot strip block b
      ∀ y, d.desc? i = some y → exec (.driveBlockFetch i strip block) s = .next (s.becomes
        (if y.parityFetched g.d g.b then d.onDesc i fun y => { y with hasSlot := false } else d)))) ∧
  (∀ s i x t, s.desc? i = some x → x.state = .opened → s.closePoint x = some t →
    exec (.descriptorClosePoint i) s = .next (s.becomes ((s.upTo t).closeDesc i))) ∧
  (∀ s i x o, s.desc? i = some x → x.state = .opened → s.closePoint x = none → s.obj? x.object = some o → o.isTake = true →
    x.lstripe = o.tailStripe s.geo.lb → s.flag Reg.nibCtl 0 = true →
    exec (.descriptorIdleClose i) s = .next (s.becomes
      (((s.upTo (x.lastNamed + quantaMs (max 1 (s.fld Reg.nibCommit 16 16)))).countNib 14 1).closeDesc i))) ∧
  (∀ s i x, s.desc? i = some x → x.state = .closing → x.path = .merge ∨ x.path = .small ∨ x.path = .recon →
    exec (.subStripeAdmit i) s = .next (s.becomes
      (((if x.charged then s.toDev else s.upTo (s.nib.subFrom + quantaMs 1)).startSub i).oldProgress i)))

/-- The read path, Outrider and Relay: granules are granted to a read, a check starts, and Relay takes its next stripe, its next period or its next
phase. -/
def Obligations.PassRowsComplete : Prop :=
  (∀ s id r, s.read? id = some r → r.granted = true → r.submitted = false →
    let lb := max 1 s.geo.lb
    ((List.range ((r.first + r.blocks - 1) / lb + 1 - r.first / lb)).any fun k => s.lookupHeld r.object (r.first / lb + k)) = false →
    let a := s.request 7 r.granules false id
    (a.2 = false → exec (.readGranuleGrant id) s = .next (s.becomes (a.1.raise 0x1A8))) ∧
    (a.2 = true →
      let since := match s.drl.waits.find? fun w => w.pool == 7 && w.who == id with | some w => w.since | none => s.q
      let n := min r.granules (512 - s.rd.sramUsed)
      let d := (a.1.onRd fun x => { x with sramUsed := x.sramUsed + n, spillUsed := x.spillUsed + (r.granules - n) }).onRead id fun r =>
        { r with sram := n, spill := r.granules - n }
      exec (.readGranuleGrant id) s = .next (s.becomes
        ((((d.countRead 7 (65536 * (r.granules - n))).countRead 8 (nibCycles (d.q - since))).submitReads id).advanceRows id)))) ∧
  (∀ s, s.otrMayStart = true →
    (∀ psi rest, s.otr.repair = psi :: rest → (s.onOtr fun o => { o with repair := rest }).otrSkips psi = false →
      exec .otrCheckStart s = .next (s.becomes
        (((s.onOtr fun o => { o with repair := rest }).otrBegin psi none).1.onOtr fun o => { o with frameUsed := o.frameUsed + 1 }))) ∧
    (s.otr.repair = [] → s.otrMove.otrSkips s.otr.cursor = false →
      exec .otrCheckStart s = .next (s.becomes
        ((s.otrMove.otrBegin s.otr.cursor none).1.onOtr fun o => { o with frameUsed := o.frameUsed + 1 })))) ∧
  (∀ s, s.rly.phase ≠ 0 →
    let d := s.relayTick.judgeRaised
    d.lay.state = 3 → d.rly.work = none → d.blt.stopped = false →
    (d.rly.phase = 1 → d.blt.remirror = [] → exec .relayStep s = .next (s.becomes d.nextPhase)) ∧
    (d.rly.phase = 1 → d.blt.remirror ≠ [] →
      exec .relayStep s = .next (s.becomes (d.forEach d.blt.remirror fun d h => d.remirrorRead h))) ∧
    (2 ≤ d.rly.phase → d.flag Reg.rlyCtl 0 = true → d.rly.pass = none →
      (d.periods ≤ d.rly.cursor → exec .relayStep s = .next (s.becomes d.nextPhase)) ∧
      (d.rly.cursor < d.periods →
        let j := d.nextStripe d.rly.cursor d.rly.stripeIn (if d.rly.phase = 2 then 2 else 1)
        (j = none → exec .relayStep s = .next (s.becomes
          (d.onRly fun r => { r with cursor := r.cursor + 1, stripeIn := 0 }).recordRebuild)) ∧
        (∀ k, j = some k →
          let psi := d.rly.cursor * d.geo.n + k
          exec .relayStep s = .next (s.becomes
            ((d.onRly fun r => { r with stripeIn := k + 1 }).relayBegin psi (d.phaseStrips psi) none false))))))

/-- Events, the performance counters and the latency monitors: an event packet leaves, pending bits clear, counters and monitors are frozen, copied,
preset and cleared. -/
def Obligations.EventAndMonitorRowsComplete : Prop :=
  (∀ s k x e rest, s.session? k = some x → x.queue = e :: rest →
    (match e.livery with | some l => s.generation l != e.generation | none => false) = false → s.transportReady x = true →
    exec (.eventPacketSend k) s = .next (s.becomes
      ((s.onSession x.id fun y => { y with queue := rest, sent := y.sent + 1, drops := 0 }).send (x.eventReply e (x.sent + 1))))) ∧
  (∀ s m g v, g < 16 → exec (.evtPendClear m g v) s = .next (s.becomes
    (s.setRaw (Reg.evtPend + 4 * g) (s.raw (Reg.evtPend + 4 * g) - Nat.land (s.raw (Reg.evtPend + 4 * g)) v.toNat)))) ∧
  (∀ s m g v, g < 16 →
    exec (.evtAlertMaskWrite m g v) s = .next (s.becomes (s.setRaw (Reg.evtAlertMask + 4 * g) v.toNat))) ∧
  (∀ s u rest, s.pmc.inflight = u :: rest →
    let d := s.onPmc fun p => { p with inflight := rest }
    exec .pmcUpdateArrival s = .next (s.becomes (if s.pmcFrozen then d else d.pmcCount u.1 u.2))) ∧
  (∀ s m v, exec (.pmcFreeze m v) s = .next (s.becomes
    (if bit v.toNat 1 then (s.pmcFreeze (bit v.toNat 0)).pmcSnapshot else s.pmcFreeze (bit v.toNat 0)))) ∧
  (∀ s m, exec (.pmcSnap m) s = .next (s.becomes (s.pmcSync.onPmc fun p =>
    { p with shadow := p.vals, snapRts := s.pmcSync.now, shadowOvf := ((List.range 256).filter s.pmcSync.pmcOvf).map fun i => (i, true) }))) ∧
  (∀ s m v, exec (.pmcValPreset m v) s = .next (s.becomes
    (s.pmcPreset (s.fld Reg.pmcIdx 0 8) (bits v.toNat 0 16 * 2 ^ 32 + s.raw Reg.pmcValLo)))) ∧
  (∀ s m v, let d := s.setFld Reg.lmonIdx 0 6 v.toNat
    exec (.lmonIdxCopy m v) s = .next (s.becomes (d.onLmon fun l => { l with copy := d.monitor (v.toNat % 64) }))) ∧
  (∀ s m, exec (.lmonClear m) s = .next (s.becomes (s.onLmon fun l =>
    { l with mons := sput monitorDflt l.mons (s.fld Reg.lmonIdx 0 6) Monitor.cleared }))) ∧
  (∀ s m, exec (.lmonClearAll m) s = .next (s.becomes (s.onLmon fun l => { l with mons := [] }))) ∧
  (∀ s m v, let i := s.fld Reg.lmonIdx 0 6
    exec (.lmonSelWrite m v) s = .next (s.becomes ((s.setRaw (bank Reg.lmonSel i) (lmonSelWord v.toNat)).clearMonitor i)))

/-- The module endpoint: replies are freed, DMA channels run and resume, bus mastering, BAR2 accesses, resets of the endpoint, its link and its
configuration space, and the sideband. -/
def Obligations.EndpointRowsComplete : Prop :=
  (∀ s m r ci, r < 8 → ci < 65536 →
    let d := s.setFld (Reg.mepRingRsp + 16 * r) 16 16 ci
    let l := (d.mep.rings.getD r Ring.empty).waiting
    exec (.mailboxReplyFree m r ci) s = .next (s.becomes
      ((d.onMep fun m => { m with rings := m.rings.modify r fun g => { g with waiting := [] } }).forEach l fun d x => d.ringReply r x))) ∧
  (∀ s m c v, wfChannel c = true →
    let d := s.setRaw (Reg.mepDmaPi + 0x20 * c) (v.toNat % 65536)
    exec (.dmaPiWrite m c v) s = .next (s.becomes
      (if (d.dma c).state = 0 ∧ d.dmaWork c = true then d.onDma c fun x => { x with state := 1 } else d))) ∧
  (∀ s c x ending data, wfChannel c = true → (s.dma c).state = 1 → s.mep.bme = true →
    let r := s.dmaMove x ending data
    let st := if r.2 = 1 ∧ (s.dma c).stopping = true then 2 else r.2
    let d := ((r.1.emit (.hostWrite (s.dmaDescAt c + 24) (leBytes 4 st))).countMep 3 1).onDma c fun k =>
      { k with ci := (k.ci + 1) % 65536, state := if st = 1 then 0 else 2, cause := if st = 1 then 0 else st, stopping := false }
    let e := if x.irq then d.raise (0x0C8 + c) else d
    exec (.dmaDescriptorDone c x ending data) s = .next (s.becomes
      (if st = 2 then e.raise 0x0CC else if 3 ≤ st then e.raise 0x0CD else e.dmaKick c))) ∧
  (∀ s m c, wfChannel c = true → (s.dma c).state = 2 →
    exec (.dmaResume m c) s = .next (s.becomes ((s.onDma c fun x => { x with state := 0, cause := 0, stopping := false }).dmaKick c))) ∧
  (∀ s, (s.mep.bme = false → exec (.bmeChange true) s = .next (s.becomes (s.onMep fun m => { m with bme := true }).flushVectors)) ∧
    (s.mep.bme = true → exec (.bmeChange false) s = .next (s.becomes
      ((s.onMep fun m => { m with bme := false, dma := m.dma.map fun c => { c with stopping := c.stopping || c.state == 1 } }).raise 0x0CE)))) ∧
  (∀ s a en data, data.length = en.length → a + data.length ≤ 0x100000000 → s.bar2Open = true →
    let hbm := s.flag Reg.mepWin 0
    let w := s.winAddr a
    (s.flag Reg.mepCtl 1 = true →
      exec (.bar2Access true a en data) s = .next (s.becomes (s.spaceWriteWhere hbm w (en.zip data)))) ∧
    (s.poisonIn hbm w data.length = none →
      exec (.bar2Access false a en data) s = .next (s.becomes
        ((s.correctIn hbm w data.length).emit (.barData (s.spaceRead hbm w data.length) false)))) ∧
    (s.poisonIn hbm w data.length ≠ none →
      exec (.bar2Access false a en data) s = .next (s.becomes
        (((s.notePoison hbm w data.length).onMep fun m => { m with aer := m.aer + 1 }).emit
          (.barData (s.spaceRead hbm w data.length) true))))) ∧
  (∀ s, exec .perst s = .next (s.becomes (s.endpointReset true)) ∧ exec .hotReset s = .next (s.becomes (s.endpointReset false)) ∧
    exec .functionLevelReset s = .next (s.becomes (s.endpointReset false))) ∧
  (∀ s speed width, speed < 8 → width < 64 → s.mep.speed ≠ speed ∨ s.mep.width ≠ width →
    exec (.epLinkChange speed width) s = .next (s.becomes ((s.onMep fun m => { m with speed := speed, width := width }).raise 0x0D2))) ∧
  (∀ s v,
    exec (.configSpaceWrite 0x04 v) s = .next (s.becomes ((s.onMep fun m => { m with memSpace := bit v.toNat 1 }).setBme (bit v.toNat 2))) ∧
    exec (.configSpaceWrite 0x44 v) s = .next (s.becomes (s.setDstate (bits v.toNat 0 2))) ∧
    exec (.configSpaceWrite 0x50 v) s = .next (s.becomes
      (s.onMep fun m => { m with msixEnable := bit v.toNat 31, functionMask := bit v.toNat 30 }).flushVectors) ∧
    (bit v.toNat 15 = true → exec (.configSpaceWrite 0x68 v) s = .next (s.becomes (s.endpointReset false))) ∧
    (∀ r, r < 4096 → r ∉ [0x04, 0x44, 0x50, 0x68] → barMask r ≠ 0 → s.mep.presetBars = false →
      exec (.configSpaceWrite r v) s = .next (s.becomes (s.onMep fun m =>
        { m with config := sput (fun _ => 0) m.config r (BitVec.ofNat 32 (Nat.land v.toNat (barMask r))) })))) ∧
  (∀ s off, s.smbOn = true →
    (off < 0x100000000 →
      exec (.smbusAddr off true) s = .next (s.becomes ((s.onMep fun m => { m with smbOffset := off, smbStatus := 0 }).countMep 7 1)) ∧
      exec (.smbusAddr off false) s = .next (s.becomes ((s.onMep fun m => { m with smbStatus := 2 }).countMep 7 1))) ∧
    exec .smbusStatus s = .next (s.becomes ((s.emit (.smbus [BitVec.ofNat 8 s.mep.smbStatus])).countMep 7 1)) ∧
    exec .smbusTimeout s = .next (s.becomes ((s.countMep 8 1).raise 0x0D1)))

/-- Failover: claims and their guard, the watchdog, both partner paths, takeover and fencing, handover, and the partner link's lanes. -/
def Obligations.FailoverRowsComplete : Prop :=
  (∀ s t, s.peerLow = some t → s.mayClaim = true →
    exec .actPeerLow2ms s = .next (s.becomes ((s.upTo t).setRole .claiming).claim)) ∧
  (∀ s t, s.fov.guardAt = some t →
    let d := (s.upTo t).onFov fun f => { f with guardAt := none }
    (s.fov.role = .claiming → exec .guardExpiry s = .next (s.becomes (d.setRole .active))) ∧
    (s.fov.role = .takeover → s.fov.tstep = 3 → exec .guardExpiry s = .next (s.becomes d.takeoverAcquire))) ∧
  (∀ s t, s.fov.guardAt = some t → s.pins.slotIdStrap = true → s.fov.role = .claiming →
    exec .claimLost s = .next (s.becomes
      (((((s.onPins fun p => { p with actOwn := false, actPeer := true }).onFov fun f => { f with guardAt := none, peerLowAt := none }).countFov 3).raise
        0x0A9).setRole .init))) ∧
  (∀ s t, s.fov.discoverAt = some t → s.fov.ptlAlive = false → s.fov.hblAlive = false →
    let d := (s.upTo t).onFov fun f => { f with discoverAt := none }
    (d.peerLow = none → exec .discoverTimeout s = .next (s.becomes d)) ∧
    (∀ u, d.peerLow = some u → u ≤ d.q → d.mayClaim = true →
      exec .discoverTimeout s = .next (s.becomes (d.setRole .claiming).claim))) ∧
  (∀ s, s.pathsRun = true →
    (s.flag Reg.ptlCtl 0 = true → exec .heartbeatSend s = .next (s.becomes ((s.tellPartner 0).bump 0x0E 0 5 1))) ∧
    exec .hbLineToggle s = .next (s.becomes (s.onPins fun p => { p with hbOut := !p.hbOut }))) ∧
  (∀ s m, exec (.fovWdogKick m) s = .next (s.becomes (s.onFov fun f => { f with kickAt := s.q, running := true }))) ∧
  (∀ s, s.fov.running = true → exec .wdogExpiry s = .next (s.becomes
    ((s.upTo (s.fov.kickAt + quantaMs (max 1 (s.fld Reg.fovTiming2 16 4)))).onFov fun f => { f with running := false }))) ∧
  (∀ s msg, msg.wf = true → s.flag Reg.ptlCtl 0 = true →
    exec (.heartbeatReceived msg) s = .next (s.becomes (s.heardPartner msg).judgePaths) ∧
    exec (.handoverMessage msg) s = .next (s.becomes (s.heardPartner msg).judgePaths.handoverArrives) ∧
    ((s.heardPartner msg).judgePaths.fov.role = .handover → (s.heardPartner msg).judgePaths.fov.handoverAt.isSome = true →
      exec (.resumedMessage msg) s = .next (s.becomes (s.heardPartner msg).judgePaths.resumed))) ∧
  (∀ s, exec .hbInChange s = .next (s.becomes
    ((s.onPins fun p => { p with hbIn := !p.hbIn }).onFov fun f => { f with hblAlive := true, hblHeard := s.q }).judgePaths)) ∧
  (∀ s, (s.fov.hblAlive = true →
      exec (.pathSilent true) s = .next (s.becomes ((s.upTo (s.fov.hblHeard + quantaMs 5)).pathSilent true))) ∧
    (s.fov.ptlAlive = true →
      exec (.pathSilent false) s = .next (s.becomes ((s.upTo (s.fov.ptlHeard + quantaMs 1)).pathSilent false)))) ∧
  (∀ s, s.fov.role = .takeover → s.fov.tstep = 1 →
    exec .fenceAckSeen s = .next (s.becomes (s.onPins fun p => { p with fenceAckIn := true }).takeoverSeize) ∧
    (∀ t, s.fov.fenceAt = some t → exec .fenceTimeout s = .next (s.becomes (s.upTo t).takeoverCut))) ∧
  (∀ s, s.fov.role = .takeover → s.fov.tstep = 2 →
    (s.fov.blocked = false → exec .actPeerFall s = .next (s.becomes
      ((s.onPins fun p => { p with actPeer := false }).onFov fun f => { f with peerLowAt := some s.q }).takeoverSeize)) ∧
    (∀ t, s.fov.cutAt = some t → s.pins.actPeer = true → exec .takeoverBlocked s = .next (s.becomes
      (((s.upTo t).onFov fun f => { f with blocked := true, cutAt := none }).raise 0x0A6)))) ∧
  (∀ s, (s.pins.fenceOut && !s.pins.slotIdStrap) = false →
    exec .fenceInAsserted s = .next (s.becomes
      (((s.onPins fun p => { p with fenceIn := true }).enterReset 3).onPins fun p => { p with fenceAck := true }))) ∧
  (∀ s, s.clk.active.contains 3 = true →
    exec .fenceInReleased s = .next (s.becomes ((s.onPins fun p => { p with fenceIn := false, fenceAck := false }).leaveReset 3))) ∧
  (∀ s m, s.fov.fenced = true → s.pins.fenceIn = false → exec (.fenceRelease m) s = .next (s.becomes s.releaseFence)) ∧
  (∀ s t, s.fov.releaseAt = some t → s.flag Reg.fovCtl 1 = true →
    exec .autoReleaseExpiry s = .next (s.becomes (s.upTo t).releaseFence)) ∧
  (∀ s t, s.fov.handoverAt = some t → s.fov.role = .handover →
    exec .handoverTimeout s = .next (s.becomes (s.upTo t).handoverFails)) ∧
  (∀ s lanes, lanes < 256 → let was := s.fov.lanes
    let lost := ((List.range 8).filter fun i => bit was i && !(bit lanes i)).length
    let d := s.onFov fun f => { f with lanes := lanes, partnerVersion := if lanes = 0 then 0 else f.partnerVersion }
    let d := if lost = 0 then d else (d.bump 0x0E 0 4 lost).raise 0x0B2
    exec (.partnerLinkChange lanes) s = .next (s.becomes
      (if was = 0 ∧ lanes ≠ 0 then d.raise 0x0B0 else if was ≠ 0 ∧ lanes = 0 then d.raise 0x0B1 else d)))

/-- The power entry switch and power failure: input thresholds, the insertion delay, the ramp, trips and retries, the partner's cycle, loss of
input, and the power-fail stop. -/
def Obligations.PowerRowsComplete : Prop :=
  (∀ s mv, s.pes.inputGone = false → let d := s.onPes fun p => { p with inputMv := mv }
    (s.pes.state = .on → 44000 ≤ mv → mv ≤ 60000 → exec (.inputThreshold mv) s = .next (s.becomes d)) ∧
    (s.pes.state = .on → 42000 < mv → mv < 44000 → exec (.inputThreshold mv) s = .next (s.becomes (d.raise 0x007))) ∧
    (s.pes.state = .on → 60000 < mv → mv < 62000 → exec (.inputThreshold mv) s = .next (s.becomes (d.raise 0x008))) ∧
    (s.pes.state = .on ∨ s.pes.state = .ramp → 62000 ≤ mv → mv < 65536 → exec (.inputThreshold mv) s = .next (s.becomes ((d.pesFault 1).fetOff .ov))) ∧
    (s.pes.state = .on ∨ s.pes.state = .ramp → mv ≤ 42000 → exec (.inputThreshold mv) s = .next (s.becomes ((d.pesFault 0).fetOff .off))) ∧
    (s.pes.state = .off → 43000 ≤ mv → mv < 62000 → exec (.inputThreshold mv) s = .next (s.becomes d.inputEnters)) ∧
    (s.pes.state = .ov → 42000 < mv → mv ≤ 61000 → exec (.inputThreshold mv) s = .next (s.becomes d.inputEnters))) ∧
  (∀ s t, s.pes.delayEnd = some t → s.pes.state = .delay →
    exec .insertionDelayExpiry s = .next (s.becomes (((s.upTo t).onPes fun p => { p with state := .ramp, delayEnd := none }).bump 0x03 0 1 1))) ∧
  (∀ s, s.pes.state = .ramp →
    exec .inrushTrip s = .next (s.becomes (s.pesTrip 2)) ∧ exec .energyTrip s = .next (s.becomes (s.pesTrip 3)) ∧
    exec .powerGood s = .next (s.becomes (s.onPes fun p => { p with state := .on, onSince := some s.q }).powerOnReset)) ∧
  (∀ s, s.pes.state = .on →
    exec .breakerTrip s = .next (s.becomes (s.pesTrip 4)) ∧ exec .fastTrip s = .next (s.becomes (s.pesTrip 5))) ∧
  (∀ s, s.pes.state = .cool → s.pes.inputGone = false → let d := s.upTo s.pes.offEnd
    (s.pins.pwrEnIn = false → exec .offtimeExpiry s = .next (s.becomes (d.onPes fun p => { p with state := .held }))) ∧
    (s.pins.pwrEnIn = true → inWindow .cool s.pes.inputMv = true → exec .offtimeExpiry s = .next (s.becomes
      (d.onPes fun p => { p with retries := min 7 (p.retries + 1) }).startRamp)) ∧
    (s.pins.pwrEnIn = true → inWindow .cool s.pes.inputMv = false → exec .offtimeExpiry s = .next (s.becomes
      (d.onPes fun p => { p with state := if 62000 ≤ p.inputMv then .ov else .off })))) ∧
  (∀ s t, s.pes.onSince = some t →
    exec .retryCountReset s = .next (s.becomes ((s.upTo (t + quantaMs 60000)).onPes fun p => { p with retries := 0 }))) ∧
  (∀ s, s.pins.pwrEnIn = true → s.pes.state = .on →
    exec (.pwrEnInChange false) s = .next (s.becomes
      ((((s.onPins fun p => { p with pwrEnIn := false }).onPes fun p => { p with pwrEnLowAt := some s.q }).pesFault 8).fetOff .held))) ∧
  (∀ s, s.pins.pwrEnIn = false → s.pes.state = .held → inWindow .off s.pes.inputMv = true →
    let long := match s.pes.pwrEnLowAt with | some t => decide (t + quantaMs 100 ≤ s.q) | none => false
    exec (.pwrEnInChange true) s = .next (s.becomes
      ((s.onPins fun p => { p with pwrEnIn := true }).onPes fun p =>
        { p with pwrEnLowAt := none, retries := if long then 0 else p.retries }).startDelay)) ∧
  (∀ s m, exec (.partnerCycle m) s = .next (s.becomes
    ((s.onPins fun p => { p with partnerPwrEn := false }).onPes fun p => { p with partnerPulse := some (s.q + quantaMs 200) }))) ∧
  (∀ s t, s.pes.partnerPulse = some t → exec .partnerCycleEnd s = .next (s.becomes
    (((s.upTo t).onPes fun p => { p with partnerPulse := none }).onPins fun p => { p with partnerPwrEn := !s.fov.pwrCut }))) ∧
  (∀ s, exec .inputLost s = .next (s.becomes
    ((s.fetOff (if s.pes.state = .latched then .latched else if s.pes.state = .cool then .cool else .off)).onPes fun p =>
      { p with inputMv := 0, inputGone := true, keptUntil := some (s.q + quantaMs 3000), kept := false }))) ∧
  (∀ s t, s.pes.keptUntil = some t → s.pes.inputGone = true → exec .keptStateExpiry s = .next (s.becomes
    (((s.upTo t).setRaw Reg.pesFault 0).onPes fun p => { p with keptUntil := none, retries := 0, faultAt := none, state := .off }))) ∧
  (∀ s, s.pins.pwrFail = false → s.pes.pfInternal = false →
    exec .pwrFailAsserted s = .next (s.becomes (s.onPins fun p => { p with pwrFail := true }).powerFails) ∧
    (s.flag Reg.pesCfg 25 = true → s.pes.inputMv < 100 * s.fld Reg.pesCfg 16 9 →
      exec .pfInternalThreshold s = .next (s.becomes (s.onPes fun p => { p with pfInternal := true }).powerFails))) ∧
  (∀ s, s.pwrFail = true → exec .pwrFailDeasserted s = .next (s.becomes
    ((s.onPins fun p => { p with pwrFail := false }).onPes fun p => { p with pfInternal := false, pfReleasedAt := some s.q }))) ∧
  (∀ s t, s.pes.pfReleasedAt = some t → inWindow s.pes.state s.pes.inputMv = true → exec .pwrFailReleased s = .next (s.becomes
    (((s.upTo (t + quantaMs 10)).onPes fun p => { p with pfReleasedAt := none }).leaveReset 4)))

/-- Start-up and resets: steps complete, run late or fail, drives come late, and the reset pin and the commanded reset act. -/
def Obligations.StartupRowsComplete : Prop :=
  (∀ s, s.clk.inReset = false → s.clk.failed = false → s.clk.done = false →
    (s.clk.step = 0 → exec .startStepComplete s = .next (s.becomes (s.beginStep 1))) ∧
    (s.clk.step ≠ 0 → s.stepMayEnd s.clk.step = true →
      let d := s.endStep s.clk.step
      (d.clk.failed || d.clk.done) = false → exec .startStepComplete s = .next (s.becomes
        ((if s.clk.step = 9 then { d with cp := { d.cp with run := 15 } } else d).beginStep (s.clk.step + 1))))) ∧
  (∀ s, s.clk.inReset = false → s.clk.failed = false → s.clk.done = false → 1 ≤ s.clk.step →
    exec .startStepSlow s = .next (s.becomes ((s.upTo (s.clk.stepStart + stepMax s.clk.step)).raise 0x021)) ∧
    (∀ cause, 1 ≤ cause → cause ≤ 4 → s.clk.step = failStep cause →
      exec (.startStepFailed cause) s = .next (s.becomes (s.onClk fun c => { c with failed := true, cause := cause }))) ∧
    (s.clk.step = 11 → s.clk.drivesLate = false → exec .drivesLate s = .next (s.becomes
      (((s.upTo (s.clk.stepStart + quantaMs (s.fld Reg.dpcSlotpwr 16 16))).onClk fun c => { c with drivesLate := true }).raise 0x026)))) ∧
  (∀ s, exec (.modRstPin true) s = .next (s.becomes ((s.onPins fun p => { p with modRst := true }).enterReset 1)) ∧
    (s.clk.active.contains 1 = true →
      exec (.modRstPin false) s = .next (s.becomes ((s.onPins fun p => { p with modRst := false }).leaveReset 1)))) ∧
  (∀ s m, exec (.clkRstCtlModReset m) s = .next (s.becomes (((s.trigger 0x202).drainRecords 64).resetOnce 2)))

/-- Tandem, Turnpike and the shapers: hellos and their loss, resequencing contexts, pauses and their watchdog, schedulers, refills, gates, FEC
windows, link changes and delay requests. -/
def Obligations.SwitchRowsComplete : Prop :=
  (∀ s k, wfLink k = true → s.linkUp k = true → s.tandemRole k = true → s.flag Reg.tdmCtl 0 = true → s.moduleId ≠ 0 →
    let d := if (s.tdmLink k).state = 0 then s.toDev else s.upTo ((s.tdmLink k).sentAt + quantaUs 100)
    let q : QFrame :=
      { length := tandemLength (d.helloFrame k), prio := 0, colour := 0, ect := false, ce := false, inLink := none, livery := 0, outLink := k,
        frame := none, tandem := some (d.helloFrame k) }
    exec (.helloSend k) s = .next (s.becomes
      ((d.onTdmLink k fun l => { l with sentAt := d.q, state := if l.state = 0 then 1 else l.state }).toControl q))) ∧
  (∀ s k, wfLink k = true → (s.tdmLink k).state = 2 →
    let d := s.upTo ((s.tdmLink k).heard + quantaUs (100 * s.fld Reg.tdmTiming 16 4))
    exec (.helloLoss k) s = .next (s.becomes ((d.tandemDown k (if d.linkUp k then 1 else 0)).raise 0x111))) ∧
  (∀ s source flow c, wfCid source = true → wfFlow flow = true → s.reseq? source flow = some c → c.held = [] →
    exec (.reseqContextFree source flow) s = .next (s.becomes ((s.upTo (c.lastAt + quantaMs 1)).onTdm fun t =>
      { t with ctxs := t.ctxs.filter fun x => !(x.source == source && x.flow == flow) }))) ∧
  (∀ s link prio p, wfLink link = true → wfPrio prio = true → s.pause? link prio = some p →
    exec (.pauseTimerExpiry link prio) s = .next (s.becomes ((s.upTo p.until_).onTpk fun t =>
      { t with pauses := t.pauses.filter fun x => !(x.link == link && x.prio == prio) })) ∧
    let due := p.since + quantaMs (s.fld (ethReg Reg.ethPfcWd (link / 8)) 0 16)
    (p.barked = false → due < p.until_ →
      let d := (s.upTo (due + 1)).onTpk fun t =>
        { t with pauses := t.pauses.map fun x => if x.link = link ∧ x.prio = prio then { x with barked := true } else x }
      exec (.pfcWatchdog link prio) s = .next (s.becomes ((d.setFld (ethReg Reg.ethErr (link / 8)) 9 1 1).raise 0x0ED)))) ∧
  (∀ s link prio x, wfLink link = true → wfPrio prio = true →
    s.tpk.xoffs.find? (fun x => x.link == link && x.prio == prio) = some x →
    let d := (s.upTo x.repeatAt).onTpk fun t =>
      { t with xoffs := (t.xoffs.filter fun y => y != x) ++ [{ x with repeatAt := (s.upTo x.repeatAt).q + (s.upTo x.repeatAt).xoffHalf link }] }
    let v := d.xoffLevel x
    exec (.xoffRepeat link prio) s = .next (s.becomes (if v.2 ≤ v.1 then d.sendPfc link prio 0xFFFF else d))) ∧
  (∀ s link, wfLink link = true → s.linkUp link = true → s.busyUntil link ≤ s.q →
    (s.ctlReady link = true → exec (.linkTxSelect link) s = .next (s.becomes (s.sendHead link (ctlList link) true).noteControl)) ∧
    (s.ctlReady link = false →
      let strict := ((List.range 8).map fun i => 7 - i).find? fun p => bit (s.fld (bank Reg.tssLinkSched link) 0 8) p && s.prioReady link p
      (∀ p, strict = some p → exec (.linkTxSelect link) s = .next (s.becomes (s.sendHead link (linkList link p) false))) ∧
      (∀ p a n, strict = none → s.wrrPick link = some (p, a, n) →
        exec (.linkTxSelect link) s = .next (s.becomes
          ((s.onTpk fun t => { t with rr := sput (fun _ => (0, 0)) t.rr link (a, n) }).sendHead link (linkList link p) false))))) ∧
  (∀ s port livery f rest, wfPort port = true → s.wfqPick port = some livery → s.list (liveryList livery port) = f :: rest →
    let fin := (sget (fun _ => (0, 0)) (s.wfq port).tags livery).2
    let d := s.onTpk fun x => { x with wfq := sput (fun _ => ⟨0, []⟩) x.wfq port { s.wfq port with v := fin } }
    let e := (((d.setList (liveryList livery port) rest).charge (12 * livery + port) f.length).charge (3072 + livery) f.length).pushLink f
    (rest = [] → exec (.fairQueueSelect port) s = .next (s.becomes e)) ∧
    (∀ g t, rest = g :: t → exec (.fairQueueSelect port) s = .next (s.becomes (e.setTag port fin livery fin g.length)))) ∧
  (∀ s, exec .shaperRefill s = .next (s.becomes s.refill)) ∧
  (∀ s, s.freshAllowed 4 = true → exec .storageAttachmentServe s = .next (s.becomes (s.drrServe 60))) ∧
  (∀ s link prio f rest, wfLink link = true → wfPrio prio = true → s.list (linkList link prio) = f :: rest →
    bit (s.raw (bank Reg.tssLinkSched link)) (8 + prio) = true → s.classOpen (8 + prio) = true → (s.runEnd (8 + prio)).isSome = true →
    s.runQuanta (8 + prio) < s.wireQuanta link f.length →
    exec (.gateRunOpen link prio) s = .next (s.becomes
      ((((s.setList (linkList link prio) rest).countReg Reg.tssGateDrop 1).raise 0x105).judgeXon))) ∧
  (∀ s port l corr, port < 12 → l.length ≤ 8 → corr.length ≤ 8 →
    let k := (s.port port).links
    let d := s.forEach (List.range k) fun d i => (d.countEth (8 * port + i) 6 (corr.getD i 0)).countEth (8 * port + i) 7 (l.getD i 0)
    exec (.fecWindow port l corr) s = .next (s.becomes
      (if (l.take k).any fun x => decide (d.fld (ethReg Reg.ethFecThr port) 0 16 ≤ x) then (d.setFld (ethReg Reg.ethErr port) 8 1 1).raise 0x0EC
       else d))) ∧
  (∀ s link, wfLink link = true → s.linkExists link = true → let n := link / 8
    (bit (s.port n).up (link % 8) = false → (s.port n).enabled = true → (s.port n).cageOff = false →
      exec (.ethLinkChange link true) s = .next (s.becomes
        (((s.onPort n fun p => { p with up := setBit p.up (link % 8) }).setFld (ethReg Reg.ethErr n) (link % 8) 1 1).raise (0x0E0 + n)))) ∧
    (bit (s.port n).up (link % 8) = true →
      let d := (s.onPort n fun p => { p with up := clearBit p.up (link % 8) }).onTpk fun t =>
        { t with pauses := t.pauses.filter fun p => p.link != link, xoffs := t.xoffs.filter fun x => x.link != link }
      exec (.ethLinkChange link false) s = .next (s.becomes ((d.setFld (ethReg Reg.ethErr n) (link % 8) 1 1).raise (0x0E0 + n))))) ∧
  (∀ s link, wfLink link = true → s.linkUp link = true → s.tandemRole link = false → s.flag Reg.rulPtpCfg (8 + link / 8) = true →
    s.rul.servo.syncAt.isSome = true →
    let seq := (s.rul.servo.reqSeq + 1) % 65536
    exec (.delayReqSend link) s = .next (s.becomes
      ((s.onRul fun r => { r with servo := { r.servo with reqSeq := seq, reqAt := some s.q } }).emit (.delayReq link seq))))

/-- Long operations: a step runs, a cookie's hold time ends, and a held operation starts when nothing of its kind runs on its target (R89 to R93). -/
def Obligations.LongOperationRowsComplete : Prop :=
  (∀ s slot l, wfLong slot = true → s.longOp? slot = some l → l.mode = .background ∨ (s.stepWaiter slot).isSome = true →
    exec (.longopStep slot) s = .next (s.settles (s.runStep slot))) ∧
  (∀ s slot l t, wfLong slot = true → s.longOp? slot = some l → l.holdAt = some t → l.mode = .stepped → s.stepWaiter slot = none →
    exec (.cookieExpired slot) s = .next (s.settles
      ((((s.upTo t).onLong slot fun l => { l with mode := .background, holdAt := none }).setFld Reg.cmdErr 3 1 1).raise 0x01A))) ∧
  (∀ s slot l, wfLong slot = true → s.longOp? slot = some l → l.mode = .heldBack →
    let same (x : LongOp) : Bool := x.op == l.op && x.target == l.target
    (s.cp.longOps.find? fun x => same x && x.mode == .heldBack).map LongOp.slot = some slot →
    (s.cp.longOps.any fun x => same x && x.mode != .heldBack) = false →
    (s.stepWaiter slot = none → exec (.heldLongopStart slot) s = .next (s.settles (s.onLong slot fun l => { l with mode := .background }))) ∧
    ((s.stepWaiter slot).isSome = true →
      exec (.heldLongopStart slot) s = .next (s.settles ((s.onLong slot fun l => { l with mode := .stepped }).runStep slot))))

/-- The remote access engine: connections open, close and fail, rates change, requests complete, fail and are sent again, and a revoke cuts what still
runs. -/
def Obligations.RemoteAccessRowsComplete : Prop :=
  (∀ s m livery nvme n, m.wf = true → s.portsOpen = true →
    (nvme = true ∧ livery = none ∧ m.port = s.fld Reg.raeCm 16 16 ∧ m.hsqsize ≤ (if m.nvmeQid = 0 then 32 else 1024) ∧ m.hsqsize ≤ m.hrqsize) ∨
      (nvme = false ∧ livery = some m.livery ∧ m.port ≠ s.fld Reg.raeCm 16 16 ∧ m.port = s.fld Reg.raeCm 0 16 ∧
        s.mapPid m.pid = some m.livery ∧ ∃ x, s.livery? m.livery = some x ∧ x.state = .service) →
    s.openQp livery nvme true m.pinned m.pid m.peerQp m.startPsn m.cmTimeoutUs m.ackExponent = some n →
    let psn := Config.free n.2.free % 2 ^ 24
    exec (.cmReq m) s = .next (s.settles (((n.2.takeFree.2).onQp n.1 fun q => { q with sendPsn := psn }).emit (.cm n.1 (.rep psn))))) ∧
  (∀ s qp peer psn q, qp < 0x1000000 → peer < 0x1000000 → psn < 0x1000000 → s.qp? qp = some q → q.state = .connecting → q.passive = false →
    let d := (s.onQp qp fun q => { q with state := .ready, peerQp := peer, expected := psn, cmAt := none, createCmd := none }).emit (.cm qp .rtu)
    exec (.cmRep qp peer psn) s = .next (s.settles
      (match q.createCmd.bind d.cmd? with
       | some c => d.doneClamped c (leBytes 4 qp ++ leBytes 4 0) (natsToClamps c.aux)
       | none => d))) ∧
  (∀ s qp q, wfQp qp = true → s.qp? qp = some q → q.state = .connecting →
    (q.passive = true → exec (.cmRtu qp) s = .next (s.settles (s.onQp q.num fun x => { x with state := .ready, cmAt := none }))) ∧
    (q.passive = false → ∀ us, exec (.cmMra qp us) s = .next (s.settles (s.onQp qp fun q => { q with cmAt := some (s.inUs us) }))) ∧
    (∀ reason, reason < 65536 → exec (.cmRej qp reason) s = .next (s.settles ((s.createFailed q).closeQp qp))) ∧
    (∀ t, q.cmAt = some t → exec (.cmTimeout qp) s = .next (s.settles (((s.upTo t).createFailed q).closeQp qp)))) ∧
  (∀ s qp q, wfQp qp = true → s.qp? qp = some q →
    (q.state = .ready ∨ q.state = .error → exec (.cmDreq qp) s = .next (s.settles ((s.emit (.cm qp .drep)).closeQp qp))) ∧
    (q.closeAfter = true → exec (.cmDrep qp) s = .next (s.settles (s.closeQp qp))) ∧
    (∀ t, q.state = .error → q.lingerAt = some t → exec (.qpLingerExpiry qp) s = .next (s.settles ((s.upTo t).closeQp qp)))) ∧
  (∀ s qp q r, wfQp qp = true → s.portsOpen = true → (s.countRae 15 1).qp? qp = some q → q.rq = some r →
    let d := (s.countRae 15 1).raise 0x12A
    (d.flag Reg.raeCtl 2 = false → exec (.cnpReceived qp) s = .next (s.settles d)) ∧
    (d.flag Reg.raeCtl 2 = true →
      let halve := decide (q.rateStep = 0 ∨ q.rateStep + quantaUs (clampNat 1 1000 (d.fld Reg.raeCc 0 16)) ≤ d.q + 1)
      let e := d.onQp qp fun q => { q with rateAt := some d.q, rateStep := if halve then d.q + 1 else q.rateStep }
      exec (.cnpReceived qp) s = .next (s.settles (if halve then e.onRq qp fun r => { r with rateMbps := max 1000 (r.rateMbps / 2) } else e)))) ∧
  (∀ s qp q t, wfQp qp = true → s.qp? qp = some q → q.rateAt = some t → s.flag Reg.raeCtl 2 = true →
    let d := s.upTo (t + quantaUs 55)
    let top := d.linkMbps qp
    let e := d.onRq qp fun r => { r with rateMbps := min top (r.rateMbps + max 1 (d.fld Reg.raeCc 16 16)) }
    let full := match e.rq? qp with | some r => decide (top ≤ r.rateMbps) | none => true
    exec (.ccRateIncrease qp) s = .next (s.settles (e.onQp qp fun q => { q with rateAt := if full then none else some e.q }))) ∧
  (∀ s qp r, wfQp qp = true → s.rq? qp = some r →
    (∀ n, exec (.rqAckReceived qp n) s = .next (s.settles
      (let p := splitAcked r (min n 4096) r.reqs
       (s.completeWork qp p.1 p.2).forEach p.1 fun d w => d.workDone qp w))) ∧
    (s.rqFlying qp = true →
      exec (.rqNakReceived qp true) s = .next (s.settles (s.qpError qp 2)) ∧
      (r.retries < s.fld Reg.raeRetry 5 3 → exec (.rqNakReceived qp false) s = .next (s.settles
        ((s.onRq qp fun r => { r with retries := r.retries + 1 }).retransmit qp))) ∧
      (s.fld Reg.raeRetry 5 3 ≤ r.retries → exec (.rqNakReceived qp false) s = .next (s.settles (s.retryExceeded qp))) ∧
      (s.fld Reg.raeRetry 8 3 = 7 ∨ r.rnrRetries < s.fld Reg.raeRetry 8 3 → exec (.rnrRetryTimer qp) s = .next (s.settles
        ((s.onRq qp fun r => { r with rnrRetries := r.rnrRetries + 1 }).retransmit qp)))) ∧
    (∀ t q, s.oldestSent qp (fun _ => true) = some t → s.qp? qp = some q →
      exec (.rqAckTimeout qp) s = .next (s.settles ((s.upTo (t + q.ackTimeout)).retryOnce qp))) ∧
    (let k := (s.startable r).length
     let waiting := (r.reqs.filter fun w => !w.started).drop k
     let begun := (s.startable r).map fun w => { w with started := true, sentAt := s.q }
     let d := s.onRq qp fun r => { r with reqs := (r.reqs.filter WorkReq.started) ++ begun ++ waiting }
     exec (.workRequestWaitRelease qp) s = .next (s.settles
       ((d.forEach begun fun d w => (d.egressWork qp r w).emit (r.output qp w)).countRae 1 k))) ∧
    (∀ t, s.oldestSent qp WorkReq.isFlush = some t → exec (.flushTimeout qp) s = .next (s.settles
      (((s.upTo (t + quantaMs (max 1 (s.fld Reg.raePfWait 0 16)))).raise 0x129).endRq qp 3)))) ∧
  (∀ s i x t, i < 0x1000000 → s.inkOf i = some x → x.revoking = some t →
    exec (.revokeCut i) s = .next (s.settles ((s.upTo t.2).cutMessages i)))

/-- Drives and slots: commands end, are retried and time out, a controller that was reset comes back or not, slots boot, train, report errors and are
polled. -/
def Obligations.DriveRowsComplete : Prop :=
  (∀ s id c t, s.drvCmd? id = some c → c.at_ = some t →
    (∀ l, (∀ k, c.purpose ≠ .reserve k) →
      exec (.driveCompletion id .success l) s = .next (s.settles (((s.countDone c).dropDrvCmd c.id).driveDone c l))) ∧
    (∀ k l, c.purpose = .reserve k → exec (.driveCompletion id .success l) s = .next (s.settles (s.resvAcquired c.slot))) ∧
    (∀ st l, st ≠ .success → c.op = .read →
      exec (.driveCompletion id st l) s = .next (s.settles (((s.countDrive c.slot 9 1).dropDrvCmd c.id).driveReadFails c false))) ∧
    (∀ l, c.op ≠ .read →
      exec (.driveCompletion id .reservationConflict l) s = .next (s.settles (s.resvConflict c))) ∧
    (∀ st l, st ≠ .success → st ≠ .reservationConflict → c.op ≠ .read → c.op.writes = true →
      exec (.driveCompletion id st l) s = .next (s.settles (s.writeFailed c (st == .writeRetryable)))) ∧
    (∀ st l, st ≠ .success → st ≠ .reservationConflict → c.op ≠ .read → c.op.writes = false →
      exec (.driveCompletion id st l) s = .next (s.settles (s.otherFailed c))) ∧
    exec (.cmdTimeout id) s = .next (s.settles
      (((((s.upTo (t + s.timeoutOf c)).countDrive c.slot 3 1).raise 0x1C5)).escalate c.slot))) ∧
  (∀ s id c t, s.drvCmd? id = some c → c.retryAt = some t →
    exec (.driveWriteRetry id) s = .next (s.settles ((s.upTo t).onDrvCmd id fun c => { c with retryAt := none }))) ∧
  (∀ s slot, wfDrive slot = true → (s.slotAt slot).drive = .escalating →
    (s.slotAt slot).escStep ≠ 2 ∨ (s.slotAt slot).powerEn = true →
    exec (.ctrlResetResult slot true) s = .next (s.settles (s.escDone slot)) ∧
    (∀ t, (s.slotAt slot).escAt = some t → exec (.ctrlResetResult slot false) s = .next (s.settles
      (if (s.upTo t).flag Reg.dpcCtl 1 then (s.upTo t).escCycle slot else (s.upTo t).escFails slot)))) ∧
  (∀ s slot t, wfDrive slot = true →
    ((s.slotAt slot).offUntil = some t → exec (.slotPowerOffExpiry slot) s = .next (s.settles ((s.upTo t).powerOn slot))) ∧
    ((s.slotAt slot).bootAt = some t → let d := (s.upTo t).onSlot slot fun x => { x with bootAt := none }
      exec (.bootTimeout slot) s = .next (s.settles (if d.escalating slot then d.escFails slot else d.timedOut slot))) ∧
    ((s.slotAt slot).insertAt = some t → s.isActive = true →
      exec (.insertDelayExpiry slot) s = .next (s.settles ((s.upTo t).powerOn slot)))) ∧
  (∀ s slot, wfDrive slot = true →
    let mine (c : DriveCmd) : Bool := c.slot == slot && (match c.purpose with | .reserve _ => true | _ => false)
    s.drv.cmds.any mine = true →
    exec (.reservationAcquired slot) s = .next (s.settles
      (({ s.toDev with drv := { s.drv with cmds := s.drv.cmds.filter fun c => !(mine c) } } : Dev).onSlot slot fun x =>
        { x with holder := true, otherHolder := false, registered := true, respHold := false }))) ∧
  (∀ s slot speed width, slot < 48 → speed < 3 → width ≤ 4 → (s.slotAt slot).present = true → (s.slotAt slot).powerEn = true →
    let x := s.slotAt slot
    let v := max speed (min 2 (s.fld (portReg slot 0) 0 2))
    let d := s.onSlot slot fun x => { x with speed := v, narrow := decide (width = 1), contained := false }
    let e := if (v ≠ 0 ∨ width = 1) ∧ d.hqe.pstate = 0 ∧ !d.entering then d.raise 0x1C1 else d
    exec (.driveLinkTrained slot speed width) s = .next (s.settles
      (if x.drive = .initialising ∧ x.speed = 3 then e.admin slot identifyController else e))) ∧
  (∀ s slot kind, wfDrive slot = true → kind ≠ .surpriseDown →
    let d := ((s.logAer slot (aerBit kind)).countDrive slot 8 1).raise 0x1C3
    exec (.aerError slot kind) s = .next (s.settles
      (if d.flag (portReg slot 0) 4 then
        ((((d.onSlot slot fun x => { x with contained := true, speed := 3 }).countDrive slot 6 1).raise 0x1C2)).escalate slot
       else d.escalate slot))) ∧
  (∀ s slot, wfDrive slot = true →
    let x := s.slotAt slot
    let fresh := decide (x.aerFrom + quantaMs 1000 ≤ s.q) || x.aerCount == 0
    let n := if fresh then 1 else x.aerCount + 1
    let d := ((s.logAer slot 0).countDrive slot 7 1).onSlot slot fun y =>
      { y with aerCount := n, aerFrom := if fresh then s.q else y.aerFrom }
    exec (.aerCorrectable slot) s = .next (s.settles (if 1000 < n then d.raise 0x1C4 else d))) ∧
  (∀ s slot, wfDrive slot = true →
    exec (.driveAsyncEvent slot true) s = .next (s.becomes (s.raise 0x1CA)) ∧
    exec (.driveAsyncEvent slot false) s = .next (s.becomes s.toDev)) ∧
  (∀ s l, l.length = 12 → l.all SlotReading.wf = true → s.flag Reg.sltCtl 0 = true →
    exec (.slotPoll l) s = .next (s.settles
      (s.forEach (List.range 12) fun d n => match l[n]? with | some r => d.pollQuad n r | none => d)))

/-- Members, locks, windows and check values: a member failure is declared, a range lock is granted, a class window opens, a read is delivered, and
the check-value engine tags and verifies a block. -/
def Obligations.MediaRowsComplete : Prop :=
  (∀ s j rest, s.rly.jobs = j :: rest → j.kind = .declare → j.step = 3 → j.writes = [] →
    exec .declarationEffect s = .next (s.settles (s.declare j))) ∧
  (∀ s m, m < 64 → s.isLive m = true → m ∉ s.rly.triggers →
    exec (.memberFailDeclare m) s = .next (s.settles
      (((s.onRly fun r => { r with triggers := r.triggers ++ [m], jobs := r.jobs ++ [⟨.declare, m, 0, 0, [], none⟩] }).labelProgress).judgeRaised))) ∧
  (∀ s id l, s.lock? id = some l → s.grantable l = true →
    exec (.rangeLockGrant id) s = .next (s.settles ((s.grantLock l).lockGoes l.holder))) ∧
  (∀ s cls t, cls < 16 → s.classOpen cls = false → s.nextOpen cls = some t →
    exec (.classWindowOpen cls) s = .next (s.settles (s.upTo t))) ∧
  (∀ s id r, s.read? id = some r →
    (∀ qp cid, r.owner = .nvme qp cid → exec (.readDelivery id) s = .next (s.settles (s.nvmeReadProgress id))) ∧
    (∀ c, r.owner = .packet c → let k := r.skip r.blocks r.delivered
      let n := s.readyRun r k
      n ≠ 0 → r.poisoned = none → (s.onRead r.id fun r => { r with delivered := k }).rqRoom r.qp = true →
      exec (.readDelivery id) s = .next (s.settles
        (((s.onRead r.id fun r => { r with delivered := k }).onRead r.id fun r => { r with delivered := k + n, ends := r.ends ++ [k + n] }).postWork
          r.qp (.plain (.write (r.addr + (r.span k n).1) r.key (r.payload k n)) (some r.id) none))))) ∧
  (∀ s r, s.cveNext = some r → s.cve.restarting = false →
    (r.tag = true → exec .cveTagRequest s = .next (s.settles (s.laneTags r))) ∧
    (r.tag = false → exec .cveVerifyRequest s = .next (s.settles (s.laneVerifies r))))

/-- The record log: batches end, the mirror is fed, acknowledged and lost, the partner is discovered, and after a restart the log is read back and the
map loaded. -/
def Obligations.LogRowsComplete : Prop :=
  (∀ s, s.blt.open_ ≠ [] → exec .batchExpiry s = .next (s.settles (s.upTo s.batchEnd).issueBlock)) ∧
  (∀ s records payload a ra, s.fov.role = .standby →
    let last := (s.blt.warm.map fun x => x.2.rsn).foldl max 0
    let l := List.mergeSort (records.filter fun r => r.crcOk && decide (last < r.rsn)) fun x y => decide (x.rsn ≤ y.rsn)
    let d := (s.forEach l fun d r => d.applyWarm r).onBlt fun b =>
      { b with warm := b.warm ++ l.map fun r => (a, r)
               warmPayloads := payload.foldl (fun t p => sput (fun _ => []) t p.1 p.2) b.warmPayloads
               warmRa := max b.warmRa ra, warmA := max b.warmA a }
    let e := d.emit (.partnerMirrorAck ((d.blt.warm.map fun x => x.2.rsn).foldl max 0))
    exec (.mirrorRecordsReceived records payload a ra) s = .next (s.settles
      (if e.blt.mirror = .resync ∧ e.lay.state = 3 then (e.onBlt fun b => { b with mirror := .live }).raise 0x181 else e))) ∧
  (∀ s rsn, exec (.mirrorAckReceived rsn) s = .next (s.settles (s.onBlt fun b =>
    let m := max b.mirrored (min rsn b.mirrorSent)
    { b with mirrored := m, mirrorAt := if b.mirrorSent ≤ m then none else b.mirrorAt.map fun _ => s.q + quantaMs 1 }).judgeMirror)) ∧
  (∀ s t, s.blt.mirrorAt = some t → s.blt.mirror = .live →
    exec .mirrorAckTimeout s = .next (s.settles (s.upTo t).loseMirror)) ∧
  (∀ s low high rv mv,
    (commonVersion low.toNat high.toNat 0x10 0x11 = none → exec (.partnerDiscovered low high rv mv) s = .next (s.settles
      (({ s.toDev with fov := { s.fov with partnerVersion := 0 } } : Dev).raise 0x0B3))) ∧
    (∀ v, commonVersion low.toNat high.toNat 0x10 0x11 = some v →
      let d : Dev := { s.toDev with fov := { s.fov with partnerVersion := v } }
      (rv.toNat ≠ 0x10 → exec (.partnerDiscovered low high rv mv) s = .next (s.settles (d.raise 0x189))) ∧
      (rv.toNat = 0x10 → mv.toNat ≠ 0x10 → exec (.partnerDiscovered low high rv mv) s = .next (s.settles (d.raise 0x162))) ∧
      (rv.toNat = 0x10 → mv.toNat = 0x10 → s.flag Reg.bltCtl 0 = true → s.lay.state = 3 →
        (s.isActive = true → exec (.partnerDiscovered low high rv mv) s = .next (s.settles d.sendKeys.enterResync)) ∧
        (s.isActive = false → s.fov.role = .standby →
          exec (.partnerDiscovered low high rv mv) s = .next (s.settles (d.onBlt fun b => { b with mirror := .resync })))))) ∧
  (∀ s, s.blt.mirror = .resync →
    exec .partnerCheckpointLoaded s = .next (s.settles (s.onBlt fun b => { b with partnerLoaded := true }).judgeMirror)) ∧
  (∀ s t, s.blt.remirror ≠ [] → s.blt.remirrorLate = false → s.openUntil [4] (quantaMs 64) 200000 s.blt.remirrorFrom 0 = some t →
    exec .remirrorLate s = .next (s.settles (((s.upTo t).onBlt fun b => { b with remirrorLate := true }).raise 0x185))) ∧
  (∀ s l, s.blt.replay = 0 → (s.clk.step = 13 ∧ s.clk.done = false ∧ s.clk.failed = false ∧ s.isActive = true) ∨ s.resumesFull = true →
    ((keepOne l).any (fun b => !b.isPayload && b.headerVersion != 0x10) = false →
      exec (.blotterReplay l) s = .next (s.settles (s.fixWindow (keepOne l)))) ∧
    ((keepOne l).any (fun b => !b.isPayload && b.headerVersion != 0x10) = true →
      exec (.blotterReplay l) s = .next (s.settles ((s.onBlt fun b => { b with stopped := true, replay := 0 }).raise 0x189)))) ∧
  (∀ s l entries gov, (s.clk.step = 14 ∧ s.clk.done = false ∧ s.clk.failed = false ∧ s.blt.replay ≤ 1) ∨ (s.resumesFull = true ∧ s.blt.replay = 1) →
    let best := l.filterMap fun x => (bestLabel x.2).map fun b => (x.1, b)
    leadLabel (best.filter fun x => labelServed x.2) = some gov → (s.isActive && s.blt.stopped) = false →
    let retired := match s.savedFor gov.2.identity with | some x => x.retired | none => []
    let d := s.loadArray gov.2 l entries
    let e := if d.isActive then d.loadActive gov.2 l retired else d.loadStandby retired
    exec (.mapLoad l entries) s = .next (s.settles (if e.isActive then e.acquireAll else e)))

/-- The admin commands and Fabrics commands of an NVMe host: each is answered on its own queue (R188 to R190, R195, R198). -/
def Obligations.HostAdminRowsComplete : Prop :=
  (∀ s c x q, c.wf = true → s.nvmeQp? c.qp = some x → let d := (s.firstPacket x).countHqe 0 1
    d.nvmeQueue? c.qp = none → d.flag Reg.hqeCtl 0 = true → ∀ l b, d.lvy.liveries.find? (fun l => l.name == c.subNqn) = some l →
    d.bindingOf c.hostNqn = some b → d.mapPid b.pid = some l.num → c.qid = 0 → c.cntlid = 0xFFFF → d.freeCntlid = some q →
    let k : Controller :=
      { cntlid := q, livery := l.num, generation := d.generation l.num, hostNqn := c.hostNqn, hostId := c.hostId,
        discovery := c.subNqn == discoveryNqn, cc := 0, csts := 0, katoMs := d.applyKato c.katoMs, kaAt := d.q, ioQueues := 0,
        aerConfig := 0, resvMask := 0, pendingNotice := [], changedNs := [], resvLog := [], errors := 0 }
    exec (.nvmeConnect c) s = .next (s.settles ((d.onHqe fun h => { h with controllers := h.controllers ++ [k] }).joinQueue c l.num q))) ∧
  (∀ s c d q k, Taken s c d q k →
    (∀ v, k.property c.cdw11.toNat = some v → exec (.propertyGet c) s = .next (s.settles
      (d.replyCapsule c 0 (if bits c.cdw10.toNat 0 3 = 1 then v else v % 2 ^ 32) []))) ∧
    (c.cdw11.toNat = 0x14 →
      let e := d.onController k.cntlid fun k => { k with cc := c.cdw12 }
      let e := if bit c.cdw12.toNat 0 then e.onController k.cntlid fun k => { k with csts := 1 } else e.resetController k.cntlid
      let e := if bits c.cdw12.toNat 14 2 = 0 then e else
        e.onController k.cntlid fun k => { k with csts := BitVec.ofNat 32 (setBits k.csts.toNat 2 2 2) }
      exec (.propertySet c) s = .next (s.settles (e.replyCapsule c 0 0 [])))) ∧
  (∀ s c d q k, Taken s c d q k → q.qid = 0 →
    (∀ l, d.identifyData k (bits c.cdw10.toNat 0 8) c.nsid = some l →
      exec (.identify c) s = .next (s.settles (d.replyCapsule c 0 0 l))) ∧
    (bits c.cdw10.toNat 0 8 = 0x0B → exec (.getFeatures c) s = .next (s.settles (d.replyCapsule c 0 k.aerConfig.toNat [])) ∧
      exec (.setFeatures c) s = .next (s.settles
        ((d.onController k.cntlid fun k => { k with aerConfig := c.cdw11 }).replyCapsule c 0 0 []))) ∧
    (bits c.cdw10.toNat 0 8 = 0x0F → exec (.getFeatures c) s = .next (s.settles (d.replyCapsule c 0 k.katoMs [])) ∧
      exec (.setFeatures c) s = .next (s.settles
        ((d.onController k.cntlid fun x => { x with katoMs := d.applyKato c.cdw11.toNat }).replyCapsule c 0 0 []))) ∧
    (bits c.cdw10.toNat 0 8 = 0x07 →
      exec (.getFeatures c) s = .next (s.settles (d.replyCapsule c 0 (((k.ioQueues + 65535) % 65536) * 65537) [])) ∧
      exec (.setFeatures c) s = .next (s.settles (d.grantQueues c k))) ∧
    (∀ l, d.logPage k (bits c.cdw10.toNat 0 8) = some l →
      let lid := bits c.cdw10.toNat 0 8
      let e := d.onController k.cntlid fun k =>
        if bit c.cdw10.toNat 15 then k
        else if lid = 4 then { k with changedNs := [] }
        else if lid = 0x80 then { k with resvLog := k.resvLog.drop 1 } else k
      exec (.getLogPage c) s = .next (s.settles (e.replyCapsule c 0 0
        ((l.drop (c.cdw12.toNat + 2 ^ 32 * c.cdw13.toNat)).take (4 * (bits c.cdw10.toNat 16 16 + 2 ^ 16 * bits c.cdw11.toNat 0 16 + 1)))))) ∧
    exec (.keepAlive c) s = .next (s.settles ((d.onController k.cntlid fun k => { k with kaAt := d.q }).replyCapsule c 0 0 [])) ∧
    ((d.hqe.cmds.filter fun x => x.op == 0x10C && x.qp == c.qp).length < 4 →
      exec (.asynchronousEventRequest c) s = .next (s.settles ((d.keepNvme c 0x10C q 0).sendNotices k.cntlid))) ∧
    (d.anaState = 1 → bits c.cdw10.toNat 0 4 = 0 →
      let stripes := ceilDiv (clampNat 1 (2 ^ 52 - 1) (fieldAt c.data 0 8)) (max d.geo.lb 1)
      ∀ n, d.objectFault stripes = none → d.freeObject = some n →
      exec (.namespaceManagement c) s = .next (s.settles
        (((d.keepNvme c 0x10D q 0).onNvme c.qp c.cid fun x => { x with stage := 8, aux := [0, n] }).change
          (.objCreate { num := n, kind := .ns, livery := k.livery, blocks := stripes * max d.geo.lb 1, length := 0, accepted := 0,
                        reserved := stripes, frames := [], ordinal := 0,
                        chunks := [(freeChunks d.allRuns (chunksFor stripes), chunksFor stripes)] }) none))) ∧
    exec (.abort c) s = .next (s.settles ((d.replyCapsule c 0 1 []).countHqe 6 1)))

/-- The I/O commands of an NVMe host enter their queue in order and every queued command moves on; an opcode that is not served is refused; a pull, a
keep-alive time and an overdue command have their effects (R191 to R197). -/
def Obligations.HostIoRowsComplete : Prop :=
  (∀ s c d q k i op, Taken s c d q k → q.qid ≠ 0 → q.lastFuse = none → c.fuse = 0 →
    (i, op) ∈ [(Instr.nvmeFlush c, 0x00), (Instr.nvmeWrite c, 0x01), (Instr.nvmeRead c, 0x02), (Instr.writeZeroes c, 0x08),
      (Instr.datasetManagement c, 0x09), (Instr.reservationRegister c, 0x0D), (Instr.reservationReport c, 0x0E),
      (Instr.reservationAcquire c, 0x11), (Instr.reservationRelease c, 0x15)] →
    let e := d.onHqe fun h => { h with queues := modifyAt NvmeQueue.qp c.qp (fun q => { q with lastFuse := none }) h.queues }
    exec i s = .next (s.settles (((e.wakeShelf).keepNvme c op q 0).nvmeProgress))) ∧
  (∀ s c d q k, Taken s c d q k → q.lastFuse = none →
    let e := d.onHqe fun h =>
      { h with queues := modifyAt NvmeQueue.qp c.qp (fun q => { q with lastFuse := if c.fuse = 1 then some c.cid else none }) h.queues }
    exec (.invalidCommandOpcode c) s = .next (s.settles (e.replyCapsule c invalidOpcode 0 []))) ∧
  (∀ s qp cid data c, wfQp qp = true → wfCid cid = true → s.nvme? qp cid = some c → c.stage = 3 →
    exec (.rdmaReadPullDone qp cid data) s = .next (s.settles
      ((((((s.fillLanding c.landing (fit c.bytes data)).release 12 1).countHqe 10 c.bytes).onNvme qp cid fun x =>
        { x with pull := false }).askIoLock c).nvmeProgress))) ∧
  (∀ s n k, wfCid n = true → s.controller? n = some k → k.katoMs ≠ 0 →
    let d := s.upTo (k.kaAt + quantaMs k.katoMs)
    let qps := (d.hqe.queues.filter fun q => q.cntlid == k.cntlid).map NvmeQueue.qp
    exec (.katoExpired n) s = .next (s.settles
      ((((d.endController k.cntlid).emitAll (qps.map fun q => .cm q .dreq)).countHqe 4 1).raise 0x140))) ∧
  (∀ s qp cid c t, wfQp qp = true → wfCid cid = true → s.nvme? qp cid = some c → c.overdueAt = some t →
    exec (.cmdOverdue qp cid) s = .next (s.settles
      ((((s.upTo t).onNvme qp cid fun c => { c with overdueAt := none }).countHqe 7 1).raise 0x142)))

/-- Memory errors, clocks, command processors and temperature: errors are counted and delivered, scrubbing reads on, a fill ends, a clock check and
a stopped processor have their effects. -/
def Obligations.MemoryAndClockRowsComplete : Prop :=
  (∀ s m a device high, wfAddress m a = true → device < 32 →
    exec (.correctableError m a device high) s = .next (s.becomes
      (((s.onMem fun x => { x with ceWindow := x.ceWindow ++ [(m, device)] }).countMem m 0).countMem m (if high then 3 else 2)))) ∧
  (∀ s m a syn r, wfAddress m a = true →
    exec (.uncorrectableError m a syn r) s = .next (s.settles (((s.poisonWord m a).uncorrectable m a syn.toNat).deliverUe m r))) ∧
  (∀ s m, m < 7 →
    let l := s.ceIn m
    let d := if max 1 (s.fld Reg.memCeThr 0 16) ≤ l.length then s.raise 0x061 else s.toDev
    let e := if 2 ≤ m ∧ m < 6 ∧ ceMajority l = true then (d.setFld Reg.memStatus (6 + m) 1 1).raise 0x065 else d
    exec (.ceRateWindow m) s = .next (s.becomes (e.onMem fun x => { x with ceWindow := x.ceWindow.filter fun e => e.1 != m }))) ∧
  (∀ s g, g ∈ s.lay.reloading →
    let d := (s.onLay fun l => { l with reloading := l.reloading.erase g }).raise 0x066
    exec (.mapSegReload g) s = .next (s.settles
      (d.forEach (d.rd.reads.filter fun r => r.granted && !r.submitted) fun d r => d.askGranules r.id))) ∧
  (∀ s m, m < 7 → s.flag Reg.scbCtl m = true →
    let a := s.scrubAt m
    ((m, a) ∈ s.mem.poison →
      exec (.scrubRead m) s = .next (s.becomes ((((s.takeFree.2).uncorrectable m a (s.takeFree.1 % 2 ^ 32)).raise 0x071).scrubNext m))) ∧
    ((m, a) ∉ s.mem.poison → (m, a) ∈ s.mem.flipped →
      exec (.scrubRead m) s = .next (s.becomes
        (((s.onMem fun x => { x with flipped := x.flipped.filter fun p => p != (m, a) }).correctable m 0 false).scrubNext m))) ∧
    ((m, a) ∉ s.mem.poison → (m, a) ∉ s.mem.flipped → exec (.scrubRead m) s = .next (s.becomes (s.scrubNext m)))) ∧
  (∀ s m v, let k := min 6 (bits v.toNat 0 3)
    let d := s.setRaw Reg.memInj (k + 8 * bits v.toNat 3 1)
    exec (.memInjArm m v) s = .next (s.becomes
      (if bit v.toNat 4 then d.onMem fun x => { x with inject := some (k, bit v.toNat 3) } else d))) ∧
  (∀ s failed, failed < 128 → s.clk.step = 7 → s.clk.inReset = false → s.clk.failed = false →
    exec (.memoryFill failed) s = .next (s.becomes
      (((s.onMem fun x => { x with filled := decide (failed = 0) }).setRaw Reg.memStatus
        (setBits (setBit (s.raw Reg.memStatus) 0) 1 7 failed)).raise 0x060))) ∧
  (∀ s khz, khz.length = 61 →
    let f := faultyDomains khz
    (f.any coreDomain = true → exec (.clockCheck khz) s = .next (s.settles (s.enterReset 5))) ∧
    (f.any coreDomain = false → s.clk.inReset = true → exec (.clockCheck khz) s = .next (s.settles (s.leaveReset 5))) ∧
    (f.any coreDomain = false → s.clk.inReset = false →
      let d := (s.clockShown khz).forEach (f.filter fun i => !(s.clk.faulty.contains i)) fun d i => d.clockLost i
      exec (.clockCheck khz) s = .next (s.settles (if f.any fun i => decide (i < 60) then d.raise 0x023 else d)))) ∧
  (∀ s i, i < 4 → bit s.cp.run i = true →
    let d : Dev := ({ s.toDev with cp := { s.cp with run := clearBit s.cp.run i } } : Dev).endInstance i
    let e := match d.lowestRunning with
      | some j => { d with cp := { d.cp with owner := d.cp.owner.map fun o => if o = i then j else o } }
      | none => d
    exec (.cpStopped i) s = .next (s.settles ((e.setFld Reg.cmdErr (4 + i) 1 1).raise 0x018))) ∧
  (∀ s t, t < 4096 →
    let was := s.fld Reg.mcrTemp 0 12
    let d := s.setRaw Reg.mcrTemp (t + 65536 * max t (s.fld Reg.mcrTemp 16 12))
    let reaches (limit : Nat) : Bool := decide (was < 8 * limit) && decide (8 * limit ≤ t)
    let e := if reaches (d.fld Reg.mcrTherm 0 8) then d.raise 0x010 else d
    exec (.tempSample t) s = .next (s.becomes (if reaches (e.fld Reg.mcrTherm 8 8) then e.raise 0x011 else e))) ∧
  (∀ s cage, cage < 12 → exec (.plugInModuleOverpower cage) s = .next (s.becomes
    ((s.forEach (List.range 8) fun d i => d.linkChange (8 * cage + i) false).onPort cage fun p => { p with cageOff := true })))

/-- How commands arrive: held and ordered commands start, a session ends by silence, a doorbell rings, and frames come in by a port or by Tandem. -/
def Obligations.ArrivalRowsComplete : Prop :=
  (∀ s id c rts, s.cmd? id = some c → c.phase = .held rts →
    let d := s.upTo (s.quantumOfRts rts)
    d.stateFault c.op c.pkt.generation c.livery = none →
    exec (.heldCommandDispatch id) s = .next (s.serves (d.startCmd c))) ∧
  (∀ s id c, s.cmd? id = some c → c.phase = .waiting → s.mustWait c = false → s.served c.op = true →
    exec (.ordCommandStart id) s = .next (s.serves (s.checkCmd c))) ∧
  (∀ s k x t, s.session? k = some x → x.idleAt = some t →
    exec (.udpSessionIdle k) s = .next (s.serves ((s.upTo t).closeSession k))) ∧
  (∀ s r pi pasid slots, r < 8 → pi < 65536 → slots.length ≤ 8 → s.blockServed 0x0F = true →
    let d := s.fillSlots r slots
    let cfg := d.raw (Reg.mepRingCfg + 16 * r)
    let q := Reg.mepRingReq + 16 * r
    let was := (d.fld q 0 16 + 65536 - d.fld q 16 16) % 65536
    let n := (pi + 65536 - d.fld q 16 16) % 65536
    bit cfg 0 = true →
    (n ≤ 8 → was ≤ n → (bit cfg 1 = true → pasid ≠ none) →
      let mark := if bit cfg 1 then pasid.getD 0 + 1 else 0
      exec (.mailboxDoorbell r pi pasid slots) s = .next (s.serves ((d.setFld q 0 16 pi).onMep fun m =>
        { m with rings := m.rings.modify r fun g =>
          { g with pasids := (List.range' was (n - was)).foldl (fun t k => sput (fun _ => 0) t ((d.fld q 16 16 + k) % 8) mark) g.pasids } }))) ∧
    (8 < n → exec (.mailboxDoorbell r pi pasid slots) s = .next (s.serves ((d.countMep 2 1).raise 0x0D0)))) ∧
  (∀ s f, f.wf = true → s.linkUp f.link = true → 64 ≤ f.length → f.length ≤ s.fld (ethReg Reg.ethCtl (f.link / 8)) 8 14 → f.fcsOk = true →
    let d := (s.countEth f.link 0 1).countEth f.link 1 f.length
    d.clk.done = true →
    (∀ en times, f.kind = .pfc en times → exec (.ethFrameReceived f) s = .next (s.serves (d.pfcIn f.link en times))) ∧
    (∀ x, (∀ en times, f.kind ≠ .pfc en times) → d.stage2 f = some x →
      exec (.ethFrameReceived f) s = .next (s.serves (d.stage3 x commandSink)))) ∧
  (∀ s f, f.wf = true → s.linkUp f.link = true → s.tandemRole f.link = true → s.clk.done = true →
    (f.type = 3 → f.version.toNat / 16 = 1 → exec (.tandemFrameReceived f) s = .next (s.serves ((s.countTdm f.link 9 1).helloIn f))) ∧
    (f.type < 3 → (s.tdmLink f.link).state = 2 → f.version.toNat = (s.tdmLink f.link).version →
      exec (.tandemFrameReceived f) s = .next (s.serves ((s.countTdm f.link 9 1).resequence f fun d f => d.tandemDeliver f)))) ∧
  (∀ s source flow c h t, wfCid source = true → wfFlow flow = true → s.reseq? source flow = some c → c.held = h :: t →
    let low := t.foldl (fun (a b : HeldFrame) => if seqAhead c.expected b.seq < seqAhead c.expected a.seq then b else a) h
    let d := s.upTo (h.at_ + ceilDiv (s.fld Reg.tdmTiming 0 16 * 4) 5)
    exec (.reseqFlush source flow) s = .next (s.serves
      ((d.reseqSkip c low.seq low.frame.link fun d f => d.tandemDeliver f).reseqRun source flow (fun d f => d.tandemDeliver f) 256)))

/-- RoCE packets in order: a Write is placed and acknowledged, a Read is answered with its data, a Send is delivered, and a Placement Flush is answered;
an unsupported operation draws its NAK, a duplicate its answer again, a gap its NAK once, and a fetched context takes what was parked for it. -/
def Obligations.RocePacketsComplete : Prop :=
  (∀ s h d q key va length data k, InOrder s h d q → wfKey key = true → wfVa va = true → wfMsgLen length = true → length ≠ 0 →
    let e := d.passed q h.psn 1
    e.accessOk { q with state := .ready } key va length true = true → e.inkOf (key / 256) = some k →
    let l := data.take length
    let a : Admitted := { ink := key / 256, next := va + l.length, stop := va + length, cutAt := none, cut := false }
    let f := (((e.onQp q.num fun x => { x with admitted := some a }).place4k k va l).roceAck q.num h.psn)
    exec (.rdmaWrite h key va length true true data) s = .next (s.serves (f.messagePlaced q.num a none)) ∧
    (∀ imm, exec (.rdmaWriteWithImmediate h key va length true true data imm) s = .next (s.serves (f.messagePlaced q.num a (some imm))))) ∧
  (∀ s h d q key va length k, InOrder s h d q → wfKey key = true → wfVa va = true → wfMsgLen length = true → length ≠ 0 →
    let e := d.passed q h.psn (d.readPackets length)
    e.accessOk { q with state := .ready } key va length false = true → e.inkAt key = some k → e.inkPoisoned k va length = false →
    exec (.rdmaRead h key va length) s = .next (s.serves
      ((e.emit (.roce q.num (.readResponse h.psn (e.inkRead k va length)))).countRae 1 1))) ∧
  (∀ s h d q l, InOrder s h d q → q.nvme = false → d.buffersFull = false → l.length ≤ 8192 → ¬(l.length = 32 ∧ fieldAt l 0 1 = 0) →
    exec (.roceSend h l) s = .next (s.serves
      (((d.passed q h.psn (d.readPackets l.length)).roceAck q.num h.psn).receiveBytes ⟨.rdma, q.num, none⟩ l))) ∧
  (∀ s qp d q, InOrder s (s.nextHdr qp) d q → q.nvme = false →
    let e := (d.passed q (s.nextHdr qp).psn 1).roceAck q.num (s.nextHdr qp).psn
    (∀ n, exec (.placementFlushRequest qp n) s = .next (s.serves ((e.emit (.placementReply q.num n)).countRae 1 1))) ∧
    (∀ n, exec (.placementFlushReply qp n) s = .next (s.serves (e.flushReplied q.num n)))) ∧
  (∀ s h d q, InOrder s h d q →
    exec (.unsupportedOp h .memoryWindow) s = .next (s.serves (((d.passed q h.psn 1).nakAccess q.num h.psn).raise 0x124)) ∧
    exec (.unsupportedOp h .atomic) s = .next (s.serves ((d.passed q h.psn 1).nakInvalid q.num h.psn))) ∧
  (∀ s h d q key va length, Reaches s h d q → wfKey key = true → wfVa va = true → wfMsgLen length = true →
    2 ^ 23 ≤ psnAhead q.expected h.psn →
    exec (.duplicatePacket h false key va length) s = .next (s.serves ((d.countRae 8 1).roceAck q.num h.psn)) ∧
    (∀ k, (d.countRae 8 1).inkOf (key / 256) = some k → va + length ≤ k.size →
      exec (.duplicatePacket h true key va length) s = .next (s.serves
        (((d.countRae 8 1).emit (.roce q.num (.readResponse h.psn ((d.countRae 8 1).inkRead k va length)))).countRae 1 1)))) ∧
  (∀ s h d q, Reaches s h d q → 0 < psnAhead q.expected h.psn → psnAhead q.expected h.psn < 2 ^ 23 →
    (q.nakSent = false → exec (.psnSequenceError h) s = .next (s.serves
      (((d.onQp q.num fun x => { x with nakSent := true }).emit (.roce q.num (.nakSequence q.expected))).countRae 5 1))) ∧
    (q.nakSent = true → exec (.psnSequenceError h) s = .next (s.serves d))) ∧
  (∀ s qp q, wfQp qp = true → (s.qp? qp).filter (fun q => q.fetching && !q.resident) = some q → s.makeRoom.2 = true →
    let d := s.makeRoom.1.sample 12 0 ((s.makeRoom.1.q - q.usedAt) * 5 / 4)
    let e := d.onQp qp fun q => { q with resident := true, fetching := false, parked := [], usedAt := d.q }
    let order := q.parked.foldl (fun l p => placeParked q.expected p l) []
    exec (.contextFetchDone qp) s = .next (s.serves (e.forEach order fun d p =>
      match d.qp? qp with
      | some q => if q.state = .error then d.countRae 13 1 else d.rocePacket q p.psn p.cmd
      | none => d.roceDrop)))

/-! ## Steps and the queue -/

/-- A step runs the command at the front of the queue, on the module and the rest of the queue. -/
def Obligations.StepRunsFront : Prop := ∀ (c : Instr) (rest : List Instr) (d : Dev), step ⟨d, c :: rest⟩ = exec c ⟨d, rest⟩

/-- With no command waiting, a step lets one quantum of time pass (the model's choice: DESIGN CHOICE: assumption log, entry 2). -/
def Obligations.EmptyQueuePassesTime : Prop :=
  ∀ d : Dev, step ⟨d, []⟩ = .next ⟨(({ d with q := d.q + 1 } : Dev).serveRings.settle).pmcSync, []⟩

/-- A command that cannot reach the module is turned away by name; every other answers a next state, whatever the state it meets, and leaves the
queue as it is. -/
def Obligations.EveryCommandIsServed : Prop :=
  ∀ (c : Instr) (s : State),
    (c.wf = false → exec c s = .fault .noSuchCommand) ∧
    (c.wf = true → ∃ d : Dev, exec c s = .next (s.becomes d))

/-- A step on a queue of commands that can reach the module answers a next state that has taken the front one, and the queue stays such a queue. -/
def Obligations.QueueStaysServed : Prop :=
  ∀ s : State, s.QueueWf → ∃ t, step s = .next t ∧ t.pending = s.pending.tail ∧ t.QueueWf

/-- After reset no command waits, the memories list nothing and every byte of them reads as zero (R431), no event has been raised, every counter is
zero, and the registers hold the reset values of their tables (20 of them
named); a queue with nothing in it is one of commands that can reach the module. -/
def Obligations.ResetState : Prop :=
  let s := State.reset
  s.pending = [] ∧ s.QueueWf ∧ s.mem.hbm = [] ∧ s.mem.ddr = [] ∧ (∀ a, Memory.get s.mem.hbm a = 0 ∧ Memory.get s.mem.ddr a = 0) ∧
  s.evtSeq = 0 ∧ (∀ b i k, s.ctr b i k = 0) ∧ (∀ k, s.raw k = (resetWord k).toNat) ∧
  ∀ x ∈ [(Reg.mcrTherm, 0x6E5F), (Reg.evtCtl, 3), (Reg.memCeThr, 1000), (Reg.scbCtl, 0x7F), (Reg.wblCtl, 1), (Reg.cmdSessIdle, 30000),
      (Reg.cmdCookieHold, 10), (Reg.rulLpf, 1125), (ethReg Reg.ethPfcWd 11, 100), (Reg.raeMtu, 5), (Reg.inkRevokeWait, 10),
      (Reg.hqeKato, 10000), (Reg.layCkpt, 0x103E8), (Reg.nibSub, 16000), (Reg.otrRate, 64), (Reg.rlyBudget, 0xF0003C), (Reg.fovTiming, 0x7D00064),
      (Reg.drlCtl, 10), (Reg.tdmTiming, 0x303E8), (Reg.mepRingCfg, 1)],
    s.raw x.1 = x.2

/-! ## Packets and check sums (R64 to R66) -/

/-- Reading the bytes of a request gives its opcode and every field of its header back, with the CRC that stands in bytes 28 to 31. -/
def Obligations.RequestBytesReadBack : Prop :=
  ∀ (op : Nat) (p : Packet), op < 65536 → p.wf = true →
    let wire := (packetBytes op p).take 28 ++ leBytes 4 p.crc.toNat ++ (packetBytes op p).drop 32
    wire.length = 32 + 8 * p.plen ∧ packetOf p.src p.delivered wire = (op, { p with params := fit (8 * p.plen) p.params })

/-- A request that is cut short, too long, or fails its CRC is discarded: it is counted, no reply leaves and no command begins; a UDP duplicate of a
cached request draws the cached reply again, and one of a running command nothing. -/
def Obligations.UnsoundRequestsAreDiscarded : Prop :=
  ∀ (d : Dev) (op : Nat) (p : Packet), d.takesFrom p.src.transport = true →
    (packetFits p = false ∨ p.crc.toNat ≠ packetCrc op p →
      let e := d.setRaw Reg.cmdRxDiscard (min (d.raw Reg.cmdRxDiscard + 1) 0xFFFFFFFF)
      d.receive op p = (if d.raw Reg.cmdRxDiscard = 0 then e.raise 0x01E else e) ∧ d.signalled (d.receive op p) = d.receive op p) ∧
    (packetFits p = true → p.crc.toNat = packetCrc op p → ∀ x, d.sessionAt p.src = some x →
      let e := d.onSession x.id fun y => { y with idleAt := if y.idleMs = 0 then none else some (d.q + quantaMs y.idleMs) }
      (∀ r, e.duplicateOf x p = some (some r) → d.receive op p = (e.countReg Reg.cmdDupCnt 1).send r) ∧
      (e.duplicateOf x p = some none → d.receive op p = e.countReg Reg.cmdDupCnt 1))

/-- A session beyond the 4,096th is refused with RESOURCE_LIMIT and detail 0x0001, and SESSION_LIMIT is raised; one on an endpoint that has a session, or
below the limit, leaves no more than 4,096. -/
def Obligations.SessionLimit : Prop :=
  ∀ s p n d c, Started s 0x0001 p n d c → max (c.par 0 1) 0x10 ≤ min (c.par 1 1) 0x12 → d.sessionAt c.pkt.src = none →
    (4096 ≤ d.cp.sessions.length →
      exec (.sessionOpen p) s = .next (s.serves (((d.setFld Reg.cmdErr 0 1 1).raise 0x01B).fail c 0x800B 0x0001))) ∧
    (d.cp.sessions.length < 4096 → (d.runSessionOpen c).cp.sessions.length ≤ 4096)

/-! ## Operands -/

/-- A value field is brought into its range, and its clamp is reported exactly when that changes it: reason 1 below the minimum, 2 above the maximum,
with the value asked for and the one applied. -/
def Obligations.FieldsAreClamped : Prop :=
  ∀ (p : List Byte) (off bt width lo hi : Nat), lo ≤ hi →
    let v := paramBits p off bt width
    let r := clampParam p off bt width lo hi
    lo ≤ r.1 ∧ r.1 ≤ hi ∧ (lo ≤ v → v ≤ hi → r = (v, [])) ∧
    (v < lo → r = (lo, [⟨off, bt, width, 1, v, lo⟩])) ∧ (hi < v → r = (hi, [⟨off, bt, width, 2, v, hi⟩]))

/-- A step cookie holds the slot of its operation, the use count of that slot modulo 256 and the step number modulo 65,536, and an Inkwell key is current
when its index is registered and its tag is that index's tag. -/
def Obligations.CookiesAndKeys : Prop :=
  (∀ l : LongOp, l.slot < 256 →
    l.cookie < 2 ^ 32 ∧ bits l.cookie 24 8 = l.slot ∧ bits l.cookie 16 8 = l.use % 256 ∧ bits l.cookie 0 16 = l.step % 65536) ∧
  (∀ (d : Dev) (key : Nat) (k : Inkwell), key < 2 ^ 32 →
    (d.inkAt key = some k ↔ d.inkOf (bits key 8 24) = some k ∧ d.tagOf (bits key 8 24) = bits key 0 8))

/-! ## Time -/

/-- Which of two RTS of one epoch is later, and that a due time of 2^31 frames or more ahead counts as already passed. -/
def Obligations.LaterTimes : Prop :=
  (∀ (g : Geometry) (a b : Nat), 1 ≤ g.lpf → bits a 14 14 < g.lpf → bits b 14 14 < g.lpf →
    (0 < g.distance (g.pos b) (g.pos a) ↔
      (1 ≤ (bits a 28 32 + (2 ^ 32 - bits b 28 32)) % 2 ^ 32 ∧ (bits a 28 32 + (2 ^ 32 - bits b 28 32)) % 2 ^ 32 ≤ 2 ^ 31 - 1) ∨
      (bits a 28 32 = bits b 28 32 ∧
        (bits b 14 14 < bits a 14 14 ∨ (bits b 14 14 = bits a 14 14 ∧ bits b 0 14 < bits a 0 14))))) ∧
  (∀ (d : Dev) (rts : Nat), 1 ≤ d.rul.geo.lpf → bits rts 14 14 < d.rul.geo.lpf →
    2 ^ 31 ≤ (bits rts 28 32 + (2 ^ 32 - bits d.now 28 32)) % 2 ^ 32 → d.quantumOfRts rts = d.q)

/-- The RTS of a position holds its epoch, its frame modulo 2^32, its line and its subline in their fields. -/
def Obligations.TimestampFields : Prop :=
  ∀ (g : Geometry) (epoch pos : Nat), 1 ≤ g.lpf → g.lpf ≤ 16383 →
    let r := g.rts epoch pos
    r < 2 ^ 64 ∧ bits r 60 4 = epoch % 16 ∧ bits r 28 32 = pos / (g.lpf * 16384) % 2 ^ 32 ∧
    bits r 14 14 = pos / 16384 % g.lpf ∧ bits r 14 14 < g.lpf ∧ bits r 0 14 = pos % 16384

/-! ## Liveries -/

/-- An advance adds 1 to a generation and goes from 65,535 to 1, so a generation stays one of 1 to 65,535; a request outside group 0x00 is stale
exactly when its generation is not its livery's. -/
def Obligations.GenerationsAdvance : Prop :=
  (∀ g, 1 ≤ g → g < 65535 → nextGeneration g = g + 1) ∧ nextGeneration 65535 = 1 ∧
  (∀ g, 1 ≤ g → g ≤ 65535 → 1 ≤ nextGeneration g ∧ nextGeneration g ≤ 65535) ∧
  (∀ (d : Dev) (op generation n : Nat), op / 256 ≠ 0 →
    ((∃ k, d.stateFault op generation n = some (0x8005, 0, k)) ↔ generation ≠ d.generation n))

/-! ## Placement and parity (R238 to R242, R292) -/

/-- The W rows of a period are permutations of the members, and the strips of a physical stripe lie on distinct members. -/
def Obligations.StripsOnDistinctMembers : Prop :=
  (∀ (n w seed : Nat), 1 ≤ w → w ≤ n →
    (makePeriod n w seed).1.length = w ∧ ∀ r ∈ (makePeriod n w seed).1, r.toList.Perm (List.range n)) ∧
  (∀ (g : ArrayGeo) (p : Nat), 1 ≤ g.w → g.w ≤ g.n → p / g.n % 64 < min 64 g.periods → (g.withTable.stripeMembers p).Nodup)

/-- Any one or two data strips of a row are rebuilt from the others with P and Q. -/
def Obligations.LostStripsAreRebuilt : Prop :=
  ∀ (data : List (List Byte)) (dp : Nat), data.length ≤ 30 → data.length ≤ dp → (∀ b ∈ data, b.length = 4096) →
    (∀ x, x < data.length →
      solveRow data.length dp (fun i => if i = dp then some (parityP data) else if i = x ∨ data.length ≤ i then none else data[i]?) = some data ∧
      solveRow data.length dp (fun i => if i = dp + 1 then some (parityQ data) else if i = x ∨ data.length ≤ i then none else data[i]?) = some data) ∧
    (∀ x y, x < y → y < data.length →
      solveRow data.length dp (fun i => if i = dp then some (parityP data) else if i = dp + 1 then some (parityQ data)
        else if i = x ∨ i = y ∨ data.length ≤ i then none else data[i]?) = some data)

/-- Copy c of a position h goes to the member (3h + c) mod n of the live members in ascending order, the three copies lie on distinct members, and a
position that is opened takes the members of that moment and a write to each. -/
def Obligations.CopiesOnDistinctMembers : Prop :=
  ∀ (d : Dev) (h : Nat), 3 ≤ d.liveMembers.length →
    d.liveMembers.Pairwise (· < ·) ∧ (∀ m, m ∈ d.liveMembers ↔ m < d.members ∧ d.isLive m = true) ∧
    d.copyMembers h = (List.range 3).map (fun c => d.liveMembers.getD ((3 * h + c) % d.liveMembers.length) 0) ∧ (d.copyMembers h).Nodup ∧
    ∀ payload, d.openPosition payload =
      ((d.onBlt fun b => { b with head := b.head + 1, positions := b.positions ++ [⟨b.head, payload, d.copyMembers b.head, [], d.q⟩] }).forEach
        (d.copyMembers d.blt.head) (fun e m => e.writeHome d.blt.head m), d.blt.head)

/-! ## Memory (R429 to R431) -/

/-- A write through BAR2 stores exactly its enabled bytes, where the window places them, and changes no other byte and no other part of the module but
the words' check state; the memories stay in canonical form; and a read answers the bytes that stand there and changes none. -/
def Obligations.WindowAccessesAreExact : Prop :=
  ∀ (s : State) (a : Nat) (en : List Bool) (data : List Byte), data.length = en.length → a + data.length ≤ 0x100000000 → s.bar2Open = true →
    Memory.wf s.mem.hbm = true → Memory.wf s.mem.ddr = true →
    let w := s.winAddr a
    let space (d : Dev) : Memory := if s.flag Reg.mepWin 0 then d.mem.hbm else d.mem.ddr
    let other (d : Dev) : Memory := if s.flag Reg.mepWin 0 then d.mem.ddr else d.mem.hbm
    (s.flag Reg.mepCtl 1 = true → ∃ t : State, exec (.bar2Access true a en data) s = .next t ∧
      Memory.wf t.mem.hbm = true ∧ Memory.wf t.mem.ddr = true ∧ other t.toDev = other s.toDev ∧
      (∀ b, Memory.get (space t.toDev) b =
        if w ≤ b ∧ en.getD (b - w) false = true then data.getD (b - w) 0 else Memory.get (space s.toDev) b) ∧
      t = { s with mem := { s.mem with hbm := t.mem.hbm, ddr := t.mem.ddr, poison := t.mem.poison, flipped := t.mem.flipped,
                                       inject := t.mem.inject } }) ∧
    (s.poisonIn (s.flag Reg.mepWin 0) w data.length = none → ∃ t : State, exec (.bar2Access false a en data) s = .next t ∧
      t.mem.hbm = s.mem.hbm ∧ t.mem.ddr = s.mem.ddr ∧
      ∃ l, t.out.head? = some (.barData l false) ∧ l.length = data.length ∧
        ∀ i, i < data.length → l.getD i 0 = Memory.get (space s.toDev) (w + i))

/-- A read over a poisoned word answers it as uncorrectable; a write of the whole word clears the poison; a partial write is merged and leaves a
poisoned word poisoned. -/
def Obligations.PoisonFollowsWrites : Prop :=
  ∀ (s : State) (p : Nat × Nat) (a : Nat) (en : List Bool) (data : List Byte), p ∈ s.mem.poison → s.mem.inject = none →
    data.length = en.length → a + data.length ≤ 0x100000000 → s.bar2Open = true →
    let hbm := s.flag Reg.mepWin 0
    let w := s.winAddr a
    (wordHit hbm w data.length p = true → ∃ t : State, exec (.bar2Access false a en data) s = .next t ∧
      ∃ l, t.out.head? = some (.barData l true)) ∧
    (s.flag Reg.mepCtl 1 = true → ∃ t : State, exec (.bar2Access true a en data) s = .next t ∧
      (p ∉ t.mem.poison ↔ wordCovered hbm w data.length p = true ∧
        ∀ i, i < wordBytes p.1 → en.getD (spaceBase p.1 + p.2 - w + i) false = true))

/-! ## Events and monitors (R441, R455, R456) -/

/-- A source that an ERR bit gates is raised only while that bit is clear; the raise sets the bit and the pending bit, and changes nothing but what
raising may change. -/
def Obligations.GatedEventsAreRaisedOnce : Prop :=
  ∀ (d : Dev) (s k i : Nat) (l : Option Nat), errBit s = some (k, i) → swf resetWord d.regs = true →
    (d.flag k i = true → d.raiseL s l = d) ∧
    (d.flag k i = false → (d.raiseL s l).flag k i = true ∧ (d.raiseL s l).flag (Reg.evtPend + 4 * (s / 32)) (s % 32) = true ∧
      d.signalled (d.raiseL s l) = d.raiseL s l)

/-- What a monitor does with a sample v, and what a cleared monitor reads. -/
def Obligations.MonitorTakesSample : Prop :=
  (∀ (m : Monitor) (v : Nat), v ≤ 0xFFFFFFFF → swf (fun _ => 0) m.bins = true →
    let r := (m.sample v).1
    r.min = min m.min v ∧ r.max = max m.max v ∧ r.count = min (m.count + 1) (2 ^ 64 - 1) ∧ r.sum = min (m.sum + v) (2 ^ 64 - 1) ∧
    (v = 0 → sget (fun _ => 0) r.bins 0 = min (sget (fun _ => 0) m.bins 0 + 1) 0xFFFFFFFF) ∧
    (∀ k, 1 ≤ k → k ≤ 31 → (2 ^ (k - 1) ≤ v ∧ (v < 2 ^ k ∨ k = 31)) →
      sget (fun _ => 0) r.bins k = min (sget (fun _ => 0) m.bins k + 1) 0xFFFFFFFF ∧
      ∀ j, j ≠ k → sget (fun _ => 0) r.bins j = sget (fun _ => 0) m.bins j)) ∧
  Monitor.cleared.min = 0xFFFFFFFF ∧ Monitor.cleared.max = 0 ∧ Monitor.cleared.count = 0 ∧ Monitor.cleared.sum = 0 ∧
  ∀ k, sget (fun _ => 0) Monitor.cleared.bins k = 0

/-- A write of LMON_IDX copies the monitor that it names into the read registers; a clear clears the indexed monitor, and a write of LMON_SEL the same;
every other monitor, every performance counter and every other unit stays as it is. -/
def Obligations.MonitorRegisterRows : Prop :=
  ∀ (s : State) (m : Master) (v : Word), swf monitorDflt s.lmon.mons = true →
    (∃ t : State, exec (.lmonIdxCopy m v) s = .next t ∧ t.lmon.copy = s.monitor (v.toNat % 64) ∧ (∀ j, t.monitor j = s.monitor j) ∧
      t = { s with regs := t.regs, lmon := t.lmon }) ∧
    (∃ t : State, exec (.lmonClear m) s = .next t ∧ t.monitor (s.fld Reg.lmonIdx 0 6) = Monitor.cleared ∧
      (∀ j, j ≠ s.fld Reg.lmonIdx 0 6 → t.monitor j = s.monitor j) ∧ t = { s with lmon := t.lmon }) ∧
    (∃ t : State, exec (.lmonClearAll m) s = .next t ∧ (∀ j, t.monitor j = Monitor.cleared) ∧ t = { s with lmon := t.lmon }) ∧
    (∃ t : State, exec (.lmonSelWrite m v) s = .next t ∧ t.monitor (s.fld Reg.lmonIdx 0 6) = Monitor.cleared ∧
      (∀ j, j ≠ s.fld Reg.lmonIdx 0 6 → t.monitor j = s.monitor j) ∧ t = { s with regs := t.regs, lmon := t.lmon })

/-- A priority that stays paused beyond ETHn_PFC_WD.WD sets ETHn_ERR.PFC_WD and raises PFC_WATCHDOG, and the pause is honoured on. -/
def Obligations.WatchdogKeepsPause : Prop :=
  ∀ (s : State) (link prio : Nat) (p : Pause), link < 96 → prio < 8 → s.pause? link prio = some p → p.barked = false →
    p.since + quantaMs (s.fld (ethReg Reg.ethPfcWd (link / 8)) 0 16) < p.until_ → swf resetWord s.regs = true →
    ∃ t : State, exec (.pfcWatchdog link prio) s = .next t ∧ t.flag (ethReg Reg.ethErr (link / 8)) 9 = true ∧
      t.flag (Reg.evtPend + 4 * (0x0ED / 32)) (0x0ED % 32) = true ∧ (t.pause? link prio).map Pause.until_ = some p.until_ ∧
      t.toDev = { s.toDev.signalled t.toDev with q := t.q, tpk := { s.tpk with pauses := t.tpk.pauses } }

/-! ## What a row leaves unchanged -/

/-- A row that belongs to one unit changes that unit's part, named here, and what the raising of events and the counting of items may change; every
other register group, queue, table and byte of memory stays as it was. -/
def Obligations.RowsKeepToTheirUnits : Prop :=
  ∀ (c : Instr) (s t : State), exec c s = .next t →
    let f := s.toDev.signalled t.toDev
    match c with
    | .evtPendClear _ _ _ => t = { s with regs := t.regs }
    | .evtAlertMaskWrite _ _ _ => t = { s with regs := t.regs }
    | .tempSample _ => t = s.becomes f
    | .driveAsyncEvent _ _ => t = s.becomes f
    | .smbusStatus => t = s.becomes f
    | .smbusTimeout => t = s.becomes f
    | .pmcUpdateArrival => t = s.becomes { f with pmc := t.pmc, free := t.free }
    | .hbLineToggle => t = { s with pins := { s.pins with hbOut := t.pins.hbOut } }
    | .levelStall _ => t = s.becomes { f with q := t.q, drl := { s.drl with stallAt := t.drl.stallAt } }
    | .ckptLag _ => t = s.becomes { f with q := t.q }
    | .holdClkFault => t = s.becomes { f with rul := { s.rul with holdClkOk := false } }
    | .houseLineEdge _ => t = { s with q := t.q, rul := { s.rul with house := { s.rul.house with lines := s.rul.house.lines + 1 } } }
    | .correctableError _ _ _ _ => t = s.becomes { f with mem := { s.mem with ceWindow := t.mem.ceWindow } }
    | .ceRateWindow _ => t = s.becomes { f with mem := { s.mem with ceWindow := t.mem.ceWindow } }
    | .memInjArm _ _ => t = { s with regs := t.regs, mem := { s.mem with inject := t.mem.inject } }
    | .memoryFill _ => t = s.becomes { f with mem := { s.mem with filled := t.mem.filled } }
    | .pauseTimerExpiry _ _ => t = { s with q := t.q, tpk := { s.tpk with pauses := t.tpk.pauses } }
    | .pfcWatchdog _ _ => t = s.becomes { f with q := t.q, tpk := { s.tpk with pauses := t.tpk.pauses } }
    | .shaperRefill => t = { s with tpk := { s.tpk with
        shapers := t.tpk.shapers, policers := t.tpk.policers, ctl := t.tpk.ctl, shpPending := t.tpk.shpPending, polPending := t.tpk.polPending } }
    | .fecWindow _ _ _ => t = s.becomes f
    | .wblManual _ => t = s.becomes f
    | _ => True

end
end

