-- ==== Sys2Proof/Laws/Bytes.lean ====
section
/-! SUPPORT. The CRC of packets fits its 32-bit field (R66). -/

namespace Sys2Proof.Machine

/-- One bit of the CRC-32C keeps a 32-bit remainder. -/
theorem crcBit_lt {c : Nat} (h : c < 2 ^ 32) : crcBit 0x82F63B78 c < 2 ^ 32 := by
  unfold crcBit
  split
  · exact Nat.xor_lt_two_pow (by omega) (by decide)
  · omega

/-- One byte keeps it. -/
theorem crcByte_lt {c : Nat} (b : Byte) (h : c < 2 ^ 32) : crcByte 0x82F63B78 c b < 2 ^ 32 := by
  have hb : b.toNat < 2 ^ 32 := Nat.lt_of_lt_of_le b.isLt (by decide)
  exact crcBit_lt (crcBit_lt (crcBit_lt (crcBit_lt (crcBit_lt (crcBit_lt (crcBit_lt (crcBit_lt (Nat.xor_lt_two_pow h hb))))))))

/-- The CRC-32C of any bytes is a 32-bit value. -/
theorem crc32c_lt (l : List Byte) : crc32c l < 2 ^ 32 := by
  have go : ∀ (l : List Byte) (c : Nat), c < 2 ^ 32 → l.foldl (crcByte 0x82F63B78) c < 2 ^ 32 := by
    intro l
    induction l with
    | nil => intro c h; exact h
    | cons b l ih => intro c h; exact ih _ (crcByte_lt b h)
  exact Nat.xor_lt_two_pow (go l _ (by decide)) (by decide)

/-- A packet that carries the CRC of its bytes is sound. -/
theorem packetCrc_sound (op : Nat) (p : Packet) :
    let q : Packet := { p with crc := BitVec.ofNat 32 (packetCrc op p) }
    q.crc.toNat = packetCrc op q := by
  have h := crc32c_lt (packetBytes op p)
  show (BitVec.ofNat 32 (crc32c (packetBytes op p))).toNat = crc32c (packetBytes op p)
  rw [BitVec.toNat_ofNat]
  exact Nat.mod_eq_of_lt h

end Sys2Proof.Machine
end

