-- ==== Sys2Proof/Laws/Events.lean ====
section
/-! SUPPORT. What raising an event leaves unchanged: one lemma for each operation of the event controller. -/

namespace Sys2Proof.Machine

@[simp] theorem Dev.signalled_self (d : Dev) : d.signalled d = d := rfl

theorem Dev.signalled_trans {a b c : Dev} (h : a.signalled b = b) (k : b.signalled c = c) : a.signalled c = c := by
  rw [← k, ← h]; rfl

theorem Dev.setRaw_frame (d : Dev) (k v : Nat) : d.signalled (d.setRaw k v) = d.setRaw k v := rfl

theorem Dev.setFld_frame (d : Dev) (k l w v : Nat) : d.signalled (d.setFld k l w v) = d.setFld k l w v := rfl

theorem Dev.countReg_frame (d : Dev) (k n : Nat) : d.signalled (d.countReg k n) = d.countReg k n := rfl

theorem Dev.bump_frame (d : Dev) (b i t n : Nat) : d.signalled (d.bump b i t n) = d.bump b i t n := rfl

theorem Dev.emit_frame (d : Dev) (o : Output) : d.signalled (d.emit o) = d.emit o := rfl

theorem Dev.sendVector_frame (d : Dev) (v : Nat) : d.signalled (d.sendVector v) = d.sendVector v := rfl

theorem Dev.msix_frame (d : Dev) (v : Nat) : d.signalled (d.msix v) = d.msix v := by
  unfold Dev.msix
  split
  · split <;> rfl
  · rfl

theorem Dev.queueEvent_frame (d : Dev) (e : QueuedEvent) (o : Option Nat) : d.signalled (d.queueEvent e o).1 = (d.queueEvent e o).1 := by
  unfold Dev.queueEvent
  dsimp only
  split <;> rfl

theorem Dev.queueRecord_frame (d : Dev) (t : Nat) : d.signalled (d.queueRecord t).1 = (d.queueRecord t).1 := by
  unfold Dev.queueRecord
  split <;> rfl

theorem Dev.recordRaise_frame (d : Dev) (s : Nat) : d.signalled (d.recordRaise s).1 = (d.recordRaise s).1 := by
  unfold Dev.recordRaise
  split
  · exact d.queueRecord_frame s
  · rfl

theorem Dev.deliver_frame (d : Dev) (s : Nat) (l : Option Nat) (b : List Byte) (o : Option Nat) :
    d.signalled (d.deliver s l b o).1 = (d.deliver s l b o).1 := by
  unfold Dev.deliver
  dsimp only
  refine Dev.signalled_trans ?_ (Dev.queueEvent_frame _ _ _)
  split
  · rfl
  · exact Dev.signalled_trans rfl (Dev.msix_frame _ _)

theorem Dev.raiseQuiet_frame (d : Dev) (s k i : Nat) : d.signalled (d.raiseQuiet s k i).1 = (d.raiseQuiet s k i).1 := by
  unfold Dev.raiseQuiet
  split
  · rfl
  · exact Dev.signalled_trans (Dev.signalled_trans rfl (Dev.deliver_frame _ _ _ _ _)) (Dev.recordRaise_frame _ _)

theorem Dev.raiseAll_frame (d : Dev) (s : Nat) (l : Option Nat) (b : List Byte) (o : Option Nat) :
    d.signalled (d.raiseAll s l b o) = d.raiseAll s l b o := by
  unfold Dev.raiseAll
  dsimp only
  have h : d.signalled ((d.deliver s l b o).1.recordRaise s).1 = ((d.deliver s l b o).1.recordRaise s).1 :=
    Dev.signalled_trans (Dev.deliver_frame _ _ _ _ _) (Dev.recordRaise_frame _ _)
  split
  all_goals split
  · exact Dev.signalled_trans h (Dev.raiseQuiet_frame _ _ _ _)
  · exact h
  · exact Dev.signalled_trans (Dev.signalled_trans h (Dev.raiseQuiet_frame _ _ _ _)) (Dev.raiseQuiet_frame _ _ _ _)
  · exact Dev.signalled_trans h (Dev.raiseQuiet_frame _ _ _ _)

/-- Everything that a raise may change. -/
theorem Dev.raiseL_frame (d : Dev) (s : Nat) (l : Option Nat) : d.signalled (d.raiseL s l) = d.raiseL s l := by
  unfold Dev.raiseL
  split
  · split
    · rfl
    · exact Dev.signalled_trans rfl (Dev.raiseAll_frame _ _ _ _ _)
  · exact Dev.raiseAll_frame _ _ _ _ _

theorem Dev.raise_frame (d : Dev) (s : Nat) : d.signalled (d.raise s) = d.raise s := d.raiseL_frame s none

theorem Dev.trigger_frame (d : Dev) (t : Nat) : d.signalled (d.trigger t) = d.trigger t := by
  unfold Dev.trigger
  split
  · dsimp only
    split
    · exact Dev.signalled_trans (Dev.queueRecord_frame _ _) (Dev.raise_frame _ _)
    · exact Dev.queueRecord_frame _ _
  · rfl

end Sys2Proof.Machine
end

