-- ==== Sys2Proof/Laws/Memory.lean ====
section
/-! SUPPORT. The canonical form of sparse tables and of the memories: it is kept by every write, and reset has it. -/

namespace Sys2Proof.Machine

/-! ## Tables -/

/-- The canonical form in two parts: rising keys, and no entry with the value that an unlisted key holds. -/
theorem swf_iff {α : Type} [DecidableEq α] (dflt : Nat → α) (l : List (Nat × α)) :
    swf dflt l = true ↔ l.Pairwise (fun x y => x.1 < y.1) ∧ ∀ x ∈ l, x.2 ≠ dflt x.1 := by
  induction l with
  | nil => simp [swf]
  | cons p t ih =>
    obtain ⟨a, v⟩ := p
    cases t with
    | nil => simp [swf]
    | cons q t =>
      obtain ⟨b, w⟩ := q
      simp only [swf, Bool.and_eq_true, decide_eq_true_eq, ih, List.pairwise_cons, List.forall_mem_cons]
      constructor
      · rintro ⟨⟨hv, hab⟩, ⟨hb, ht⟩, hw, hr⟩
        exact ⟨⟨⟨hab, fun x hx => Nat.lt_trans hab (hb x hx)⟩, hb, ht⟩, hv, hw, hr⟩
      · rintro ⟨⟨⟨hab, _⟩, hb, ht⟩, hv, hw, hr⟩
        exact ⟨⟨hv, hab⟩, ⟨hb, ht⟩, hw, hr⟩

/-- The keys that a write leaves are those of the table and the one written. -/
theorem mem_sput {α : Type} [DecidableEq α] (dflt : Nat → α) (l : List (Nat × α)) (k : Nat) (v : α) (x : Nat × α)
    (h : x ∈ sput dflt l k v) : x ∈ l ∨ x = (k, v) ∧ v ≠ dflt k := by
  induction l with
  | nil =>
    unfold sput at h
    split at h <;> simp_all
  | cons p t ih =>
    obtain ⟨a, w⟩ := p
    unfold sput at h
    split at h
    · split at h <;> simp_all; rcases h with h | h | h <;> simp_all
    · split at h
      · split at h <;> simp_all; rcases h with h | h <;> simp_all
      · rcases List.mem_cons.1 h with h | h
        · simp_all
        · rcases ih h with h | h <;> simp_all

/-- A write keeps the canonical form. -/
theorem swf_sput {α : Type} [DecidableEq α] (dflt : Nat → α) (l : List (Nat × α)) (k : Nat) (v : α) (h : swf dflt l = true) :
    swf dflt (sput dflt l k v) = true := by
  rw [swf_iff] at h ⊢
  induction l with
  | nil => unfold sput; split <;> simp_all
  | cons p t ih =>
    obtain ⟨a, w⟩ := p
    obtain ⟨hp, hd⟩ := h
    rw [List.pairwise_cons] at hp
    rw [List.forall_mem_cons] at hd
    have it := ih ⟨hp.2, hd.2⟩
    unfold sput
    split
    · rename_i hk
      split
      · exact ⟨List.pairwise_cons.2 hp, List.forall_mem_cons.2 hd⟩
      · rename_i hv
        refine ⟨List.pairwise_cons.2 ⟨?_, List.pairwise_cons.2 hp⟩, List.forall_mem_cons.2 ⟨hv, List.forall_mem_cons.2 hd⟩⟩
        intro x hx
        rcases List.mem_cons.1 hx with hx | hx
        · subst hx; exact hk
        · exact Nat.lt_trans hk (hp.1 x hx)
    · split
      · rename_i hk
        subst hk
        split
        · exact ⟨hp.2, hd.2⟩
        · rename_i hv
          exact ⟨List.pairwise_cons.2 ⟨hp.1, hp.2⟩, List.forall_mem_cons.2 ⟨hv, hd.2⟩⟩
      · rename_i h1 h2
        refine ⟨List.pairwise_cons.2 ⟨?_, it.1⟩, List.forall_mem_cons.2 ⟨hd.1, it.2⟩⟩
        intro x hx
        rcases mem_sput dflt t k v x hx with hx | ⟨hx, _⟩
        · exact hp.1 x hx
        · subst hx
          show a < k
          omega

/-- What a table holds at the key that was written. -/
@[simp] theorem sget_sput_same {α : Type} [DecidableEq α] (dflt : Nat → α) (l : List (Nat × α)) (k : Nat) (v : α) (h : swf dflt l = true) :
    sget dflt (sput dflt l k v) k = v := by
  rw [swf_iff] at h
  induction l with
  | nil => unfold sput; split <;> simp_all [sget]
  | cons p t ih =>
    obtain ⟨a, w⟩ := p
    obtain ⟨hp, hd⟩ := h
    rw [List.pairwise_cons] at hp
    rw [List.forall_mem_cons] at hd
    have absent : ∀ (t : List (Nat × α)), (∀ x ∈ t, k < x.1) → sget dflt t k = dflt k := by
      intro t ht
      induction t with
      | nil => rfl
      | cons q t iq =>
        obtain ⟨b, u⟩ := q
        have := ht (b, u) (by simp)
        have hb : b ≠ k := by simp at this; omega
        simp only [sget, hb, if_false]
        exact iq fun x hx => ht x (by simp [hx])
    unfold sput
    split
    · rename_i hk
      split
      · rename_i hv
        rw [hv]
        exact absent _ (by
          intro x hx
          rcases List.mem_cons.1 hx with hx | hx
          · subst hx; exact hk
          · exact Nat.lt_trans hk (hp.1 x hx))
      · simp [sget]
    · split
      · rename_i hk
        subst hk
        split
        · rename_i hv
          rw [hv]
          exact absent _ fun x hx => hp.1 x hx
        · simp [sget]
      · rename_i h1 h2
        have : a ≠ k := fun e => h2 e.symm
        simp only [sget, this, if_false]
        exact ih ⟨hp.2, hd.2⟩

/-- A write leaves every other key alone. -/
@[simp] theorem sget_sput_other {α : Type} [DecidableEq α] (dflt : Nat → α) (l : List (Nat × α)) (k j : Nat) (v : α) (h : j ≠ k) :
    sget dflt (sput dflt l k v) j = sget dflt l j := by
  have hk : k ≠ j := fun e => h e.symm
  induction l with
  | nil => unfold sput; split <;> simp [sget, hk]
  | cons p t ih =>
    obtain ⟨a, w⟩ := p
    unfold sput
    split
    · split <;> simp [sget, hk]
    · split
      · rename_i e
        subst e
        split <;> simp [sget, hk]
      · simp only [sget, ih]

/-! ## Memories -/

/-- The cells of written bytes rise, lie in the written range, and list no byte that reads as unlisted. -/
theorem cellsFrom_spec (l : List Byte) (a : Nat) :
    (cellsFrom a l).Pairwise (fun x y => x.1 < y.1) ∧ ∀ c ∈ cellsFrom a l, a ≤ c.1 ∧ c.1 < a + l.length ∧ c.2 ≠ byteDflt c.1 := by
  induction l generalizing a with
  | nil => simp [cellsFrom]
  | cons b t ih =>
    have it := ih (a + 1)
    have later : ∀ c ∈ cellsFrom (a + 1) t, a < c.1 ∧ a ≤ c.1 ∧ c.1 < a + (b :: t).length ∧ c.2 ≠ byteDflt c.1 := by
      intro c hc
      have := it.2 c hc
      simp only [List.length_cons]
      exact ⟨by omega, by omega, by omega, this.2.2⟩
    unfold cellsFrom
    split
    · exact ⟨it.1, fun c hc => (later c hc).2⟩
    · rename_i hb
      refine ⟨List.pairwise_cons.2 ⟨fun c hc => (later c hc).1, it.1⟩, ?_⟩
      intro c hc
      rcases List.mem_cons.1 hc with hc | hc
      · subst hc
        simp only [List.length_cons]
        exact ⟨Nat.le_refl _, by omega, hb⟩
      · exact (later c hc).2

/-- A write of bytes keeps the canonical form of a memory. -/
theorem Memory.wf_write (m : Memory) (a : Nat) (l : List Byte) (h : Memory.wf m = true) : Memory.wf (Memory.write m a l) = true := by
  unfold Memory.wf at h ⊢
  rw [swf_iff] at h ⊢
  have hc := cellsFrom_spec l a
  unfold Memory.write
  dsimp only
  refine ⟨?_, ?_⟩
  · rw [List.pairwise_append, List.pairwise_append]
    refine ⟨⟨h.1.filter _, hc.1, ?_⟩, h.1.filter _, ?_⟩
    · intro x hx y hy
      have := (List.mem_filter.1 hx).2
      have := (hc.2 y hy).1
      simp_all
      omega
    · intro x hx y hy
      have hy' := (List.mem_filter.1 hy).2
      rcases List.mem_append.1 hx with hx | hx
      · have := (List.mem_filter.1 hx).2
        simp_all
        omega
      · have := hc.2 x hx
        simp_all
        omega
  · intro x hx
    rcases List.mem_append.1 hx with hx | hx
    · rcases List.mem_append.1 hx with hx | hx
      · exact h.2 x (List.mem_filter.1 hx).1
      · exact (hc.2 x hx).2.2
    · exact h.2 x (List.mem_filter.1 hx).1

/-- So does a write with byte enables. -/
theorem Memory.wf_writeWhere (m : Memory) (a : Nat) (l : List (Bool × Byte)) (h : Memory.wf m = true) :
    Memory.wf (Memory.writeWhere m a l) = true := Memory.wf_write m a _ h

/-- The memories of a module are in canonical form. -/
abbrev Mem.Canonical (m : Mem) : Prop := Memory.wf m.hbm = true ∧ Memory.wf m.ddr = true

theorem Mem.canonical_injected (m : Mem) (hbm : Bool) (a : Nat) (h : m.Canonical) : (m.injected hbm a).Canonical := by
  unfold Mem.injected
  split
  · exact h
  · split
    · exact h
    · split <;> exact h

theorem Mem.canonical_cleaned (m : Mem) (hbm : Bool) (a n : Nat) (h : m.Canonical) : (m.cleaned hbm a n).Canonical := h

theorem Mem.canonical_merged (m : Mem) (hbm : Bool) (a : Nat) (l : List (Bool × Byte)) (h : m.Canonical) : (m.merged hbm a l).Canonical := h

/-- A write of bytes to a space keeps the canonical form of both memories. -/
theorem Dev.canonical_spaceWrite (d : Dev) (hbm : Bool) (a : Nat) (l : List Byte) (h : d.mem.Canonical) : (d.spaceWrite hbm a l).mem.Canonical := by
  unfold Dev.spaceWrite Dev.onMem
  dsimp only
  have k : (if hbm then { d.mem with hbm := Memory.write d.mem.hbm a l } else { d.mem with ddr := Memory.write d.mem.ddr a l } : Mem).Canonical := by
    split
    · exact ⟨Memory.wf_write _ _ _ h.1, h.2⟩
    · exact ⟨h.1, Memory.wf_write _ _ _ h.2⟩
  split
  · exact k
  · exact Mem.canonical_injected _ _ _ (Mem.canonical_cleaned _ _ _ _ k)

/-- So does a write with byte enables. -/
theorem Dev.canonical_spaceWriteWhere (d : Dev) (hbm : Bool) (a : Nat) (l : List (Bool × Byte)) (h : d.mem.Canonical) :
    (d.spaceWriteWhere hbm a l).mem.Canonical := by
  unfold Dev.spaceWriteWhere Dev.onMem
  dsimp only
  have k : (if hbm then { d.mem with hbm := Memory.writeWhere d.mem.hbm a l } else { d.mem with ddr := Memory.writeWhere d.mem.ddr a l } : Mem).Canonical := by
    split
    · exact ⟨Memory.wf_writeWhere _ _ _ h.1, h.2⟩
    · exact ⟨h.1, Memory.wf_writeWhere _ _ _ h.2⟩
  split
  · exact Mem.canonical_injected _ _ _ (Mem.canonical_merged _ _ _ _ k)
  · exact k

/-- The memories of reset are in canonical form. -/
theorem reset_canonical : Dev.reset.mem.Canonical := ⟨rfl, rfl⟩

end Sys2Proof.Machine
end

