-- ==== Sys2Proof/Laws/State.lean ====
section
/-! SUPPORT. What each basic update of the state changes and what it leaves: one lemma for each field of each update. -/

namespace Sys2Proof.Machine

set_option Elab.async false

/-! ## What leaves the module, and the clock -/

@[simp] theorem Dev.emit_q (d : Dev) (o : Output) : (d.emit o).q = d.q := rfl
@[simp] theorem Dev.emit_free (d : Dev) (o : Output) : (d.emit o).free = d.free := rfl
@[simp] theorem Dev.emit_out (d : Dev) (o : Output) : (d.emit o).out = o :: d.out := rfl
@[simp] theorem Dev.emit_regs (d : Dev) (o : Output) : (d.emit o).regs = d.regs := rfl
@[simp] theorem Dev.emit_counters (d : Dev) (o : Output) : (d.emit o).counters = d.counters := rfl
@[simp] theorem Dev.emit_evtSeq (d : Dev) (o : Output) : (d.emit o).evtSeq = d.evtSeq := rfl
@[simp] theorem Dev.emit_held (d : Dev) (o : Output) : (d.emit o).held = d.held := rfl
@[simp] theorem Dev.emit_pins (d : Dev) (o : Output) : (d.emit o).pins = d.pins := rfl
@[simp] theorem Dev.emit_clk (d : Dev) (o : Output) : (d.emit o).clk = d.clk := rfl
@[simp] theorem Dev.emit_pes (d : Dev) (o : Output) : (d.emit o).pes = d.pes := rfl
@[simp] theorem Dev.emit_rul (d : Dev) (o : Output) : (d.emit o).rul = d.rul := rfl
@[simp] theorem Dev.emit_cp (d : Dev) (o : Output) : (d.emit o).cp = d.cp := rfl
@[simp] theorem Dev.emit_pmc (d : Dev) (o : Output) : (d.emit o).pmc = d.pmc := rfl
@[simp] theorem Dev.emit_lmon (d : Dev) (o : Output) : (d.emit o).lmon = d.lmon := rfl
@[simp] theorem Dev.emit_wbl (d : Dev) (o : Output) : (d.emit o).wbl = d.wbl := rfl
@[simp] theorem Dev.emit_mem (d : Dev) (o : Output) : (d.emit o).mem = d.mem := rfl
@[simp] theorem Dev.emit_mep (d : Dev) (o : Output) : (d.emit o).mep = d.mep := rfl
@[simp] theorem Dev.emit_fov (d : Dev) (o : Output) : (d.emit o).fov = d.fov := rfl
@[simp] theorem Dev.emit_tpk (d : Dev) (o : Output) : (d.emit o).tpk = d.tpk := rfl
@[simp] theorem Dev.emit_tdm (d : Dev) (o : Output) : (d.emit o).tdm = d.tdm := rfl
@[simp] theorem Dev.emit_rae (d : Dev) (o : Output) : (d.emit o).rae = d.rae := rfl
@[simp] theorem Dev.emit_hqe (d : Dev) (o : Output) : (d.emit o).hqe = d.hqe := rfl
@[simp] theorem Dev.emit_lvy (d : Dev) (o : Output) : (d.emit o).lvy = d.lvy := rfl
@[simp] theorem Dev.emit_lay (d : Dev) (o : Output) : (d.emit o).lay = d.lay := rfl
@[simp] theorem Dev.emit_nib (d : Dev) (o : Output) : (d.emit o).nib = d.nib := rfl
@[simp] theorem Dev.emit_blt (d : Dev) (o : Output) : (d.emit o).blt = d.blt := rfl
@[simp] theorem Dev.emit_otr (d : Dev) (o : Output) : (d.emit o).otr = d.otr := rfl
@[simp] theorem Dev.emit_rd (d : Dev) (o : Output) : (d.emit o).rd = d.rd := rfl
@[simp] theorem Dev.emit_rly (d : Dev) (o : Output) : (d.emit o).rly = d.rly := rfl
@[simp] theorem Dev.emit_drv (d : Dev) (o : Output) : (d.emit o).drv = d.drv := rfl
@[simp] theorem Dev.emit_cve (d : Dev) (o : Output) : (d.emit o).cve = d.cve := rfl
@[simp] theorem Dev.emit_drl (d : Dev) (o : Output) : (d.emit o).drl = d.drl := rfl
@[simp] theorem Dev.emitAll_q (d : Dev) (l : List Output) : (d.emitAll l).q = d.q := rfl
@[simp] theorem Dev.emitAll_free (d : Dev) (l : List Output) : (d.emitAll l).free = d.free := rfl
@[simp] theorem Dev.emitAll_out (d : Dev) (l : List Output) : (d.emitAll l).out = l.reverse ++ d.out := rfl
@[simp] theorem Dev.emitAll_regs (d : Dev) (l : List Output) : (d.emitAll l).regs = d.regs := rfl
@[simp] theorem Dev.emitAll_counters (d : Dev) (l : List Output) : (d.emitAll l).counters = d.counters := rfl
@[simp] theorem Dev.emitAll_evtSeq (d : Dev) (l : List Output) : (d.emitAll l).evtSeq = d.evtSeq := rfl
@[simp] theorem Dev.emitAll_held (d : Dev) (l : List Output) : (d.emitAll l).held = d.held := rfl
@[simp] theorem Dev.emitAll_pins (d : Dev) (l : List Output) : (d.emitAll l).pins = d.pins := rfl
@[simp] theorem Dev.emitAll_clk (d : Dev) (l : List Output) : (d.emitAll l).clk = d.clk := rfl
@[simp] theorem Dev.emitAll_pes (d : Dev) (l : List Output) : (d.emitAll l).pes = d.pes := rfl
@[simp] theorem Dev.emitAll_rul (d : Dev) (l : List Output) : (d.emitAll l).rul = d.rul := rfl
@[simp] theorem Dev.emitAll_cp (d : Dev) (l : List Output) : (d.emitAll l).cp = d.cp := rfl
@[simp] theorem Dev.emitAll_pmc (d : Dev) (l : List Output) : (d.emitAll l).pmc = d.pmc := rfl
@[simp] theorem Dev.emitAll_lmon (d : Dev) (l : List Output) : (d.emitAll l).lmon = d.lmon := rfl
@[simp] theorem Dev.emitAll_wbl (d : Dev) (l : List Output) : (d.emitAll l).wbl = d.wbl := rfl
@[simp] theorem Dev.emitAll_mem (d : Dev) (l : List Output) : (d.emitAll l).mem = d.mem := rfl
@[simp] theorem Dev.emitAll_mep (d : Dev) (l : List Output) : (d.emitAll l).mep = d.mep := rfl
@[simp] theorem Dev.emitAll_fov (d : Dev) (l : List Output) : (d.emitAll l).fov = d.fov := rfl
@[simp] theorem Dev.emitAll_tpk (d : Dev) (l : List Output) : (d.emitAll l).tpk = d.tpk := rfl
@[simp] theorem Dev.emitAll_tdm (d : Dev) (l : List Output) : (d.emitAll l).tdm = d.tdm := rfl
@[simp] theorem Dev.emitAll_rae (d : Dev) (l : List Output) : (d.emitAll l).rae = d.rae := rfl
@[simp] theorem Dev.emitAll_hqe (d : Dev) (l : List Output) : (d.emitAll l).hqe = d.hqe := rfl
@[simp] theorem Dev.emitAll_lvy (d : Dev) (l : List Output) : (d.emitAll l).lvy = d.lvy := rfl
@[simp] theorem Dev.emitAll_lay (d : Dev) (l : List Output) : (d.emitAll l).lay = d.lay := rfl
@[simp] theorem Dev.emitAll_nib (d : Dev) (l : List Output) : (d.emitAll l).nib = d.nib := rfl
@[simp] theorem Dev.emitAll_blt (d : Dev) (l : List Output) : (d.emitAll l).blt = d.blt := rfl
@[simp] theorem Dev.emitAll_otr (d : Dev) (l : List Output) : (d.emitAll l).otr = d.otr := rfl
@[simp] theorem Dev.emitAll_rd (d : Dev) (l : List Output) : (d.emitAll l).rd = d.rd := rfl
@[simp] theorem Dev.emitAll_rly (d : Dev) (l : List Output) : (d.emitAll l).rly = d.rly := rfl
@[simp] theorem Dev.emitAll_drv (d : Dev) (l : List Output) : (d.emitAll l).drv = d.drv := rfl
@[simp] theorem Dev.emitAll_cve (d : Dev) (l : List Output) : (d.emitAll l).cve = d.cve := rfl
@[simp] theorem Dev.emitAll_drl (d : Dev) (l : List Output) : (d.emitAll l).drl = d.drl := rfl
@[simp] theorem Dev.upTo_q (d : Dev) (t : Nat) : (d.upTo t).q = max d.q t := rfl
@[simp] theorem Dev.upTo_free (d : Dev) (t : Nat) : (d.upTo t).free = d.free := rfl
@[simp] theorem Dev.upTo_out (d : Dev) (t : Nat) : (d.upTo t).out = d.out := rfl
@[simp] theorem Dev.upTo_regs (d : Dev) (t : Nat) : (d.upTo t).regs = d.regs := rfl
@[simp] theorem Dev.upTo_counters (d : Dev) (t : Nat) : (d.upTo t).counters = d.counters := rfl
@[simp] theorem Dev.upTo_evtSeq (d : Dev) (t : Nat) : (d.upTo t).evtSeq = d.evtSeq := rfl
@[simp] theorem Dev.upTo_held (d : Dev) (t : Nat) : (d.upTo t).held = d.held := rfl
@[simp] theorem Dev.upTo_pins (d : Dev) (t : Nat) : (d.upTo t).pins = d.pins := rfl
@[simp] theorem Dev.upTo_clk (d : Dev) (t : Nat) : (d.upTo t).clk = d.clk := rfl
@[simp] theorem Dev.upTo_pes (d : Dev) (t : Nat) : (d.upTo t).pes = d.pes := rfl
@[simp] theorem Dev.upTo_rul (d : Dev) (t : Nat) : (d.upTo t).rul = d.rul := rfl
@[simp] theorem Dev.upTo_cp (d : Dev) (t : Nat) : (d.upTo t).cp = d.cp := rfl
@[simp] theorem Dev.upTo_pmc (d : Dev) (t : Nat) : (d.upTo t).pmc = d.pmc := rfl
@[simp] theorem Dev.upTo_lmon (d : Dev) (t : Nat) : (d.upTo t).lmon = d.lmon := rfl
@[simp] theorem Dev.upTo_wbl (d : Dev) (t : Nat) : (d.upTo t).wbl = d.wbl := rfl
@[simp] theorem Dev.upTo_mem (d : Dev) (t : Nat) : (d.upTo t).mem = d.mem := rfl
@[simp] theorem Dev.upTo_mep (d : Dev) (t : Nat) : (d.upTo t).mep = d.mep := rfl
@[simp] theorem Dev.upTo_fov (d : Dev) (t : Nat) : (d.upTo t).fov = d.fov := rfl
@[simp] theorem Dev.upTo_tpk (d : Dev) (t : Nat) : (d.upTo t).tpk = d.tpk := rfl
@[simp] theorem Dev.upTo_tdm (d : Dev) (t : Nat) : (d.upTo t).tdm = d.tdm := rfl
@[simp] theorem Dev.upTo_rae (d : Dev) (t : Nat) : (d.upTo t).rae = d.rae := rfl
@[simp] theorem Dev.upTo_hqe (d : Dev) (t : Nat) : (d.upTo t).hqe = d.hqe := rfl
@[simp] theorem Dev.upTo_lvy (d : Dev) (t : Nat) : (d.upTo t).lvy = d.lvy := rfl
@[simp] theorem Dev.upTo_lay (d : Dev) (t : Nat) : (d.upTo t).lay = d.lay := rfl
@[simp] theorem Dev.upTo_nib (d : Dev) (t : Nat) : (d.upTo t).nib = d.nib := rfl
@[simp] theorem Dev.upTo_blt (d : Dev) (t : Nat) : (d.upTo t).blt = d.blt := rfl
@[simp] theorem Dev.upTo_otr (d : Dev) (t : Nat) : (d.upTo t).otr = d.otr := rfl
@[simp] theorem Dev.upTo_rd (d : Dev) (t : Nat) : (d.upTo t).rd = d.rd := rfl
@[simp] theorem Dev.upTo_rly (d : Dev) (t : Nat) : (d.upTo t).rly = d.rly := rfl
@[simp] theorem Dev.upTo_drv (d : Dev) (t : Nat) : (d.upTo t).drv = d.drv := rfl
@[simp] theorem Dev.upTo_cve (d : Dev) (t : Nat) : (d.upTo t).cve = d.cve := rfl
@[simp] theorem Dev.upTo_drl (d : Dev) (t : Nat) : (d.upTo t).drl = d.drl := rfl

/-! ## Free values -/

@[simp] theorem Dev.takeFree_q (d : Dev)  : (d.takeFree.2).q = d.q := rfl
@[simp] theorem Dev.takeFree_free (d : Dev)  : (d.takeFree.2).free = d.free + 1 := rfl
@[simp] theorem Dev.takeFree_out (d : Dev)  : (d.takeFree.2).out = d.out := rfl
@[simp] theorem Dev.takeFree_regs (d : Dev)  : (d.takeFree.2).regs = d.regs := rfl
@[simp] theorem Dev.takeFree_counters (d : Dev)  : (d.takeFree.2).counters = d.counters := rfl
@[simp] theorem Dev.takeFree_evtSeq (d : Dev)  : (d.takeFree.2).evtSeq = d.evtSeq := rfl
@[simp] theorem Dev.takeFree_held (d : Dev)  : (d.takeFree.2).held = d.held := rfl
@[simp] theorem Dev.takeFree_pins (d : Dev)  : (d.takeFree.2).pins = d.pins := rfl
@[simp] theorem Dev.takeFree_clk (d : Dev)  : (d.takeFree.2).clk = d.clk := rfl
@[simp] theorem Dev.takeFree_pes (d : Dev)  : (d.takeFree.2).pes = d.pes := rfl
@[simp] theorem Dev.takeFree_rul (d : Dev)  : (d.takeFree.2).rul = d.rul := rfl
@[simp] theorem Dev.takeFree_cp (d : Dev)  : (d.takeFree.2).cp = d.cp := rfl
@[simp] theorem Dev.takeFree_pmc (d : Dev)  : (d.takeFree.2).pmc = d.pmc := rfl
@[simp] theorem Dev.takeFree_lmon (d : Dev)  : (d.takeFree.2).lmon = d.lmon := rfl
@[simp] theorem Dev.takeFree_wbl (d : Dev)  : (d.takeFree.2).wbl = d.wbl := rfl
@[simp] theorem Dev.takeFree_mem (d : Dev)  : (d.takeFree.2).mem = d.mem := rfl
@[simp] theorem Dev.takeFree_mep (d : Dev)  : (d.takeFree.2).mep = d.mep := rfl
@[simp] theorem Dev.takeFree_fov (d : Dev)  : (d.takeFree.2).fov = d.fov := rfl
@[simp] theorem Dev.takeFree_tpk (d : Dev)  : (d.takeFree.2).tpk = d.tpk := rfl
@[simp] theorem Dev.takeFree_tdm (d : Dev)  : (d.takeFree.2).tdm = d.tdm := rfl
@[simp] theorem Dev.takeFree_rae (d : Dev)  : (d.takeFree.2).rae = d.rae := rfl
@[simp] theorem Dev.takeFree_hqe (d : Dev)  : (d.takeFree.2).hqe = d.hqe := rfl
@[simp] theorem Dev.takeFree_lvy (d : Dev)  : (d.takeFree.2).lvy = d.lvy := rfl
@[simp] theorem Dev.takeFree_lay (d : Dev)  : (d.takeFree.2).lay = d.lay := rfl
@[simp] theorem Dev.takeFree_nib (d : Dev)  : (d.takeFree.2).nib = d.nib := rfl
@[simp] theorem Dev.takeFree_blt (d : Dev)  : (d.takeFree.2).blt = d.blt := rfl
@[simp] theorem Dev.takeFree_otr (d : Dev)  : (d.takeFree.2).otr = d.otr := rfl
@[simp] theorem Dev.takeFree_rd (d : Dev)  : (d.takeFree.2).rd = d.rd := rfl
@[simp] theorem Dev.takeFree_rly (d : Dev)  : (d.takeFree.2).rly = d.rly := rfl
@[simp] theorem Dev.takeFree_drv (d : Dev)  : (d.takeFree.2).drv = d.drv := rfl
@[simp] theorem Dev.takeFree_cve (d : Dev)  : (d.takeFree.2).cve = d.cve := rfl
@[simp] theorem Dev.takeFree_drl (d : Dev)  : (d.takeFree.2).drl = d.drl := rfl
@[simp] theorem Dev.takeFree_value (d : Dev) : d.takeFree.1 = Config.free d.free := rfl

/-! ## Registers and counters -/

@[simp] theorem Dev.setRaw_q (d : Dev) (k v : Nat) : (d.setRaw k v).q = d.q := rfl
@[simp] theorem Dev.setRaw_free (d : Dev) (k v : Nat) : (d.setRaw k v).free = d.free := rfl
@[simp] theorem Dev.setRaw_out (d : Dev) (k v : Nat) : (d.setRaw k v).out = d.out := rfl
@[simp] theorem Dev.setRaw_regs (d : Dev) (k v : Nat) : (d.setRaw k v).regs = sput resetWord d.regs k (BitVec.ofNat 32 v) := rfl
@[simp] theorem Dev.setRaw_counters (d : Dev) (k v : Nat) : (d.setRaw k v).counters = d.counters := rfl
@[simp] theorem Dev.setRaw_evtSeq (d : Dev) (k v : Nat) : (d.setRaw k v).evtSeq = d.evtSeq := rfl
@[simp] theorem Dev.setRaw_held (d : Dev) (k v : Nat) : (d.setRaw k v).held = d.held := rfl
@[simp] theorem Dev.setRaw_pins (d : Dev) (k v : Nat) : (d.setRaw k v).pins = d.pins := rfl
@[simp] theorem Dev.setRaw_clk (d : Dev) (k v : Nat) : (d.setRaw k v).clk = d.clk := rfl
@[simp] theorem Dev.setRaw_pes (d : Dev) (k v : Nat) : (d.setRaw k v).pes = d.pes := rfl
@[simp] theorem Dev.setRaw_rul (d : Dev) (k v : Nat) : (d.setRaw k v).rul = d.rul := rfl
@[simp] theorem Dev.setRaw_cp (d : Dev) (k v : Nat) : (d.setRaw k v).cp = d.cp := rfl
@[simp] theorem Dev.setRaw_pmc (d : Dev) (k v : Nat) : (d.setRaw k v).pmc = d.pmc := rfl
@[simp] theorem Dev.setRaw_lmon (d : Dev) (k v : Nat) : (d.setRaw k v).lmon = d.lmon := rfl
@[simp] theorem Dev.setRaw_wbl (d : Dev) (k v : Nat) : (d.setRaw k v).wbl = d.wbl := rfl
@[simp] theorem Dev.setRaw_mem (d : Dev) (k v : Nat) : (d.setRaw k v).mem = d.mem := rfl
@[simp] theorem Dev.setRaw_mep (d : Dev) (k v : Nat) : (d.setRaw k v).mep = d.mep := rfl
@[simp] theorem Dev.setRaw_fov (d : Dev) (k v : Nat) : (d.setRaw k v).fov = d.fov := rfl
@[simp] theorem Dev.setRaw_tpk (d : Dev) (k v : Nat) : (d.setRaw k v).tpk = d.tpk := rfl
@[simp] theorem Dev.setRaw_tdm (d : Dev) (k v : Nat) : (d.setRaw k v).tdm = d.tdm := rfl
@[simp] theorem Dev.setRaw_rae (d : Dev) (k v : Nat) : (d.setRaw k v).rae = d.rae := rfl
@[simp] theorem Dev.setRaw_hqe (d : Dev) (k v : Nat) : (d.setRaw k v).hqe = d.hqe := rfl
@[simp] theorem Dev.setRaw_lvy (d : Dev) (k v : Nat) : (d.setRaw k v).lvy = d.lvy := rfl
@[simp] theorem Dev.setRaw_lay (d : Dev) (k v : Nat) : (d.setRaw k v).lay = d.lay := rfl
@[simp] theorem Dev.setRaw_nib (d : Dev) (k v : Nat) : (d.setRaw k v).nib = d.nib := rfl
@[simp] theorem Dev.setRaw_blt (d : Dev) (k v : Nat) : (d.setRaw k v).blt = d.blt := rfl
@[simp] theorem Dev.setRaw_otr (d : Dev) (k v : Nat) : (d.setRaw k v).otr = d.otr := rfl
@[simp] theorem Dev.setRaw_rd (d : Dev) (k v : Nat) : (d.setRaw k v).rd = d.rd := rfl
@[simp] theorem Dev.setRaw_rly (d : Dev) (k v : Nat) : (d.setRaw k v).rly = d.rly := rfl
@[simp] theorem Dev.setRaw_drv (d : Dev) (k v : Nat) : (d.setRaw k v).drv = d.drv := rfl
@[simp] theorem Dev.setRaw_cve (d : Dev) (k v : Nat) : (d.setRaw k v).cve = d.cve := rfl
@[simp] theorem Dev.setRaw_drl (d : Dev) (k v : Nat) : (d.setRaw k v).drl = d.drl := rfl
@[simp] theorem Dev.setFld_q (d : Dev) (k lsb width v : Nat) : (d.setFld k lsb width v).q = d.q := rfl
@[simp] theorem Dev.setFld_free (d : Dev) (k lsb width v : Nat) : (d.setFld k lsb width v).free = d.free := rfl
@[simp] theorem Dev.setFld_out (d : Dev) (k lsb width v : Nat) : (d.setFld k lsb width v).out = d.out := rfl
@[simp] theorem Dev.setFld_regs (d : Dev) (k lsb width v : Nat) : (d.setFld k lsb width v).regs = sput resetWord d.regs k (BitVec.ofNat 32 (setBits (d.raw k) lsb width v)) := rfl
@[simp] theorem Dev.setFld_counters (d : Dev) (k lsb width v : Nat) : (d.setFld k lsb width v).counters = d.counters := rfl
@[simp] theorem Dev.setFld_evtSeq (d : Dev) (k lsb width v : Nat) : (d.setFld k lsb width v).evtSeq = d.evtSeq := rfl
@[simp] theorem Dev.setFld_held (d : Dev) (k lsb width v : Nat) : (d.setFld k lsb width v).held = d.held := rfl
@[simp] theorem Dev.setFld_pins (d : Dev) (k lsb width v : Nat) : (d.setFld k lsb width v).pins = d.pins := rfl
@[simp] theorem Dev.setFld_clk (d : Dev) (k lsb width v : Nat) : (d.setFld k lsb width v).clk = d.clk := rfl
@[simp] theorem Dev.setFld_pes (d : Dev) (k lsb width v : Nat) : (d.setFld k lsb width v).pes = d.pes := rfl
@[simp] theorem Dev.setFld_rul (d : Dev) (k lsb width v : Nat) : (d.setFld k lsb width v).rul = d.rul := rfl
@[simp] theorem Dev.setFld_cp (d : Dev) (k lsb width v : Nat) : (d.setFld k lsb width v).cp = d.cp := rfl
@[simp] theorem Dev.setFld_pmc (d : Dev) (k lsb width v : Nat) : (d.setFld k lsb width v).pmc = d.pmc := rfl
@[simp] theorem Dev.setFld_lmon (d : Dev) (k lsb width v : Nat) : (d.setFld k lsb width v).lmon = d.lmon := rfl
@[simp] theorem Dev.setFld_wbl (d : Dev) (k lsb width v : Nat) : (d.setFld k lsb width v).wbl = d.wbl := rfl
@[simp] theorem Dev.setFld_mem (d : Dev) (k lsb width v : Nat) : (d.setFld k lsb width v).mem = d.mem := rfl
@[simp] theorem Dev.setFld_mep (d : Dev) (k lsb width v : Nat) : (d.setFld k lsb width v).mep = d.mep := rfl
@[simp] theorem Dev.setFld_fov (d : Dev) (k lsb width v : Nat) : (d.setFld k lsb width v).fov = d.fov := rfl
@[simp] theorem Dev.setFld_tpk (d : Dev) (k lsb width v : Nat) : (d.setFld k lsb width v).tpk = d.tpk := rfl
@[simp] theorem Dev.setFld_tdm (d : Dev) (k lsb width v : Nat) : (d.setFld k lsb width v).tdm = d.tdm := rfl
@[simp] theorem Dev.setFld_rae (d : Dev) (k lsb width v : Nat) : (d.setFld k lsb width v).rae = d.rae := rfl
@[simp] theorem Dev.setFld_hqe (d : Dev) (k lsb width v : Nat) : (d.setFld k lsb width v).hqe = d.hqe := rfl
@[simp] theorem Dev.setFld_lvy (d : Dev) (k lsb width v : Nat) : (d.setFld k lsb width v).lvy = d.lvy := rfl
@[simp] theorem Dev.setFld_lay (d : Dev) (k lsb width v : Nat) : (d.setFld k lsb width v).lay = d.lay := rfl
@[simp] theorem Dev.setFld_nib (d : Dev) (k lsb width v : Nat) : (d.setFld k lsb width v).nib = d.nib := rfl
@[simp] theorem Dev.setFld_blt (d : Dev) (k lsb width v : Nat) : (d.setFld k lsb width v).blt = d.blt := rfl
@[simp] theorem Dev.setFld_otr (d : Dev) (k lsb width v : Nat) : (d.setFld k lsb width v).otr = d.otr := rfl
@[simp] theorem Dev.setFld_rd (d : Dev) (k lsb width v : Nat) : (d.setFld k lsb width v).rd = d.rd := rfl
@[simp] theorem Dev.setFld_rly (d : Dev) (k lsb width v : Nat) : (d.setFld k lsb width v).rly = d.rly := rfl
@[simp] theorem Dev.setFld_drv (d : Dev) (k lsb width v : Nat) : (d.setFld k lsb width v).drv = d.drv := rfl
@[simp] theorem Dev.setFld_cve (d : Dev) (k lsb width v : Nat) : (d.setFld k lsb width v).cve = d.cve := rfl
@[simp] theorem Dev.setFld_drl (d : Dev) (k lsb width v : Nat) : (d.setFld k lsb width v).drl = d.drl := rfl
@[simp] theorem Dev.countReg_q (d : Dev) (k n : Nat) : (d.countReg k n).q = d.q := rfl
@[simp] theorem Dev.countReg_free (d : Dev) (k n : Nat) : (d.countReg k n).free = d.free := rfl
@[simp] theorem Dev.countReg_out (d : Dev) (k n : Nat) : (d.countReg k n).out = d.out := rfl
@[simp] theorem Dev.countReg_regs (d : Dev) (k n : Nat) : (d.countReg k n).regs = sput resetWord d.regs k (BitVec.ofNat 32 (min (d.raw k + n) 0xFFFFFFFF)) := rfl
@[simp] theorem Dev.countReg_counters (d : Dev) (k n : Nat) : (d.countReg k n).counters = d.counters := rfl
@[simp] theorem Dev.countReg_evtSeq (d : Dev) (k n : Nat) : (d.countReg k n).evtSeq = d.evtSeq := rfl
@[simp] theorem Dev.countReg_held (d : Dev) (k n : Nat) : (d.countReg k n).held = d.held := rfl
@[simp] theorem Dev.countReg_pins (d : Dev) (k n : Nat) : (d.countReg k n).pins = d.pins := rfl
@[simp] theorem Dev.countReg_clk (d : Dev) (k n : Nat) : (d.countReg k n).clk = d.clk := rfl
@[simp] theorem Dev.countReg_pes (d : Dev) (k n : Nat) : (d.countReg k n).pes = d.pes := rfl
@[simp] theorem Dev.countReg_rul (d : Dev) (k n : Nat) : (d.countReg k n).rul = d.rul := rfl
@[simp] theorem Dev.countReg_cp (d : Dev) (k n : Nat) : (d.countReg k n).cp = d.cp := rfl
@[simp] theorem Dev.countReg_pmc (d : Dev) (k n : Nat) : (d.countReg k n).pmc = d.pmc := rfl
@[simp] theorem Dev.countReg_lmon (d : Dev) (k n : Nat) : (d.countReg k n).lmon = d.lmon := rfl
@[simp] theorem Dev.countReg_wbl (d : Dev) (k n : Nat) : (d.countReg k n).wbl = d.wbl := rfl
@[simp] theorem Dev.countReg_mem (d : Dev) (k n : Nat) : (d.countReg k n).mem = d.mem := rfl
@[simp] theorem Dev.countReg_mep (d : Dev) (k n : Nat) : (d.countReg k n).mep = d.mep := rfl
@[simp] theorem Dev.countReg_fov (d : Dev) (k n : Nat) : (d.countReg k n).fov = d.fov := rfl
@[simp] theorem Dev.countReg_tpk (d : Dev) (k n : Nat) : (d.countReg k n).tpk = d.tpk := rfl
@[simp] theorem Dev.countReg_tdm (d : Dev) (k n : Nat) : (d.countReg k n).tdm = d.tdm := rfl
@[simp] theorem Dev.countReg_rae (d : Dev) (k n : Nat) : (d.countReg k n).rae = d.rae := rfl
@[simp] theorem Dev.countReg_hqe (d : Dev) (k n : Nat) : (d.countReg k n).hqe = d.hqe := rfl
@[simp] theorem Dev.countReg_lvy (d : Dev) (k n : Nat) : (d.countReg k n).lvy = d.lvy := rfl
@[simp] theorem Dev.countReg_lay (d : Dev) (k n : Nat) : (d.countReg k n).lay = d.lay := rfl
@[simp] theorem Dev.countReg_nib (d : Dev) (k n : Nat) : (d.countReg k n).nib = d.nib := rfl
@[simp] theorem Dev.countReg_blt (d : Dev) (k n : Nat) : (d.countReg k n).blt = d.blt := rfl
@[simp] theorem Dev.countReg_otr (d : Dev) (k n : Nat) : (d.countReg k n).otr = d.otr := rfl
@[simp] theorem Dev.countReg_rd (d : Dev) (k n : Nat) : (d.countReg k n).rd = d.rd := rfl
@[simp] theorem Dev.countReg_rly (d : Dev) (k n : Nat) : (d.countReg k n).rly = d.rly := rfl
@[simp] theorem Dev.countReg_drv (d : Dev) (k n : Nat) : (d.countReg k n).drv = d.drv := rfl
@[simp] theorem Dev.countReg_cve (d : Dev) (k n : Nat) : (d.countReg k n).cve = d.cve := rfl
@[simp] theorem Dev.countReg_drl (d : Dev) (k n : Nat) : (d.countReg k n).drl = d.drl := rfl
@[simp] theorem Dev.bump_q (d : Dev) (blk inst item n : Nat) : (d.bump blk inst item n).q = d.q := rfl
@[simp] theorem Dev.bump_free (d : Dev) (blk inst item n : Nat) : (d.bump blk inst item n).free = d.free := rfl
@[simp] theorem Dev.bump_out (d : Dev) (blk inst item n : Nat) : (d.bump blk inst item n).out = d.out := rfl
@[simp] theorem Dev.bump_regs (d : Dev) (blk inst item n : Nat) : (d.bump blk inst item n).regs = d.regs := rfl
@[simp] theorem Dev.bump_counters (d : Dev) (blk inst item n : Nat) : (d.bump blk inst item n).counters = sput (fun _ => 0) d.counters (ctrKey blk inst item) ((d.ctr blk inst item + n) % 2 ^ 64) := rfl
@[simp] theorem Dev.bump_evtSeq (d : Dev) (blk inst item n : Nat) : (d.bump blk inst item n).evtSeq = d.evtSeq := rfl
@[simp] theorem Dev.bump_held (d : Dev) (blk inst item n : Nat) : (d.bump blk inst item n).held = d.held := rfl
@[simp] theorem Dev.bump_pins (d : Dev) (blk inst item n : Nat) : (d.bump blk inst item n).pins = d.pins := rfl
@[simp] theorem Dev.bump_clk (d : Dev) (blk inst item n : Nat) : (d.bump blk inst item n).clk = d.clk := rfl
@[simp] theorem Dev.bump_pes (d : Dev) (blk inst item n : Nat) : (d.bump blk inst item n).pes = d.pes := rfl
@[simp] theorem Dev.bump_rul (d : Dev) (blk inst item n : Nat) : (d.bump blk inst item n).rul = d.rul := rfl
@[simp] theorem Dev.bump_cp (d : Dev) (blk inst item n : Nat) : (d.bump blk inst item n).cp = d.cp := rfl
@[simp] theorem Dev.bump_lmon (d : Dev) (blk inst item n : Nat) : (d.bump blk inst item n).lmon = d.lmon := rfl
@[simp] theorem Dev.bump_wbl (d : Dev) (blk inst item n : Nat) : (d.bump blk inst item n).wbl = d.wbl := rfl
@[simp] theorem Dev.bump_mem (d : Dev) (blk inst item n : Nat) : (d.bump blk inst item n).mem = d.mem := rfl
@[simp] theorem Dev.bump_mep (d : Dev) (blk inst item n : Nat) : (d.bump blk inst item n).mep = d.mep := rfl
@[simp] theorem Dev.bump_fov (d : Dev) (blk inst item n : Nat) : (d.bump blk inst item n).fov = d.fov := rfl
@[simp] theorem Dev.bump_tpk (d : Dev) (blk inst item n : Nat) : (d.bump blk inst item n).tpk = d.tpk := rfl
@[simp] theorem Dev.bump_tdm (d : Dev) (blk inst item n : Nat) : (d.bump blk inst item n).tdm = d.tdm := rfl
@[simp] theorem Dev.bump_rae (d : Dev) (blk inst item n : Nat) : (d.bump blk inst item n).rae = d.rae := rfl
@[simp] theorem Dev.bump_hqe (d : Dev) (blk inst item n : Nat) : (d.bump blk inst item n).hqe = d.hqe := rfl
@[simp] theorem Dev.bump_lvy (d : Dev) (blk inst item n : Nat) : (d.bump blk inst item n).lvy = d.lvy := rfl
@[simp] theorem Dev.bump_lay (d : Dev) (blk inst item n : Nat) : (d.bump blk inst item n).lay = d.lay := rfl
@[simp] theorem Dev.bump_nib (d : Dev) (blk inst item n : Nat) : (d.bump blk inst item n).nib = d.nib := rfl
@[simp] theorem Dev.bump_blt (d : Dev) (blk inst item n : Nat) : (d.bump blk inst item n).blt = d.blt := rfl
@[simp] theorem Dev.bump_otr (d : Dev) (blk inst item n : Nat) : (d.bump blk inst item n).otr = d.otr := rfl
@[simp] theorem Dev.bump_rd (d : Dev) (blk inst item n : Nat) : (d.bump blk inst item n).rd = d.rd := rfl
@[simp] theorem Dev.bump_rly (d : Dev) (blk inst item n : Nat) : (d.bump blk inst item n).rly = d.rly := rfl
@[simp] theorem Dev.bump_drv (d : Dev) (blk inst item n : Nat) : (d.bump blk inst item n).drv = d.drv := rfl
@[simp] theorem Dev.bump_cve (d : Dev) (blk inst item n : Nat) : (d.bump blk inst item n).cve = d.cve := rfl
@[simp] theorem Dev.bump_drl (d : Dev) (blk inst item n : Nat) : (d.bump blk inst item n).drl = d.drl := rfl
@[simp] theorem Dev.bumpMax_q (d : Dev) (blk inst item n : Nat) : (d.bumpMax blk inst item n).q = d.q := rfl
@[simp] theorem Dev.bumpMax_free (d : Dev) (blk inst item n : Nat) : (d.bumpMax blk inst item n).free = d.free := rfl
@[simp] theorem Dev.bumpMax_out (d : Dev) (blk inst item n : Nat) : (d.bumpMax blk inst item n).out = d.out := rfl
@[simp] theorem Dev.bumpMax_regs (d : Dev) (blk inst item n : Nat) : (d.bumpMax blk inst item n).regs = d.regs := rfl
@[simp] theorem Dev.bumpMax_counters (d : Dev) (blk inst item n : Nat) : (d.bumpMax blk inst item n).counters = sput (fun _ => 0) d.counters (ctrKey blk inst item) (max (d.ctr blk inst item) n) := rfl
@[simp] theorem Dev.bumpMax_evtSeq (d : Dev) (blk inst item n : Nat) : (d.bumpMax blk inst item n).evtSeq = d.evtSeq := rfl
@[simp] theorem Dev.bumpMax_held (d : Dev) (blk inst item n : Nat) : (d.bumpMax blk inst item n).held = d.held := rfl
@[simp] theorem Dev.bumpMax_pins (d : Dev) (blk inst item n : Nat) : (d.bumpMax blk inst item n).pins = d.pins := rfl
@[simp] theorem Dev.bumpMax_clk (d : Dev) (blk inst item n : Nat) : (d.bumpMax blk inst item n).clk = d.clk := rfl
@[simp] theorem Dev.bumpMax_pes (d : Dev) (blk inst item n : Nat) : (d.bumpMax blk inst item n).pes = d.pes := rfl
@[simp] theorem Dev.bumpMax_rul (d : Dev) (blk inst item n : Nat) : (d.bumpMax blk inst item n).rul = d.rul := rfl
@[simp] theorem Dev.bumpMax_cp (d : Dev) (blk inst item n : Nat) : (d.bumpMax blk inst item n).cp = d.cp := rfl
@[simp] theorem Dev.bumpMax_pmc (d : Dev) (blk inst item n : Nat) : (d.bumpMax blk inst item n).pmc = d.pmc := rfl
@[simp] theorem Dev.bumpMax_lmon (d : Dev) (blk inst item n : Nat) : (d.bumpMax blk inst item n).lmon = d.lmon := rfl
@[simp] theorem Dev.bumpMax_wbl (d : Dev) (blk inst item n : Nat) : (d.bumpMax blk inst item n).wbl = d.wbl := rfl
@[simp] theorem Dev.bumpMax_mem (d : Dev) (blk inst item n : Nat) : (d.bumpMax blk inst item n).mem = d.mem := rfl
@[simp] theorem Dev.bumpMax_mep (d : Dev) (blk inst item n : Nat) : (d.bumpMax blk inst item n).mep = d.mep := rfl
@[simp] theorem Dev.bumpMax_fov (d : Dev) (blk inst item n : Nat) : (d.bumpMax blk inst item n).fov = d.fov := rfl
@[simp] theorem Dev.bumpMax_tpk (d : Dev) (blk inst item n : Nat) : (d.bumpMax blk inst item n).tpk = d.tpk := rfl
@[simp] theorem Dev.bumpMax_tdm (d : Dev) (blk inst item n : Nat) : (d.bumpMax blk inst item n).tdm = d.tdm := rfl
@[simp] theorem Dev.bumpMax_rae (d : Dev) (blk inst item n : Nat) : (d.bumpMax blk inst item n).rae = d.rae := rfl
@[simp] theorem Dev.bumpMax_hqe (d : Dev) (blk inst item n : Nat) : (d.bumpMax blk inst item n).hqe = d.hqe := rfl
@[simp] theorem Dev.bumpMax_lvy (d : Dev) (blk inst item n : Nat) : (d.bumpMax blk inst item n).lvy = d.lvy := rfl
@[simp] theorem Dev.bumpMax_lay (d : Dev) (blk inst item n : Nat) : (d.bumpMax blk inst item n).lay = d.lay := rfl
@[simp] theorem Dev.bumpMax_nib (d : Dev) (blk inst item n : Nat) : (d.bumpMax blk inst item n).nib = d.nib := rfl
@[simp] theorem Dev.bumpMax_blt (d : Dev) (blk inst item n : Nat) : (d.bumpMax blk inst item n).blt = d.blt := rfl
@[simp] theorem Dev.bumpMax_otr (d : Dev) (blk inst item n : Nat) : (d.bumpMax blk inst item n).otr = d.otr := rfl
@[simp] theorem Dev.bumpMax_rd (d : Dev) (blk inst item n : Nat) : (d.bumpMax blk inst item n).rd = d.rd := rfl
@[simp] theorem Dev.bumpMax_rly (d : Dev) (blk inst item n : Nat) : (d.bumpMax blk inst item n).rly = d.rly := rfl
@[simp] theorem Dev.bumpMax_drv (d : Dev) (blk inst item n : Nat) : (d.bumpMax blk inst item n).drv = d.drv := rfl
@[simp] theorem Dev.bumpMax_cve (d : Dev) (blk inst item n : Nat) : (d.bumpMax blk inst item n).cve = d.cve := rfl
@[simp] theorem Dev.bumpMax_drl (d : Dev) (blk inst item n : Nat) : (d.bumpMax blk inst item n).drl = d.drl := rfl
@[simp] theorem Dev.clearCounters_q (d : Dev) (p : Nat → Bool) : (d.clearCounters p).q = d.q := rfl
@[simp] theorem Dev.clearCounters_free (d : Dev) (p : Nat → Bool) : (d.clearCounters p).free = d.free := rfl
@[simp] theorem Dev.clearCounters_out (d : Dev) (p : Nat → Bool) : (d.clearCounters p).out = d.out := rfl
@[simp] theorem Dev.clearCounters_regs (d : Dev) (p : Nat → Bool) : (d.clearCounters p).regs = d.regs := rfl
@[simp] theorem Dev.clearCounters_counters (d : Dev) (p : Nat → Bool) : (d.clearCounters p).counters = d.counters.filter fun c => !(p (c.1 / 2 ^ 32)) := rfl
@[simp] theorem Dev.clearCounters_evtSeq (d : Dev) (p : Nat → Bool) : (d.clearCounters p).evtSeq = d.evtSeq := rfl
@[simp] theorem Dev.clearCounters_held (d : Dev) (p : Nat → Bool) : (d.clearCounters p).held = d.held := rfl
@[simp] theorem Dev.clearCounters_pins (d : Dev) (p : Nat → Bool) : (d.clearCounters p).pins = d.pins := rfl
@[simp] theorem Dev.clearCounters_clk (d : Dev) (p : Nat → Bool) : (d.clearCounters p).clk = d.clk := rfl
@[simp] theorem Dev.clearCounters_pes (d : Dev) (p : Nat → Bool) : (d.clearCounters p).pes = d.pes := rfl
@[simp] theorem Dev.clearCounters_rul (d : Dev) (p : Nat → Bool) : (d.clearCounters p).rul = d.rul := rfl
@[simp] theorem Dev.clearCounters_cp (d : Dev) (p : Nat → Bool) : (d.clearCounters p).cp = d.cp := rfl
@[simp] theorem Dev.clearCounters_pmc (d : Dev) (p : Nat → Bool) : (d.clearCounters p).pmc = d.pmc := rfl
@[simp] theorem Dev.clearCounters_lmon (d : Dev) (p : Nat → Bool) : (d.clearCounters p).lmon = d.lmon := rfl
@[simp] theorem Dev.clearCounters_wbl (d : Dev) (p : Nat → Bool) : (d.clearCounters p).wbl = d.wbl := rfl
@[simp] theorem Dev.clearCounters_mem (d : Dev) (p : Nat → Bool) : (d.clearCounters p).mem = d.mem := rfl
@[simp] theorem Dev.clearCounters_mep (d : Dev) (p : Nat → Bool) : (d.clearCounters p).mep = d.mep := rfl
@[simp] theorem Dev.clearCounters_fov (d : Dev) (p : Nat → Bool) : (d.clearCounters p).fov = d.fov := rfl
@[simp] theorem Dev.clearCounters_tpk (d : Dev) (p : Nat → Bool) : (d.clearCounters p).tpk = d.tpk := rfl
@[simp] theorem Dev.clearCounters_tdm (d : Dev) (p : Nat → Bool) : (d.clearCounters p).tdm = d.tdm := rfl
@[simp] theorem Dev.clearCounters_rae (d : Dev) (p : Nat → Bool) : (d.clearCounters p).rae = d.rae := rfl
@[simp] theorem Dev.clearCounters_hqe (d : Dev) (p : Nat → Bool) : (d.clearCounters p).hqe = d.hqe := rfl
@[simp] theorem Dev.clearCounters_lvy (d : Dev) (p : Nat → Bool) : (d.clearCounters p).lvy = d.lvy := rfl
@[simp] theorem Dev.clearCounters_lay (d : Dev) (p : Nat → Bool) : (d.clearCounters p).lay = d.lay := rfl
@[simp] theorem Dev.clearCounters_nib (d : Dev) (p : Nat → Bool) : (d.clearCounters p).nib = d.nib := rfl
@[simp] theorem Dev.clearCounters_blt (d : Dev) (p : Nat → Bool) : (d.clearCounters p).blt = d.blt := rfl
@[simp] theorem Dev.clearCounters_otr (d : Dev) (p : Nat → Bool) : (d.clearCounters p).otr = d.otr := rfl
@[simp] theorem Dev.clearCounters_rd (d : Dev) (p : Nat → Bool) : (d.clearCounters p).rd = d.rd := rfl
@[simp] theorem Dev.clearCounters_rly (d : Dev) (p : Nat → Bool) : (d.clearCounters p).rly = d.rly := rfl
@[simp] theorem Dev.clearCounters_drv (d : Dev) (p : Nat → Bool) : (d.clearCounters p).drv = d.drv := rfl
@[simp] theorem Dev.clearCounters_cve (d : Dev) (p : Nat → Bool) : (d.clearCounters p).cve = d.cve := rfl
@[simp] theorem Dev.clearCounters_drl (d : Dev) (p : Nat → Bool) : (d.clearCounters p).drl = d.drl := rfl

/-! ## Units -/

@[simp] theorem Dev.onPins_q (d : Dev) (f : Pins → Pins) : (d.onPins f).q = d.q := rfl
@[simp] theorem Dev.onPins_free (d : Dev) (f : Pins → Pins) : (d.onPins f).free = d.free := rfl
@[simp] theorem Dev.onPins_out (d : Dev) (f : Pins → Pins) : (d.onPins f).out = d.out := rfl
@[simp] theorem Dev.onPins_regs (d : Dev) (f : Pins → Pins) : (d.onPins f).regs = d.regs := rfl
@[simp] theorem Dev.onPins_counters (d : Dev) (f : Pins → Pins) : (d.onPins f).counters = d.counters := rfl
@[simp] theorem Dev.onPins_evtSeq (d : Dev) (f : Pins → Pins) : (d.onPins f).evtSeq = d.evtSeq := rfl
@[simp] theorem Dev.onPins_held (d : Dev) (f : Pins → Pins) : (d.onPins f).held = d.held := rfl
@[simp] theorem Dev.onPins_pins (d : Dev) (f : Pins → Pins) : (d.onPins f).pins = f d.pins := rfl
@[simp] theorem Dev.onPins_clk (d : Dev) (f : Pins → Pins) : (d.onPins f).clk = d.clk := rfl
@[simp] theorem Dev.onPins_pes (d : Dev) (f : Pins → Pins) : (d.onPins f).pes = d.pes := rfl
@[simp] theorem Dev.onPins_rul (d : Dev) (f : Pins → Pins) : (d.onPins f).rul = d.rul := rfl
@[simp] theorem Dev.onPins_cp (d : Dev) (f : Pins → Pins) : (d.onPins f).cp = d.cp := rfl
@[simp] theorem Dev.onPins_pmc (d : Dev) (f : Pins → Pins) : (d.onPins f).pmc = d.pmc := rfl
@[simp] theorem Dev.onPins_lmon (d : Dev) (f : Pins → Pins) : (d.onPins f).lmon = d.lmon := rfl
@[simp] theorem Dev.onPins_wbl (d : Dev) (f : Pins → Pins) : (d.onPins f).wbl = d.wbl := rfl
@[simp] theorem Dev.onPins_mem (d : Dev) (f : Pins → Pins) : (d.onPins f).mem = d.mem := rfl
@[simp] theorem Dev.onPins_mep (d : Dev) (f : Pins → Pins) : (d.onPins f).mep = d.mep := rfl
@[simp] theorem Dev.onPins_fov (d : Dev) (f : Pins → Pins) : (d.onPins f).fov = d.fov := rfl
@[simp] theorem Dev.onPins_tpk (d : Dev) (f : Pins → Pins) : (d.onPins f).tpk = d.tpk := rfl
@[simp] theorem Dev.onPins_tdm (d : Dev) (f : Pins → Pins) : (d.onPins f).tdm = d.tdm := rfl
@[simp] theorem Dev.onPins_rae (d : Dev) (f : Pins → Pins) : (d.onPins f).rae = d.rae := rfl
@[simp] theorem Dev.onPins_hqe (d : Dev) (f : Pins → Pins) : (d.onPins f).hqe = d.hqe := rfl
@[simp] theorem Dev.onPins_lvy (d : Dev) (f : Pins → Pins) : (d.onPins f).lvy = d.lvy := rfl
@[simp] theorem Dev.onPins_lay (d : Dev) (f : Pins → Pins) : (d.onPins f).lay = d.lay := rfl
@[simp] theorem Dev.onPins_nib (d : Dev) (f : Pins → Pins) : (d.onPins f).nib = d.nib := rfl
@[simp] theorem Dev.onPins_blt (d : Dev) (f : Pins → Pins) : (d.onPins f).blt = d.blt := rfl
@[simp] theorem Dev.onPins_otr (d : Dev) (f : Pins → Pins) : (d.onPins f).otr = d.otr := rfl
@[simp] theorem Dev.onPins_rd (d : Dev) (f : Pins → Pins) : (d.onPins f).rd = d.rd := rfl
@[simp] theorem Dev.onPins_rly (d : Dev) (f : Pins → Pins) : (d.onPins f).rly = d.rly := rfl
@[simp] theorem Dev.onPins_drv (d : Dev) (f : Pins → Pins) : (d.onPins f).drv = d.drv := rfl
@[simp] theorem Dev.onPins_cve (d : Dev) (f : Pins → Pins) : (d.onPins f).cve = d.cve := rfl
@[simp] theorem Dev.onPins_drl (d : Dev) (f : Pins → Pins) : (d.onPins f).drl = d.drl := rfl
@[simp] theorem Dev.onClk_q (d : Dev) (f : Clk → Clk) : (d.onClk f).q = d.q := rfl
@[simp] theorem Dev.onClk_free (d : Dev) (f : Clk → Clk) : (d.onClk f).free = d.free := rfl
@[simp] theorem Dev.onClk_out (d : Dev) (f : Clk → Clk) : (d.onClk f).out = d.out := rfl
@[simp] theorem Dev.onClk_regs (d : Dev) (f : Clk → Clk) : (d.onClk f).regs = d.regs := rfl
@[simp] theorem Dev.onClk_counters (d : Dev) (f : Clk → Clk) : (d.onClk f).counters = d.counters := rfl
@[simp] theorem Dev.onClk_evtSeq (d : Dev) (f : Clk → Clk) : (d.onClk f).evtSeq = d.evtSeq := rfl
@[simp] theorem Dev.onClk_held (d : Dev) (f : Clk → Clk) : (d.onClk f).held = d.held := rfl
@[simp] theorem Dev.onClk_pins (d : Dev) (f : Clk → Clk) : (d.onClk f).pins = d.pins := rfl
@[simp] theorem Dev.onClk_clk (d : Dev) (f : Clk → Clk) : (d.onClk f).clk = f d.clk := rfl
@[simp] theorem Dev.onClk_pes (d : Dev) (f : Clk → Clk) : (d.onClk f).pes = d.pes := rfl
@[simp] theorem Dev.onClk_rul (d : Dev) (f : Clk → Clk) : (d.onClk f).rul = d.rul := rfl
@[simp] theorem Dev.onClk_cp (d : Dev) (f : Clk → Clk) : (d.onClk f).cp = d.cp := rfl
@[simp] theorem Dev.onClk_pmc (d : Dev) (f : Clk → Clk) : (d.onClk f).pmc = d.pmc := rfl
@[simp] theorem Dev.onClk_lmon (d : Dev) (f : Clk → Clk) : (d.onClk f).lmon = d.lmon := rfl
@[simp] theorem Dev.onClk_wbl (d : Dev) (f : Clk → Clk) : (d.onClk f).wbl = d.wbl := rfl
@[simp] theorem Dev.onClk_mem (d : Dev) (f : Clk → Clk) : (d.onClk f).mem = d.mem := rfl
@[simp] theorem Dev.onClk_mep (d : Dev) (f : Clk → Clk) : (d.onClk f).mep = d.mep := rfl
@[simp] theorem Dev.onClk_fov (d : Dev) (f : Clk → Clk) : (d.onClk f).fov = d.fov := rfl
@[simp] theorem Dev.onClk_tpk (d : Dev) (f : Clk → Clk) : (d.onClk f).tpk = d.tpk := rfl
@[simp] theorem Dev.onClk_tdm (d : Dev) (f : Clk → Clk) : (d.onClk f).tdm = d.tdm := rfl
@[simp] theorem Dev.onClk_rae (d : Dev) (f : Clk → Clk) : (d.onClk f).rae = d.rae := rfl
@[simp] theorem Dev.onClk_hqe (d : Dev) (f : Clk → Clk) : (d.onClk f).hqe = d.hqe := rfl
@[simp] theorem Dev.onClk_lvy (d : Dev) (f : Clk → Clk) : (d.onClk f).lvy = d.lvy := rfl
@[simp] theorem Dev.onClk_lay (d : Dev) (f : Clk → Clk) : (d.onClk f).lay = d.lay := rfl
@[simp] theorem Dev.onClk_nib (d : Dev) (f : Clk → Clk) : (d.onClk f).nib = d.nib := rfl
@[simp] theorem Dev.onClk_blt (d : Dev) (f : Clk → Clk) : (d.onClk f).blt = d.blt := rfl
@[simp] theorem Dev.onClk_otr (d : Dev) (f : Clk → Clk) : (d.onClk f).otr = d.otr := rfl
@[simp] theorem Dev.onClk_rd (d : Dev) (f : Clk → Clk) : (d.onClk f).rd = d.rd := rfl
@[simp] theorem Dev.onClk_rly (d : Dev) (f : Clk → Clk) : (d.onClk f).rly = d.rly := rfl
@[simp] theorem Dev.onClk_drv (d : Dev) (f : Clk → Clk) : (d.onClk f).drv = d.drv := rfl
@[simp] theorem Dev.onClk_cve (d : Dev) (f : Clk → Clk) : (d.onClk f).cve = d.cve := rfl
@[simp] theorem Dev.onClk_drl (d : Dev) (f : Clk → Clk) : (d.onClk f).drl = d.drl := rfl
@[simp] theorem Dev.onPes_q (d : Dev) (f : Pes → Pes) : (d.onPes f).q = d.q := rfl
@[simp] theorem Dev.onPes_free (d : Dev) (f : Pes → Pes) : (d.onPes f).free = d.free := rfl
@[simp] theorem Dev.onPes_out (d : Dev) (f : Pes → Pes) : (d.onPes f).out = d.out := rfl
@[simp] theorem Dev.onPes_regs (d : Dev) (f : Pes → Pes) : (d.onPes f).regs = d.regs := rfl
@[simp] theorem Dev.onPes_counters (d : Dev) (f : Pes → Pes) : (d.onPes f).counters = d.counters := rfl
@[simp] theorem Dev.onPes_evtSeq (d : Dev) (f : Pes → Pes) : (d.onPes f).evtSeq = d.evtSeq := rfl
@[simp] theorem Dev.onPes_held (d : Dev) (f : Pes → Pes) : (d.onPes f).held = d.held := rfl
@[simp] theorem Dev.onPes_pins (d : Dev) (f : Pes → Pes) : (d.onPes f).pins = d.pins := rfl
@[simp] theorem Dev.onPes_clk (d : Dev) (f : Pes → Pes) : (d.onPes f).clk = d.clk := rfl
@[simp] theorem Dev.onPes_pes (d : Dev) (f : Pes → Pes) : (d.onPes f).pes = f d.pes := rfl
@[simp] theorem Dev.onPes_rul (d : Dev) (f : Pes → Pes) : (d.onPes f).rul = d.rul := rfl
@[simp] theorem Dev.onPes_cp (d : Dev) (f : Pes → Pes) : (d.onPes f).cp = d.cp := rfl
@[simp] theorem Dev.onPes_pmc (d : Dev) (f : Pes → Pes) : (d.onPes f).pmc = d.pmc := rfl
@[simp] theorem Dev.onPes_lmon (d : Dev) (f : Pes → Pes) : (d.onPes f).lmon = d.lmon := rfl
@[simp] theorem Dev.onPes_wbl (d : Dev) (f : Pes → Pes) : (d.onPes f).wbl = d.wbl := rfl
@[simp] theorem Dev.onPes_mem (d : Dev) (f : Pes → Pes) : (d.onPes f).mem = d.mem := rfl
@[simp] theorem Dev.onPes_mep (d : Dev) (f : Pes → Pes) : (d.onPes f).mep = d.mep := rfl
@[simp] theorem Dev.onPes_fov (d : Dev) (f : Pes → Pes) : (d.onPes f).fov = d.fov := rfl
@[simp] theorem Dev.onPes_tpk (d : Dev) (f : Pes → Pes) : (d.onPes f).tpk = d.tpk := rfl
@[simp] theorem Dev.onPes_tdm (d : Dev) (f : Pes → Pes) : (d.onPes f).tdm = d.tdm := rfl
@[simp] theorem Dev.onPes_rae (d : Dev) (f : Pes → Pes) : (d.onPes f).rae = d.rae := rfl
@[simp] theorem Dev.onPes_hqe (d : Dev) (f : Pes → Pes) : (d.onPes f).hqe = d.hqe := rfl
@[simp] theorem Dev.onPes_lvy (d : Dev) (f : Pes → Pes) : (d.onPes f).lvy = d.lvy := rfl
@[simp] theorem Dev.onPes_lay (d : Dev) (f : Pes → Pes) : (d.onPes f).lay = d.lay := rfl
@[simp] theorem Dev.onPes_nib (d : Dev) (f : Pes → Pes) : (d.onPes f).nib = d.nib := rfl
@[simp] theorem Dev.onPes_blt (d : Dev) (f : Pes → Pes) : (d.onPes f).blt = d.blt := rfl
@[simp] theorem Dev.onPes_otr (d : Dev) (f : Pes → Pes) : (d.onPes f).otr = d.otr := rfl
@[simp] theorem Dev.onPes_rd (d : Dev) (f : Pes → Pes) : (d.onPes f).rd = d.rd := rfl
@[simp] theorem Dev.onPes_rly (d : Dev) (f : Pes → Pes) : (d.onPes f).rly = d.rly := rfl
@[simp] theorem Dev.onPes_drv (d : Dev) (f : Pes → Pes) : (d.onPes f).drv = d.drv := rfl
@[simp] theorem Dev.onPes_cve (d : Dev) (f : Pes → Pes) : (d.onPes f).cve = d.cve := rfl
@[simp] theorem Dev.onPes_drl (d : Dev) (f : Pes → Pes) : (d.onPes f).drl = d.drl := rfl
@[simp] theorem Dev.onRul_q (d : Dev) (f : Rul → Rul) : (d.onRul f).q = d.q := rfl
@[simp] theorem Dev.onRul_free (d : Dev) (f : Rul → Rul) : (d.onRul f).free = d.free := rfl
@[simp] theorem Dev.onRul_out (d : Dev) (f : Rul → Rul) : (d.onRul f).out = d.out := rfl
@[simp] theorem Dev.onRul_regs (d : Dev) (f : Rul → Rul) : (d.onRul f).regs = d.regs := rfl
@[simp] theorem Dev.onRul_counters (d : Dev) (f : Rul → Rul) : (d.onRul f).counters = d.counters := rfl
@[simp] theorem Dev.onRul_evtSeq (d : Dev) (f : Rul → Rul) : (d.onRul f).evtSeq = d.evtSeq := rfl
@[simp] theorem Dev.onRul_held (d : Dev) (f : Rul → Rul) : (d.onRul f).held = d.held := rfl
@[simp] theorem Dev.onRul_pins (d : Dev) (f : Rul → Rul) : (d.onRul f).pins = d.pins := rfl
@[simp] theorem Dev.onRul_clk (d : Dev) (f : Rul → Rul) : (d.onRul f).clk = d.clk := rfl
@[simp] theorem Dev.onRul_pes (d : Dev) (f : Rul → Rul) : (d.onRul f).pes = d.pes := rfl
@[simp] theorem Dev.onRul_rul (d : Dev) (f : Rul → Rul) : (d.onRul f).rul = f d.rul := rfl
@[simp] theorem Dev.onRul_cp (d : Dev) (f : Rul → Rul) : (d.onRul f).cp = d.cp := rfl
@[simp] theorem Dev.onRul_pmc (d : Dev) (f : Rul → Rul) : (d.onRul f).pmc = d.pmc := rfl
@[simp] theorem Dev.onRul_lmon (d : Dev) (f : Rul → Rul) : (d.onRul f).lmon = d.lmon := rfl
@[simp] theorem Dev.onRul_wbl (d : Dev) (f : Rul → Rul) : (d.onRul f).wbl = d.wbl := rfl
@[simp] theorem Dev.onRul_mem (d : Dev) (f : Rul → Rul) : (d.onRul f).mem = d.mem := rfl
@[simp] theorem Dev.onRul_mep (d : Dev) (f : Rul → Rul) : (d.onRul f).mep = d.mep := rfl
@[simp] theorem Dev.onRul_fov (d : Dev) (f : Rul → Rul) : (d.onRul f).fov = d.fov := rfl
@[simp] theorem Dev.onRul_tpk (d : Dev) (f : Rul → Rul) : (d.onRul f).tpk = d.tpk := rfl
@[simp] theorem Dev.onRul_tdm (d : Dev) (f : Rul → Rul) : (d.onRul f).tdm = d.tdm := rfl
@[simp] theorem Dev.onRul_rae (d : Dev) (f : Rul → Rul) : (d.onRul f).rae = d.rae := rfl
@[simp] theorem Dev.onRul_hqe (d : Dev) (f : Rul → Rul) : (d.onRul f).hqe = d.hqe := rfl
@[simp] theorem Dev.onRul_lvy (d : Dev) (f : Rul → Rul) : (d.onRul f).lvy = d.lvy := rfl
@[simp] theorem Dev.onRul_lay (d : Dev) (f : Rul → Rul) : (d.onRul f).lay = d.lay := rfl
@[simp] theorem Dev.onRul_nib (d : Dev) (f : Rul → Rul) : (d.onRul f).nib = d.nib := rfl
@[simp] theorem Dev.onRul_blt (d : Dev) (f : Rul → Rul) : (d.onRul f).blt = d.blt := rfl
@[simp] theorem Dev.onRul_otr (d : Dev) (f : Rul → Rul) : (d.onRul f).otr = d.otr := rfl
@[simp] theorem Dev.onRul_rd (d : Dev) (f : Rul → Rul) : (d.onRul f).rd = d.rd := rfl
@[simp] theorem Dev.onRul_rly (d : Dev) (f : Rul → Rul) : (d.onRul f).rly = d.rly := rfl
@[simp] theorem Dev.onRul_drv (d : Dev) (f : Rul → Rul) : (d.onRul f).drv = d.drv := rfl
@[simp] theorem Dev.onRul_cve (d : Dev) (f : Rul → Rul) : (d.onRul f).cve = d.cve := rfl
@[simp] theorem Dev.onRul_drl (d : Dev) (f : Rul → Rul) : (d.onRul f).drl = d.drl := rfl
@[simp] theorem Dev.onPmc_q (d : Dev) (f : Pmc → Pmc) : (d.onPmc f).q = d.q := rfl
@[simp] theorem Dev.onPmc_free (d : Dev) (f : Pmc → Pmc) : (d.onPmc f).free = d.free := rfl
@[simp] theorem Dev.onPmc_out (d : Dev) (f : Pmc → Pmc) : (d.onPmc f).out = d.out := rfl
@[simp] theorem Dev.onPmc_regs (d : Dev) (f : Pmc → Pmc) : (d.onPmc f).regs = d.regs := rfl
@[simp] theorem Dev.onPmc_counters (d : Dev) (f : Pmc → Pmc) : (d.onPmc f).counters = d.counters := rfl
@[simp] theorem Dev.onPmc_evtSeq (d : Dev) (f : Pmc → Pmc) : (d.onPmc f).evtSeq = d.evtSeq := rfl
@[simp] theorem Dev.onPmc_held (d : Dev) (f : Pmc → Pmc) : (d.onPmc f).held = d.held := rfl
@[simp] theorem Dev.onPmc_pins (d : Dev) (f : Pmc → Pmc) : (d.onPmc f).pins = d.pins := rfl
@[simp] theorem Dev.onPmc_clk (d : Dev) (f : Pmc → Pmc) : (d.onPmc f).clk = d.clk := rfl
@[simp] theorem Dev.onPmc_pes (d : Dev) (f : Pmc → Pmc) : (d.onPmc f).pes = d.pes := rfl
@[simp] theorem Dev.onPmc_rul (d : Dev) (f : Pmc → Pmc) : (d.onPmc f).rul = d.rul := rfl
@[simp] theorem Dev.onPmc_cp (d : Dev) (f : Pmc → Pmc) : (d.onPmc f).cp = d.cp := rfl
@[simp] theorem Dev.onPmc_pmc (d : Dev) (f : Pmc → Pmc) : (d.onPmc f).pmc = f d.pmc := rfl
@[simp] theorem Dev.onPmc_lmon (d : Dev) (f : Pmc → Pmc) : (d.onPmc f).lmon = d.lmon := rfl
@[simp] theorem Dev.onPmc_wbl (d : Dev) (f : Pmc → Pmc) : (d.onPmc f).wbl = d.wbl := rfl
@[simp] theorem Dev.onPmc_mem (d : Dev) (f : Pmc → Pmc) : (d.onPmc f).mem = d.mem := rfl
@[simp] theorem Dev.onPmc_mep (d : Dev) (f : Pmc → Pmc) : (d.onPmc f).mep = d.mep := rfl
@[simp] theorem Dev.onPmc_fov (d : Dev) (f : Pmc → Pmc) : (d.onPmc f).fov = d.fov := rfl
@[simp] theorem Dev.onPmc_tpk (d : Dev) (f : Pmc → Pmc) : (d.onPmc f).tpk = d.tpk := rfl
@[simp] theorem Dev.onPmc_tdm (d : Dev) (f : Pmc → Pmc) : (d.onPmc f).tdm = d.tdm := rfl
@[simp] theorem Dev.onPmc_rae (d : Dev) (f : Pmc → Pmc) : (d.onPmc f).rae = d.rae := rfl
@[simp] theorem Dev.onPmc_hqe (d : Dev) (f : Pmc → Pmc) : (d.onPmc f).hqe = d.hqe := rfl
@[simp] theorem Dev.onPmc_lvy (d : Dev) (f : Pmc → Pmc) : (d.onPmc f).lvy = d.lvy := rfl
@[simp] theorem Dev.onPmc_lay (d : Dev) (f : Pmc → Pmc) : (d.onPmc f).lay = d.lay := rfl
@[simp] theorem Dev.onPmc_nib (d : Dev) (f : Pmc → Pmc) : (d.onPmc f).nib = d.nib := rfl
@[simp] theorem Dev.onPmc_blt (d : Dev) (f : Pmc → Pmc) : (d.onPmc f).blt = d.blt := rfl
@[simp] theorem Dev.onPmc_otr (d : Dev) (f : Pmc → Pmc) : (d.onPmc f).otr = d.otr := rfl
@[simp] theorem Dev.onPmc_rd (d : Dev) (f : Pmc → Pmc) : (d.onPmc f).rd = d.rd := rfl
@[simp] theorem Dev.onPmc_rly (d : Dev) (f : Pmc → Pmc) : (d.onPmc f).rly = d.rly := rfl
@[simp] theorem Dev.onPmc_drv (d : Dev) (f : Pmc → Pmc) : (d.onPmc f).drv = d.drv := rfl
@[simp] theorem Dev.onPmc_cve (d : Dev) (f : Pmc → Pmc) : (d.onPmc f).cve = d.cve := rfl
@[simp] theorem Dev.onPmc_drl (d : Dev) (f : Pmc → Pmc) : (d.onPmc f).drl = d.drl := rfl
@[simp] theorem Dev.onLmon_q (d : Dev) (f : Lmon → Lmon) : (d.onLmon f).q = d.q := rfl
@[simp] theorem Dev.onLmon_free (d : Dev) (f : Lmon → Lmon) : (d.onLmon f).free = d.free := rfl
@[simp] theorem Dev.onLmon_out (d : Dev) (f : Lmon → Lmon) : (d.onLmon f).out = d.out := rfl
@[simp] theorem Dev.onLmon_regs (d : Dev) (f : Lmon → Lmon) : (d.onLmon f).regs = d.regs := rfl
@[simp] theorem Dev.onLmon_counters (d : Dev) (f : Lmon → Lmon) : (d.onLmon f).counters = d.counters := rfl
@[simp] theorem Dev.onLmon_evtSeq (d : Dev) (f : Lmon → Lmon) : (d.onLmon f).evtSeq = d.evtSeq := rfl
@[simp] theorem Dev.onLmon_held (d : Dev) (f : Lmon → Lmon) : (d.onLmon f).held = d.held := rfl
@[simp] theorem Dev.onLmon_pins (d : Dev) (f : Lmon → Lmon) : (d.onLmon f).pins = d.pins := rfl
@[simp] theorem Dev.onLmon_clk (d : Dev) (f : Lmon → Lmon) : (d.onLmon f).clk = d.clk := rfl
@[simp] theorem Dev.onLmon_pes (d : Dev) (f : Lmon → Lmon) : (d.onLmon f).pes = d.pes := rfl
@[simp] theorem Dev.onLmon_rul (d : Dev) (f : Lmon → Lmon) : (d.onLmon f).rul = d.rul := rfl
@[simp] theorem Dev.onLmon_cp (d : Dev) (f : Lmon → Lmon) : (d.onLmon f).cp = d.cp := rfl
@[simp] theorem Dev.onLmon_pmc (d : Dev) (f : Lmon → Lmon) : (d.onLmon f).pmc = d.pmc := rfl
@[simp] theorem Dev.onLmon_lmon (d : Dev) (f : Lmon → Lmon) : (d.onLmon f).lmon = f d.lmon := rfl
@[simp] theorem Dev.onLmon_wbl (d : Dev) (f : Lmon → Lmon) : (d.onLmon f).wbl = d.wbl := rfl
@[simp] theorem Dev.onLmon_mem (d : Dev) (f : Lmon → Lmon) : (d.onLmon f).mem = d.mem := rfl
@[simp] theorem Dev.onLmon_mep (d : Dev) (f : Lmon → Lmon) : (d.onLmon f).mep = d.mep := rfl
@[simp] theorem Dev.onLmon_fov (d : Dev) (f : Lmon → Lmon) : (d.onLmon f).fov = d.fov := rfl
@[simp] theorem Dev.onLmon_tpk (d : Dev) (f : Lmon → Lmon) : (d.onLmon f).tpk = d.tpk := rfl
@[simp] theorem Dev.onLmon_tdm (d : Dev) (f : Lmon → Lmon) : (d.onLmon f).tdm = d.tdm := rfl
@[simp] theorem Dev.onLmon_rae (d : Dev) (f : Lmon → Lmon) : (d.onLmon f).rae = d.rae := rfl
@[simp] theorem Dev.onLmon_hqe (d : Dev) (f : Lmon → Lmon) : (d.onLmon f).hqe = d.hqe := rfl
@[simp] theorem Dev.onLmon_lvy (d : Dev) (f : Lmon → Lmon) : (d.onLmon f).lvy = d.lvy := rfl
@[simp] theorem Dev.onLmon_lay (d : Dev) (f : Lmon → Lmon) : (d.onLmon f).lay = d.lay := rfl
@[simp] theorem Dev.onLmon_nib (d : Dev) (f : Lmon → Lmon) : (d.onLmon f).nib = d.nib := rfl
@[simp] theorem Dev.onLmon_blt (d : Dev) (f : Lmon → Lmon) : (d.onLmon f).blt = d.blt := rfl
@[simp] theorem Dev.onLmon_otr (d : Dev) (f : Lmon → Lmon) : (d.onLmon f).otr = d.otr := rfl
@[simp] theorem Dev.onLmon_rd (d : Dev) (f : Lmon → Lmon) : (d.onLmon f).rd = d.rd := rfl
@[simp] theorem Dev.onLmon_rly (d : Dev) (f : Lmon → Lmon) : (d.onLmon f).rly = d.rly := rfl
@[simp] theorem Dev.onLmon_drv (d : Dev) (f : Lmon → Lmon) : (d.onLmon f).drv = d.drv := rfl
@[simp] theorem Dev.onLmon_cve (d : Dev) (f : Lmon → Lmon) : (d.onLmon f).cve = d.cve := rfl
@[simp] theorem Dev.onLmon_drl (d : Dev) (f : Lmon → Lmon) : (d.onLmon f).drl = d.drl := rfl
@[simp] theorem Dev.onWbl_q (d : Dev) (f : Wbl → Wbl) : (d.onWbl f).q = d.q := rfl
@[simp] theorem Dev.onWbl_free (d : Dev) (f : Wbl → Wbl) : (d.onWbl f).free = d.free := rfl
@[simp] theorem Dev.onWbl_out (d : Dev) (f : Wbl → Wbl) : (d.onWbl f).out = d.out := rfl
@[simp] theorem Dev.onWbl_regs (d : Dev) (f : Wbl → Wbl) : (d.onWbl f).regs = d.regs := rfl
@[simp] theorem Dev.onWbl_counters (d : Dev) (f : Wbl → Wbl) : (d.onWbl f).counters = d.counters := rfl
@[simp] theorem Dev.onWbl_evtSeq (d : Dev) (f : Wbl → Wbl) : (d.onWbl f).evtSeq = d.evtSeq := rfl
@[simp] theorem Dev.onWbl_held (d : Dev) (f : Wbl → Wbl) : (d.onWbl f).held = d.held := rfl
@[simp] theorem Dev.onWbl_pins (d : Dev) (f : Wbl → Wbl) : (d.onWbl f).pins = d.pins := rfl
@[simp] theorem Dev.onWbl_clk (d : Dev) (f : Wbl → Wbl) : (d.onWbl f).clk = d.clk := rfl
@[simp] theorem Dev.onWbl_pes (d : Dev) (f : Wbl → Wbl) : (d.onWbl f).pes = d.pes := rfl
@[simp] theorem Dev.onWbl_rul (d : Dev) (f : Wbl → Wbl) : (d.onWbl f).rul = d.rul := rfl
@[simp] theorem Dev.onWbl_cp (d : Dev) (f : Wbl → Wbl) : (d.onWbl f).cp = d.cp := rfl
@[simp] theorem Dev.onWbl_pmc (d : Dev) (f : Wbl → Wbl) : (d.onWbl f).pmc = d.pmc := rfl
@[simp] theorem Dev.onWbl_lmon (d : Dev) (f : Wbl → Wbl) : (d.onWbl f).lmon = d.lmon := rfl
@[simp] theorem Dev.onWbl_wbl (d : Dev) (f : Wbl → Wbl) : (d.onWbl f).wbl = f d.wbl := rfl
@[simp] theorem Dev.onWbl_mem (d : Dev) (f : Wbl → Wbl) : (d.onWbl f).mem = d.mem := rfl
@[simp] theorem Dev.onWbl_mep (d : Dev) (f : Wbl → Wbl) : (d.onWbl f).mep = d.mep := rfl
@[simp] theorem Dev.onWbl_fov (d : Dev) (f : Wbl → Wbl) : (d.onWbl f).fov = d.fov := rfl
@[simp] theorem Dev.onWbl_tpk (d : Dev) (f : Wbl → Wbl) : (d.onWbl f).tpk = d.tpk := rfl
@[simp] theorem Dev.onWbl_tdm (d : Dev) (f : Wbl → Wbl) : (d.onWbl f).tdm = d.tdm := rfl
@[simp] theorem Dev.onWbl_rae (d : Dev) (f : Wbl → Wbl) : (d.onWbl f).rae = d.rae := rfl
@[simp] theorem Dev.onWbl_hqe (d : Dev) (f : Wbl → Wbl) : (d.onWbl f).hqe = d.hqe := rfl
@[simp] theorem Dev.onWbl_lvy (d : Dev) (f : Wbl → Wbl) : (d.onWbl f).lvy = d.lvy := rfl
@[simp] theorem Dev.onWbl_lay (d : Dev) (f : Wbl → Wbl) : (d.onWbl f).lay = d.lay := rfl
@[simp] theorem Dev.onWbl_nib (d : Dev) (f : Wbl → Wbl) : (d.onWbl f).nib = d.nib := rfl
@[simp] theorem Dev.onWbl_blt (d : Dev) (f : Wbl → Wbl) : (d.onWbl f).blt = d.blt := rfl
@[simp] theorem Dev.onWbl_otr (d : Dev) (f : Wbl → Wbl) : (d.onWbl f).otr = d.otr := rfl
@[simp] theorem Dev.onWbl_rd (d : Dev) (f : Wbl → Wbl) : (d.onWbl f).rd = d.rd := rfl
@[simp] theorem Dev.onWbl_rly (d : Dev) (f : Wbl → Wbl) : (d.onWbl f).rly = d.rly := rfl
@[simp] theorem Dev.onWbl_drv (d : Dev) (f : Wbl → Wbl) : (d.onWbl f).drv = d.drv := rfl
@[simp] theorem Dev.onWbl_cve (d : Dev) (f : Wbl → Wbl) : (d.onWbl f).cve = d.cve := rfl
@[simp] theorem Dev.onWbl_drl (d : Dev) (f : Wbl → Wbl) : (d.onWbl f).drl = d.drl := rfl
@[simp] theorem Dev.onMem_q (d : Dev) (f : Mem → Mem) : (d.onMem f).q = d.q := rfl
@[simp] theorem Dev.onMem_free (d : Dev) (f : Mem → Mem) : (d.onMem f).free = d.free := rfl
@[simp] theorem Dev.onMem_out (d : Dev) (f : Mem → Mem) : (d.onMem f).out = d.out := rfl
@[simp] theorem Dev.onMem_regs (d : Dev) (f : Mem → Mem) : (d.onMem f).regs = d.regs := rfl
@[simp] theorem Dev.onMem_counters (d : Dev) (f : Mem → Mem) : (d.onMem f).counters = d.counters := rfl
@[simp] theorem Dev.onMem_evtSeq (d : Dev) (f : Mem → Mem) : (d.onMem f).evtSeq = d.evtSeq := rfl
@[simp] theorem Dev.onMem_held (d : Dev) (f : Mem → Mem) : (d.onMem f).held = d.held := rfl
@[simp] theorem Dev.onMem_pins (d : Dev) (f : Mem → Mem) : (d.onMem f).pins = d.pins := rfl
@[simp] theorem Dev.onMem_clk (d : Dev) (f : Mem → Mem) : (d.onMem f).clk = d.clk := rfl
@[simp] theorem Dev.onMem_pes (d : Dev) (f : Mem → Mem) : (d.onMem f).pes = d.pes := rfl
@[simp] theorem Dev.onMem_rul (d : Dev) (f : Mem → Mem) : (d.onMem f).rul = d.rul := rfl
@[simp] theorem Dev.onMem_cp (d : Dev) (f : Mem → Mem) : (d.onMem f).cp = d.cp := rfl
@[simp] theorem Dev.onMem_pmc (d : Dev) (f : Mem → Mem) : (d.onMem f).pmc = d.pmc := rfl
@[simp] theorem Dev.onMem_lmon (d : Dev) (f : Mem → Mem) : (d.onMem f).lmon = d.lmon := rfl
@[simp] theorem Dev.onMem_wbl (d : Dev) (f : Mem → Mem) : (d.onMem f).wbl = d.wbl := rfl
@[simp] theorem Dev.onMem_mem (d : Dev) (f : Mem → Mem) : (d.onMem f).mem = f d.mem := rfl
@[simp] theorem Dev.onMem_mep (d : Dev) (f : Mem → Mem) : (d.onMem f).mep = d.mep := rfl
@[simp] theorem Dev.onMem_fov (d : Dev) (f : Mem → Mem) : (d.onMem f).fov = d.fov := rfl
@[simp] theorem Dev.onMem_tpk (d : Dev) (f : Mem → Mem) : (d.onMem f).tpk = d.tpk := rfl
@[simp] theorem Dev.onMem_tdm (d : Dev) (f : Mem → Mem) : (d.onMem f).tdm = d.tdm := rfl
@[simp] theorem Dev.onMem_rae (d : Dev) (f : Mem → Mem) : (d.onMem f).rae = d.rae := rfl
@[simp] theorem Dev.onMem_hqe (d : Dev) (f : Mem → Mem) : (d.onMem f).hqe = d.hqe := rfl
@[simp] theorem Dev.onMem_lvy (d : Dev) (f : Mem → Mem) : (d.onMem f).lvy = d.lvy := rfl
@[simp] theorem Dev.onMem_lay (d : Dev) (f : Mem → Mem) : (d.onMem f).lay = d.lay := rfl
@[simp] theorem Dev.onMem_nib (d : Dev) (f : Mem → Mem) : (d.onMem f).nib = d.nib := rfl
@[simp] theorem Dev.onMem_blt (d : Dev) (f : Mem → Mem) : (d.onMem f).blt = d.blt := rfl
@[simp] theorem Dev.onMem_otr (d : Dev) (f : Mem → Mem) : (d.onMem f).otr = d.otr := rfl
@[simp] theorem Dev.onMem_rd (d : Dev) (f : Mem → Mem) : (d.onMem f).rd = d.rd := rfl
@[simp] theorem Dev.onMem_rly (d : Dev) (f : Mem → Mem) : (d.onMem f).rly = d.rly := rfl
@[simp] theorem Dev.onMem_drv (d : Dev) (f : Mem → Mem) : (d.onMem f).drv = d.drv := rfl
@[simp] theorem Dev.onMem_cve (d : Dev) (f : Mem → Mem) : (d.onMem f).cve = d.cve := rfl
@[simp] theorem Dev.onMem_drl (d : Dev) (f : Mem → Mem) : (d.onMem f).drl = d.drl := rfl
@[simp] theorem Dev.onMep_q (d : Dev) (f : Mep → Mep) : (d.onMep f).q = d.q := rfl
@[simp] theorem Dev.onMep_free (d : Dev) (f : Mep → Mep) : (d.onMep f).free = d.free := rfl
@[simp] theorem Dev.onMep_out (d : Dev) (f : Mep → Mep) : (d.onMep f).out = d.out := rfl
@[simp] theorem Dev.onMep_regs (d : Dev) (f : Mep → Mep) : (d.onMep f).regs = d.regs := rfl
@[simp] theorem Dev.onMep_counters (d : Dev) (f : Mep → Mep) : (d.onMep f).counters = d.counters := rfl
@[simp] theorem Dev.onMep_evtSeq (d : Dev) (f : Mep → Mep) : (d.onMep f).evtSeq = d.evtSeq := rfl
@[simp] theorem Dev.onMep_held (d : Dev) (f : Mep → Mep) : (d.onMep f).held = d.held := rfl
@[simp] theorem Dev.onMep_pins (d : Dev) (f : Mep → Mep) : (d.onMep f).pins = d.pins := rfl
@[simp] theorem Dev.onMep_clk (d : Dev) (f : Mep → Mep) : (d.onMep f).clk = d.clk := rfl
@[simp] theorem Dev.onMep_pes (d : Dev) (f : Mep → Mep) : (d.onMep f).pes = d.pes := rfl
@[simp] theorem Dev.onMep_rul (d : Dev) (f : Mep → Mep) : (d.onMep f).rul = d.rul := rfl
@[simp] theorem Dev.onMep_cp (d : Dev) (f : Mep → Mep) : (d.onMep f).cp = d.cp := rfl
@[simp] theorem Dev.onMep_pmc (d : Dev) (f : Mep → Mep) : (d.onMep f).pmc = d.pmc := rfl
@[simp] theorem Dev.onMep_lmon (d : Dev) (f : Mep → Mep) : (d.onMep f).lmon = d.lmon := rfl
@[simp] theorem Dev.onMep_wbl (d : Dev) (f : Mep → Mep) : (d.onMep f).wbl = d.wbl := rfl
@[simp] theorem Dev.onMep_mem (d : Dev) (f : Mep → Mep) : (d.onMep f).mem = d.mem := rfl
@[simp] theorem Dev.onMep_mep (d : Dev) (f : Mep → Mep) : (d.onMep f).mep = f d.mep := rfl
@[simp] theorem Dev.onMep_fov (d : Dev) (f : Mep → Mep) : (d.onMep f).fov = d.fov := rfl
@[simp] theorem Dev.onMep_tpk (d : Dev) (f : Mep → Mep) : (d.onMep f).tpk = d.tpk := rfl
@[simp] theorem Dev.onMep_tdm (d : Dev) (f : Mep → Mep) : (d.onMep f).tdm = d.tdm := rfl
@[simp] theorem Dev.onMep_rae (d : Dev) (f : Mep → Mep) : (d.onMep f).rae = d.rae := rfl
@[simp] theorem Dev.onMep_hqe (d : Dev) (f : Mep → Mep) : (d.onMep f).hqe = d.hqe := rfl
@[simp] theorem Dev.onMep_lvy (d : Dev) (f : Mep → Mep) : (d.onMep f).lvy = d.lvy := rfl
@[simp] theorem Dev.onMep_lay (d : Dev) (f : Mep → Mep) : (d.onMep f).lay = d.lay := rfl
@[simp] theorem Dev.onMep_nib (d : Dev) (f : Mep → Mep) : (d.onMep f).nib = d.nib := rfl
@[simp] theorem Dev.onMep_blt (d : Dev) (f : Mep → Mep) : (d.onMep f).blt = d.blt := rfl
@[simp] theorem Dev.onMep_otr (d : Dev) (f : Mep → Mep) : (d.onMep f).otr = d.otr := rfl
@[simp] theorem Dev.onMep_rd (d : Dev) (f : Mep → Mep) : (d.onMep f).rd = d.rd := rfl
@[simp] theorem Dev.onMep_rly (d : Dev) (f : Mep → Mep) : (d.onMep f).rly = d.rly := rfl
@[simp] theorem Dev.onMep_drv (d : Dev) (f : Mep → Mep) : (d.onMep f).drv = d.drv := rfl
@[simp] theorem Dev.onMep_cve (d : Dev) (f : Mep → Mep) : (d.onMep f).cve = d.cve := rfl
@[simp] theorem Dev.onMep_drl (d : Dev) (f : Mep → Mep) : (d.onMep f).drl = d.drl := rfl
@[simp] theorem Dev.onFov_q (d : Dev) (f : Fov → Fov) : (d.onFov f).q = d.q := rfl
@[simp] theorem Dev.onFov_free (d : Dev) (f : Fov → Fov) : (d.onFov f).free = d.free := rfl
@[simp] theorem Dev.onFov_out (d : Dev) (f : Fov → Fov) : (d.onFov f).out = d.out := rfl
@[simp] theorem Dev.onFov_regs (d : Dev) (f : Fov → Fov) : (d.onFov f).regs = d.regs := rfl
@[simp] theorem Dev.onFov_counters (d : Dev) (f : Fov → Fov) : (d.onFov f).counters = d.counters := rfl
@[simp] theorem Dev.onFov_evtSeq (d : Dev) (f : Fov → Fov) : (d.onFov f).evtSeq = d.evtSeq := rfl
@[simp] theorem Dev.onFov_held (d : Dev) (f : Fov → Fov) : (d.onFov f).held = d.held := rfl
@[simp] theorem Dev.onFov_pins (d : Dev) (f : Fov → Fov) : (d.onFov f).pins = d.pins := rfl
@[simp] theorem Dev.onFov_clk (d : Dev) (f : Fov → Fov) : (d.onFov f).clk = d.clk := rfl
@[simp] theorem Dev.onFov_pes (d : Dev) (f : Fov → Fov) : (d.onFov f).pes = d.pes := rfl
@[simp] theorem Dev.onFov_rul (d : Dev) (f : Fov → Fov) : (d.onFov f).rul = d.rul := rfl
@[simp] theorem Dev.onFov_cp (d : Dev) (f : Fov → Fov) : (d.onFov f).cp = d.cp := rfl
@[simp] theorem Dev.onFov_pmc (d : Dev) (f : Fov → Fov) : (d.onFov f).pmc = d.pmc := rfl
@[simp] theorem Dev.onFov_lmon (d : Dev) (f : Fov → Fov) : (d.onFov f).lmon = d.lmon := rfl
@[simp] theorem Dev.onFov_wbl (d : Dev) (f : Fov → Fov) : (d.onFov f).wbl = d.wbl := rfl
@[simp] theorem Dev.onFov_mem (d : Dev) (f : Fov → Fov) : (d.onFov f).mem = d.mem := rfl
@[simp] theorem Dev.onFov_mep (d : Dev) (f : Fov → Fov) : (d.onFov f).mep = d.mep := rfl
@[simp] theorem Dev.onFov_fov (d : Dev) (f : Fov → Fov) : (d.onFov f).fov = f d.fov := rfl
@[simp] theorem Dev.onFov_tpk (d : Dev) (f : Fov → Fov) : (d.onFov f).tpk = d.tpk := rfl
@[simp] theorem Dev.onFov_tdm (d : Dev) (f : Fov → Fov) : (d.onFov f).tdm = d.tdm := rfl
@[simp] theorem Dev.onFov_rae (d : Dev) (f : Fov → Fov) : (d.onFov f).rae = d.rae := rfl
@[simp] theorem Dev.onFov_hqe (d : Dev) (f : Fov → Fov) : (d.onFov f).hqe = d.hqe := rfl
@[simp] theorem Dev.onFov_lvy (d : Dev) (f : Fov → Fov) : (d.onFov f).lvy = d.lvy := rfl
@[simp] theorem Dev.onFov_lay (d : Dev) (f : Fov → Fov) : (d.onFov f).lay = d.lay := rfl
@[simp] theorem Dev.onFov_nib (d : Dev) (f : Fov → Fov) : (d.onFov f).nib = d.nib := rfl
@[simp] theorem Dev.onFov_blt (d : Dev) (f : Fov → Fov) : (d.onFov f).blt = d.blt := rfl
@[simp] theorem Dev.onFov_otr (d : Dev) (f : Fov → Fov) : (d.onFov f).otr = d.otr := rfl
@[simp] theorem Dev.onFov_rd (d : Dev) (f : Fov → Fov) : (d.onFov f).rd = d.rd := rfl
@[simp] theorem Dev.onFov_rly (d : Dev) (f : Fov → Fov) : (d.onFov f).rly = d.rly := rfl
@[simp] theorem Dev.onFov_drv (d : Dev) (f : Fov → Fov) : (d.onFov f).drv = d.drv := rfl
@[simp] theorem Dev.onFov_cve (d : Dev) (f : Fov → Fov) : (d.onFov f).cve = d.cve := rfl
@[simp] theorem Dev.onFov_drl (d : Dev) (f : Fov → Fov) : (d.onFov f).drl = d.drl := rfl
@[simp] theorem Dev.onTpk_q (d : Dev) (f : Tpk → Tpk) : (d.onTpk f).q = d.q := rfl
@[simp] theorem Dev.onTpk_free (d : Dev) (f : Tpk → Tpk) : (d.onTpk f).free = d.free := rfl
@[simp] theorem Dev.onTpk_out (d : Dev) (f : Tpk → Tpk) : (d.onTpk f).out = d.out := rfl
@[simp] theorem Dev.onTpk_regs (d : Dev) (f : Tpk → Tpk) : (d.onTpk f).regs = d.regs := rfl
@[simp] theorem Dev.onTpk_counters (d : Dev) (f : Tpk → Tpk) : (d.onTpk f).counters = d.counters := rfl
@[simp] theorem Dev.onTpk_evtSeq (d : Dev) (f : Tpk → Tpk) : (d.onTpk f).evtSeq = d.evtSeq := rfl
@[simp] theorem Dev.onTpk_held (d : Dev) (f : Tpk → Tpk) : (d.onTpk f).held = d.held := rfl
@[simp] theorem Dev.onTpk_pins (d : Dev) (f : Tpk → Tpk) : (d.onTpk f).pins = d.pins := rfl
@[simp] theorem Dev.onTpk_clk (d : Dev) (f : Tpk → Tpk) : (d.onTpk f).clk = d.clk := rfl
@[simp] theorem Dev.onTpk_pes (d : Dev) (f : Tpk → Tpk) : (d.onTpk f).pes = d.pes := rfl
@[simp] theorem Dev.onTpk_rul (d : Dev) (f : Tpk → Tpk) : (d.onTpk f).rul = d.rul := rfl
@[simp] theorem Dev.onTpk_cp (d : Dev) (f : Tpk → Tpk) : (d.onTpk f).cp = d.cp := rfl
@[simp] theorem Dev.onTpk_pmc (d : Dev) (f : Tpk → Tpk) : (d.onTpk f).pmc = d.pmc := rfl
@[simp] theorem Dev.onTpk_lmon (d : Dev) (f : Tpk → Tpk) : (d.onTpk f).lmon = d.lmon := rfl
@[simp] theorem Dev.onTpk_wbl (d : Dev) (f : Tpk → Tpk) : (d.onTpk f).wbl = d.wbl := rfl
@[simp] theorem Dev.onTpk_mem (d : Dev) (f : Tpk → Tpk) : (d.onTpk f).mem = d.mem := rfl
@[simp] theorem Dev.onTpk_mep (d : Dev) (f : Tpk → Tpk) : (d.onTpk f).mep = d.mep := rfl
@[simp] theorem Dev.onTpk_fov (d : Dev) (f : Tpk → Tpk) : (d.onTpk f).fov = d.fov := rfl
@[simp] theorem Dev.onTpk_tpk (d : Dev) (f : Tpk → Tpk) : (d.onTpk f).tpk = f d.tpk := rfl
@[simp] theorem Dev.onTpk_tdm (d : Dev) (f : Tpk → Tpk) : (d.onTpk f).tdm = d.tdm := rfl
@[simp] theorem Dev.onTpk_rae (d : Dev) (f : Tpk → Tpk) : (d.onTpk f).rae = d.rae := rfl
@[simp] theorem Dev.onTpk_hqe (d : Dev) (f : Tpk → Tpk) : (d.onTpk f).hqe = d.hqe := rfl
@[simp] theorem Dev.onTpk_lvy (d : Dev) (f : Tpk → Tpk) : (d.onTpk f).lvy = d.lvy := rfl
@[simp] theorem Dev.onTpk_lay (d : Dev) (f : Tpk → Tpk) : (d.onTpk f).lay = d.lay := rfl
@[simp] theorem Dev.onTpk_nib (d : Dev) (f : Tpk → Tpk) : (d.onTpk f).nib = d.nib := rfl
@[simp] theorem Dev.onTpk_blt (d : Dev) (f : Tpk → Tpk) : (d.onTpk f).blt = d.blt := rfl
@[simp] theorem Dev.onTpk_otr (d : Dev) (f : Tpk → Tpk) : (d.onTpk f).otr = d.otr := rfl
@[simp] theorem Dev.onTpk_rd (d : Dev) (f : Tpk → Tpk) : (d.onTpk f).rd = d.rd := rfl
@[simp] theorem Dev.onTpk_rly (d : Dev) (f : Tpk → Tpk) : (d.onTpk f).rly = d.rly := rfl
@[simp] theorem Dev.onTpk_drv (d : Dev) (f : Tpk → Tpk) : (d.onTpk f).drv = d.drv := rfl
@[simp] theorem Dev.onTpk_cve (d : Dev) (f : Tpk → Tpk) : (d.onTpk f).cve = d.cve := rfl
@[simp] theorem Dev.onTpk_drl (d : Dev) (f : Tpk → Tpk) : (d.onTpk f).drl = d.drl := rfl
@[simp] theorem Dev.onTdm_q (d : Dev) (f : Tdm → Tdm) : (d.onTdm f).q = d.q := rfl
@[simp] theorem Dev.onTdm_free (d : Dev) (f : Tdm → Tdm) : (d.onTdm f).free = d.free := rfl
@[simp] theorem Dev.onTdm_out (d : Dev) (f : Tdm → Tdm) : (d.onTdm f).out = d.out := rfl
@[simp] theorem Dev.onTdm_regs (d : Dev) (f : Tdm → Tdm) : (d.onTdm f).regs = d.regs := rfl
@[simp] theorem Dev.onTdm_counters (d : Dev) (f : Tdm → Tdm) : (d.onTdm f).counters = d.counters := rfl
@[simp] theorem Dev.onTdm_evtSeq (d : Dev) (f : Tdm → Tdm) : (d.onTdm f).evtSeq = d.evtSeq := rfl
@[simp] theorem Dev.onTdm_held (d : Dev) (f : Tdm → Tdm) : (d.onTdm f).held = d.held := rfl
@[simp] theorem Dev.onTdm_pins (d : Dev) (f : Tdm → Tdm) : (d.onTdm f).pins = d.pins := rfl
@[simp] theorem Dev.onTdm_clk (d : Dev) (f : Tdm → Tdm) : (d.onTdm f).clk = d.clk := rfl
@[simp] theorem Dev.onTdm_pes (d : Dev) (f : Tdm → Tdm) : (d.onTdm f).pes = d.pes := rfl
@[simp] theorem Dev.onTdm_rul (d : Dev) (f : Tdm → Tdm) : (d.onTdm f).rul = d.rul := rfl
@[simp] theorem Dev.onTdm_cp (d : Dev) (f : Tdm → Tdm) : (d.onTdm f).cp = d.cp := rfl
@[simp] theorem Dev.onTdm_pmc (d : Dev) (f : Tdm → Tdm) : (d.onTdm f).pmc = d.pmc := rfl
@[simp] theorem Dev.onTdm_lmon (d : Dev) (f : Tdm → Tdm) : (d.onTdm f).lmon = d.lmon := rfl
@[simp] theorem Dev.onTdm_wbl (d : Dev) (f : Tdm → Tdm) : (d.onTdm f).wbl = d.wbl := rfl
@[simp] theorem Dev.onTdm_mem (d : Dev) (f : Tdm → Tdm) : (d.onTdm f).mem = d.mem := rfl
@[simp] theorem Dev.onTdm_mep (d : Dev) (f : Tdm → Tdm) : (d.onTdm f).mep = d.mep := rfl
@[simp] theorem Dev.onTdm_fov (d : Dev) (f : Tdm → Tdm) : (d.onTdm f).fov = d.fov := rfl
@[simp] theorem Dev.onTdm_tpk (d : Dev) (f : Tdm → Tdm) : (d.onTdm f).tpk = d.tpk := rfl
@[simp] theorem Dev.onTdm_tdm (d : Dev) (f : Tdm → Tdm) : (d.onTdm f).tdm = f d.tdm := rfl
@[simp] theorem Dev.onTdm_rae (d : Dev) (f : Tdm → Tdm) : (d.onTdm f).rae = d.rae := rfl
@[simp] theorem Dev.onTdm_hqe (d : Dev) (f : Tdm → Tdm) : (d.onTdm f).hqe = d.hqe := rfl
@[simp] theorem Dev.onTdm_lvy (d : Dev) (f : Tdm → Tdm) : (d.onTdm f).lvy = d.lvy := rfl
@[simp] theorem Dev.onTdm_lay (d : Dev) (f : Tdm → Tdm) : (d.onTdm f).lay = d.lay := rfl
@[simp] theorem Dev.onTdm_nib (d : Dev) (f : Tdm → Tdm) : (d.onTdm f).nib = d.nib := rfl
@[simp] theorem Dev.onTdm_blt (d : Dev) (f : Tdm → Tdm) : (d.onTdm f).blt = d.blt := rfl
@[simp] theorem Dev.onTdm_otr (d : Dev) (f : Tdm → Tdm) : (d.onTdm f).otr = d.otr := rfl
@[simp] theorem Dev.onTdm_rd (d : Dev) (f : Tdm → Tdm) : (d.onTdm f).rd = d.rd := rfl
@[simp] theorem Dev.onTdm_rly (d : Dev) (f : Tdm → Tdm) : (d.onTdm f).rly = d.rly := rfl
@[simp] theorem Dev.onTdm_drv (d : Dev) (f : Tdm → Tdm) : (d.onTdm f).drv = d.drv := rfl
@[simp] theorem Dev.onTdm_cve (d : Dev) (f : Tdm → Tdm) : (d.onTdm f).cve = d.cve := rfl
@[simp] theorem Dev.onTdm_drl (d : Dev) (f : Tdm → Tdm) : (d.onTdm f).drl = d.drl := rfl
@[simp] theorem Dev.onRae_q (d : Dev) (f : Rae → Rae) : (d.onRae f).q = d.q := rfl
@[simp] theorem Dev.onRae_free (d : Dev) (f : Rae → Rae) : (d.onRae f).free = d.free := rfl
@[simp] theorem Dev.onRae_out (d : Dev) (f : Rae → Rae) : (d.onRae f).out = d.out := rfl
@[simp] theorem Dev.onRae_regs (d : Dev) (f : Rae → Rae) : (d.onRae f).regs = d.regs := rfl
@[simp] theorem Dev.onRae_counters (d : Dev) (f : Rae → Rae) : (d.onRae f).counters = d.counters := rfl
@[simp] theorem Dev.onRae_evtSeq (d : Dev) (f : Rae → Rae) : (d.onRae f).evtSeq = d.evtSeq := rfl
@[simp] theorem Dev.onRae_held (d : Dev) (f : Rae → Rae) : (d.onRae f).held = d.held := rfl
@[simp] theorem Dev.onRae_pins (d : Dev) (f : Rae → Rae) : (d.onRae f).pins = d.pins := rfl
@[simp] theorem Dev.onRae_clk (d : Dev) (f : Rae → Rae) : (d.onRae f).clk = d.clk := rfl
@[simp] theorem Dev.onRae_pes (d : Dev) (f : Rae → Rae) : (d.onRae f).pes = d.pes := rfl
@[simp] theorem Dev.onRae_rul (d : Dev) (f : Rae → Rae) : (d.onRae f).rul = d.rul := rfl
@[simp] theorem Dev.onRae_cp (d : Dev) (f : Rae → Rae) : (d.onRae f).cp = d.cp := rfl
@[simp] theorem Dev.onRae_pmc (d : Dev) (f : Rae → Rae) : (d.onRae f).pmc = d.pmc := rfl
@[simp] theorem Dev.onRae_lmon (d : Dev) (f : Rae → Rae) : (d.onRae f).lmon = d.lmon := rfl
@[simp] theorem Dev.onRae_wbl (d : Dev) (f : Rae → Rae) : (d.onRae f).wbl = d.wbl := rfl
@[simp] theorem Dev.onRae_mem (d : Dev) (f : Rae → Rae) : (d.onRae f).mem = d.mem := rfl
@[simp] theorem Dev.onRae_mep (d : Dev) (f : Rae → Rae) : (d.onRae f).mep = d.mep := rfl
@[simp] theorem Dev.onRae_fov (d : Dev) (f : Rae → Rae) : (d.onRae f).fov = d.fov := rfl
@[simp] theorem Dev.onRae_tpk (d : Dev) (f : Rae → Rae) : (d.onRae f).tpk = d.tpk := rfl
@[simp] theorem Dev.onRae_tdm (d : Dev) (f : Rae → Rae) : (d.onRae f).tdm = d.tdm := rfl
@[simp] theorem Dev.onRae_rae (d : Dev) (f : Rae → Rae) : (d.onRae f).rae = f d.rae := rfl
@[simp] theorem Dev.onRae_hqe (d : Dev) (f : Rae → Rae) : (d.onRae f).hqe = d.hqe := rfl
@[simp] theorem Dev.onRae_lvy (d : Dev) (f : Rae → Rae) : (d.onRae f).lvy = d.lvy := rfl
@[simp] theorem Dev.onRae_lay (d : Dev) (f : Rae → Rae) : (d.onRae f).lay = d.lay := rfl
@[simp] theorem Dev.onRae_nib (d : Dev) (f : Rae → Rae) : (d.onRae f).nib = d.nib := rfl
@[simp] theorem Dev.onRae_blt (d : Dev) (f : Rae → Rae) : (d.onRae f).blt = d.blt := rfl
@[simp] theorem Dev.onRae_otr (d : Dev) (f : Rae → Rae) : (d.onRae f).otr = d.otr := rfl
@[simp] theorem Dev.onRae_rd (d : Dev) (f : Rae → Rae) : (d.onRae f).rd = d.rd := rfl
@[simp] theorem Dev.onRae_rly (d : Dev) (f : Rae → Rae) : (d.onRae f).rly = d.rly := rfl
@[simp] theorem Dev.onRae_drv (d : Dev) (f : Rae → Rae) : (d.onRae f).drv = d.drv := rfl
@[simp] theorem Dev.onRae_cve (d : Dev) (f : Rae → Rae) : (d.onRae f).cve = d.cve := rfl
@[simp] theorem Dev.onRae_drl (d : Dev) (f : Rae → Rae) : (d.onRae f).drl = d.drl := rfl
@[simp] theorem Dev.onHqe_q (d : Dev) (f : Hqe → Hqe) : (d.onHqe f).q = d.q := rfl
@[simp] theorem Dev.onHqe_free (d : Dev) (f : Hqe → Hqe) : (d.onHqe f).free = d.free := rfl
@[simp] theorem Dev.onHqe_out (d : Dev) (f : Hqe → Hqe) : (d.onHqe f).out = d.out := rfl
@[simp] theorem Dev.onHqe_regs (d : Dev) (f : Hqe → Hqe) : (d.onHqe f).regs = d.regs := rfl
@[simp] theorem Dev.onHqe_counters (d : Dev) (f : Hqe → Hqe) : (d.onHqe f).counters = d.counters := rfl
@[simp] theorem Dev.onHqe_evtSeq (d : Dev) (f : Hqe → Hqe) : (d.onHqe f).evtSeq = d.evtSeq := rfl
@[simp] theorem Dev.onHqe_held (d : Dev) (f : Hqe → Hqe) : (d.onHqe f).held = d.held := rfl
@[simp] theorem Dev.onHqe_pins (d : Dev) (f : Hqe → Hqe) : (d.onHqe f).pins = d.pins := rfl
@[simp] theorem Dev.onHqe_clk (d : Dev) (f : Hqe → Hqe) : (d.onHqe f).clk = d.clk := rfl
@[simp] theorem Dev.onHqe_pes (d : Dev) (f : Hqe → Hqe) : (d.onHqe f).pes = d.pes := rfl
@[simp] theorem Dev.onHqe_rul (d : Dev) (f : Hqe → Hqe) : (d.onHqe f).rul = d.rul := rfl
@[simp] theorem Dev.onHqe_cp (d : Dev) (f : Hqe → Hqe) : (d.onHqe f).cp = d.cp := rfl
@[simp] theorem Dev.onHqe_pmc (d : Dev) (f : Hqe → Hqe) : (d.onHqe f).pmc = d.pmc := rfl
@[simp] theorem Dev.onHqe_lmon (d : Dev) (f : Hqe → Hqe) : (d.onHqe f).lmon = d.lmon := rfl
@[simp] theorem Dev.onHqe_wbl (d : Dev) (f : Hqe → Hqe) : (d.onHqe f).wbl = d.wbl := rfl
@[simp] theorem Dev.onHqe_mem (d : Dev) (f : Hqe → Hqe) : (d.onHqe f).mem = d.mem := rfl
@[simp] theorem Dev.onHqe_mep (d : Dev) (f : Hqe → Hqe) : (d.onHqe f).mep = d.mep := rfl
@[simp] theorem Dev.onHqe_fov (d : Dev) (f : Hqe → Hqe) : (d.onHqe f).fov = d.fov := rfl
@[simp] theorem Dev.onHqe_tpk (d : Dev) (f : Hqe → Hqe) : (d.onHqe f).tpk = d.tpk := rfl
@[simp] theorem Dev.onHqe_tdm (d : Dev) (f : Hqe → Hqe) : (d.onHqe f).tdm = d.tdm := rfl
@[simp] theorem Dev.onHqe_rae (d : Dev) (f : Hqe → Hqe) : (d.onHqe f).rae = d.rae := rfl
@[simp] theorem Dev.onHqe_hqe (d : Dev) (f : Hqe → Hqe) : (d.onHqe f).hqe = f d.hqe := rfl
@[simp] theorem Dev.onHqe_lvy (d : Dev) (f : Hqe → Hqe) : (d.onHqe f).lvy = d.lvy := rfl
@[simp] theorem Dev.onHqe_lay (d : Dev) (f : Hqe → Hqe) : (d.onHqe f).lay = d.lay := rfl
@[simp] theorem Dev.onHqe_nib (d : Dev) (f : Hqe → Hqe) : (d.onHqe f).nib = d.nib := rfl
@[simp] theorem Dev.onHqe_blt (d : Dev) (f : Hqe → Hqe) : (d.onHqe f).blt = d.blt := rfl
@[simp] theorem Dev.onHqe_otr (d : Dev) (f : Hqe → Hqe) : (d.onHqe f).otr = d.otr := rfl
@[simp] theorem Dev.onHqe_rd (d : Dev) (f : Hqe → Hqe) : (d.onHqe f).rd = d.rd := rfl
@[simp] theorem Dev.onHqe_rly (d : Dev) (f : Hqe → Hqe) : (d.onHqe f).rly = d.rly := rfl
@[simp] theorem Dev.onHqe_drv (d : Dev) (f : Hqe → Hqe) : (d.onHqe f).drv = d.drv := rfl
@[simp] theorem Dev.onHqe_cve (d : Dev) (f : Hqe → Hqe) : (d.onHqe f).cve = d.cve := rfl
@[simp] theorem Dev.onHqe_drl (d : Dev) (f : Hqe → Hqe) : (d.onHqe f).drl = d.drl := rfl
@[simp] theorem Dev.onLvy_q (d : Dev) (f : Lvy → Lvy) : (d.onLvy f).q = d.q := rfl
@[simp] theorem Dev.onLvy_free (d : Dev) (f : Lvy → Lvy) : (d.onLvy f).free = d.free := rfl
@[simp] theorem Dev.onLvy_out (d : Dev) (f : Lvy → Lvy) : (d.onLvy f).out = d.out := rfl
@[simp] theorem Dev.onLvy_regs (d : Dev) (f : Lvy → Lvy) : (d.onLvy f).regs = d.regs := rfl
@[simp] theorem Dev.onLvy_counters (d : Dev) (f : Lvy → Lvy) : (d.onLvy f).counters = d.counters := rfl
@[simp] theorem Dev.onLvy_evtSeq (d : Dev) (f : Lvy → Lvy) : (d.onLvy f).evtSeq = d.evtSeq := rfl
@[simp] theorem Dev.onLvy_held (d : Dev) (f : Lvy → Lvy) : (d.onLvy f).held = d.held := rfl
@[simp] theorem Dev.onLvy_pins (d : Dev) (f : Lvy → Lvy) : (d.onLvy f).pins = d.pins := rfl
@[simp] theorem Dev.onLvy_clk (d : Dev) (f : Lvy → Lvy) : (d.onLvy f).clk = d.clk := rfl
@[simp] theorem Dev.onLvy_pes (d : Dev) (f : Lvy → Lvy) : (d.onLvy f).pes = d.pes := rfl
@[simp] theorem Dev.onLvy_rul (d : Dev) (f : Lvy → Lvy) : (d.onLvy f).rul = d.rul := rfl
@[simp] theorem Dev.onLvy_cp (d : Dev) (f : Lvy → Lvy) : (d.onLvy f).cp = d.cp := rfl
@[simp] theorem Dev.onLvy_pmc (d : Dev) (f : Lvy → Lvy) : (d.onLvy f).pmc = d.pmc := rfl
@[simp] theorem Dev.onLvy_lmon (d : Dev) (f : Lvy → Lvy) : (d.onLvy f).lmon = d.lmon := rfl
@[simp] theorem Dev.onLvy_wbl (d : Dev) (f : Lvy → Lvy) : (d.onLvy f).wbl = d.wbl := rfl
@[simp] theorem Dev.onLvy_mem (d : Dev) (f : Lvy → Lvy) : (d.onLvy f).mem = d.mem := rfl
@[simp] theorem Dev.onLvy_mep (d : Dev) (f : Lvy → Lvy) : (d.onLvy f).mep = d.mep := rfl
@[simp] theorem Dev.onLvy_fov (d : Dev) (f : Lvy → Lvy) : (d.onLvy f).fov = d.fov := rfl
@[simp] theorem Dev.onLvy_tpk (d : Dev) (f : Lvy → Lvy) : (d.onLvy f).tpk = d.tpk := rfl
@[simp] theorem Dev.onLvy_tdm (d : Dev) (f : Lvy → Lvy) : (d.onLvy f).tdm = d.tdm := rfl
@[simp] theorem Dev.onLvy_rae (d : Dev) (f : Lvy → Lvy) : (d.onLvy f).rae = d.rae := rfl
@[simp] theorem Dev.onLvy_hqe (d : Dev) (f : Lvy → Lvy) : (d.onLvy f).hqe = d.hqe := rfl
@[simp] theorem Dev.onLvy_lvy (d : Dev) (f : Lvy → Lvy) : (d.onLvy f).lvy = f d.lvy := rfl
@[simp] theorem Dev.onLvy_lay (d : Dev) (f : Lvy → Lvy) : (d.onLvy f).lay = d.lay := rfl
@[simp] theorem Dev.onLvy_nib (d : Dev) (f : Lvy → Lvy) : (d.onLvy f).nib = d.nib := rfl
@[simp] theorem Dev.onLvy_blt (d : Dev) (f : Lvy → Lvy) : (d.onLvy f).blt = d.blt := rfl
@[simp] theorem Dev.onLvy_otr (d : Dev) (f : Lvy → Lvy) : (d.onLvy f).otr = d.otr := rfl
@[simp] theorem Dev.onLvy_rd (d : Dev) (f : Lvy → Lvy) : (d.onLvy f).rd = d.rd := rfl
@[simp] theorem Dev.onLvy_rly (d : Dev) (f : Lvy → Lvy) : (d.onLvy f).rly = d.rly := rfl
@[simp] theorem Dev.onLvy_drv (d : Dev) (f : Lvy → Lvy) : (d.onLvy f).drv = d.drv := rfl
@[simp] theorem Dev.onLvy_cve (d : Dev) (f : Lvy → Lvy) : (d.onLvy f).cve = d.cve := rfl
@[simp] theorem Dev.onLvy_drl (d : Dev) (f : Lvy → Lvy) : (d.onLvy f).drl = d.drl := rfl
@[simp] theorem Dev.onLay_q (d : Dev) (f : Lay → Lay) : (d.onLay f).q = d.q := rfl
@[simp] theorem Dev.onLay_free (d : Dev) (f : Lay → Lay) : (d.onLay f).free = d.free := rfl
@[simp] theorem Dev.onLay_out (d : Dev) (f : Lay → Lay) : (d.onLay f).out = d.out := rfl
@[simp] theorem Dev.onLay_regs (d : Dev) (f : Lay → Lay) : (d.onLay f).regs = d.regs := rfl
@[simp] theorem Dev.onLay_counters (d : Dev) (f : Lay → Lay) : (d.onLay f).counters = d.counters := rfl
@[simp] theorem Dev.onLay_evtSeq (d : Dev) (f : Lay → Lay) : (d.onLay f).evtSeq = d.evtSeq := rfl
@[simp] theorem Dev.onLay_held (d : Dev) (f : Lay → Lay) : (d.onLay f).held = d.held := rfl
@[simp] theorem Dev.onLay_pins (d : Dev) (f : Lay → Lay) : (d.onLay f).pins = d.pins := rfl
@[simp] theorem Dev.onLay_clk (d : Dev) (f : Lay → Lay) : (d.onLay f).clk = d.clk := rfl
@[simp] theorem Dev.onLay_pes (d : Dev) (f : Lay → Lay) : (d.onLay f).pes = d.pes := rfl
@[simp] theorem Dev.onLay_rul (d : Dev) (f : Lay → Lay) : (d.onLay f).rul = d.rul := rfl
@[simp] theorem Dev.onLay_cp (d : Dev) (f : Lay → Lay) : (d.onLay f).cp = d.cp := rfl
@[simp] theorem Dev.onLay_pmc (d : Dev) (f : Lay → Lay) : (d.onLay f).pmc = d.pmc := rfl
@[simp] theorem Dev.onLay_lmon (d : Dev) (f : Lay → Lay) : (d.onLay f).lmon = d.lmon := rfl
@[simp] theorem Dev.onLay_wbl (d : Dev) (f : Lay → Lay) : (d.onLay f).wbl = d.wbl := rfl
@[simp] theorem Dev.onLay_mem (d : Dev) (f : Lay → Lay) : (d.onLay f).mem = d.mem := rfl
@[simp] theorem Dev.onLay_mep (d : Dev) (f : Lay → Lay) : (d.onLay f).mep = d.mep := rfl
@[simp] theorem Dev.onLay_fov (d : Dev) (f : Lay → Lay) : (d.onLay f).fov = d.fov := rfl
@[simp] theorem Dev.onLay_tpk (d : Dev) (f : Lay → Lay) : (d.onLay f).tpk = d.tpk := rfl
@[simp] theorem Dev.onLay_tdm (d : Dev) (f : Lay → Lay) : (d.onLay f).tdm = d.tdm := rfl
@[simp] theorem Dev.onLay_rae (d : Dev) (f : Lay → Lay) : (d.onLay f).rae = d.rae := rfl
@[simp] theorem Dev.onLay_hqe (d : Dev) (f : Lay → Lay) : (d.onLay f).hqe = d.hqe := rfl
@[simp] theorem Dev.onLay_lvy (d : Dev) (f : Lay → Lay) : (d.onLay f).lvy = d.lvy := rfl
@[simp] theorem Dev.onLay_lay (d : Dev) (f : Lay → Lay) : (d.onLay f).lay = f d.lay := rfl
@[simp] theorem Dev.onLay_nib (d : Dev) (f : Lay → Lay) : (d.onLay f).nib = d.nib := rfl
@[simp] theorem Dev.onLay_blt (d : Dev) (f : Lay → Lay) : (d.onLay f).blt = d.blt := rfl
@[simp] theorem Dev.onLay_otr (d : Dev) (f : Lay → Lay) : (d.onLay f).otr = d.otr := rfl
@[simp] theorem Dev.onLay_rd (d : Dev) (f : Lay → Lay) : (d.onLay f).rd = d.rd := rfl
@[simp] theorem Dev.onLay_rly (d : Dev) (f : Lay → Lay) : (d.onLay f).rly = d.rly := rfl
@[simp] theorem Dev.onLay_drv (d : Dev) (f : Lay → Lay) : (d.onLay f).drv = d.drv := rfl
@[simp] theorem Dev.onLay_cve (d : Dev) (f : Lay → Lay) : (d.onLay f).cve = d.cve := rfl
@[simp] theorem Dev.onLay_drl (d : Dev) (f : Lay → Lay) : (d.onLay f).drl = d.drl := rfl
@[simp] theorem Dev.onNib_q (d : Dev) (f : Nib → Nib) : (d.onNib f).q = d.q := rfl
@[simp] theorem Dev.onNib_free (d : Dev) (f : Nib → Nib) : (d.onNib f).free = d.free := rfl
@[simp] theorem Dev.onNib_out (d : Dev) (f : Nib → Nib) : (d.onNib f).out = d.out := rfl
@[simp] theorem Dev.onNib_regs (d : Dev) (f : Nib → Nib) : (d.onNib f).regs = d.regs := rfl
@[simp] theorem Dev.onNib_counters (d : Dev) (f : Nib → Nib) : (d.onNib f).counters = d.counters := rfl
@[simp] theorem Dev.onNib_evtSeq (d : Dev) (f : Nib → Nib) : (d.onNib f).evtSeq = d.evtSeq := rfl
@[simp] theorem Dev.onNib_held (d : Dev) (f : Nib → Nib) : (d.onNib f).held = d.held := rfl
@[simp] theorem Dev.onNib_pins (d : Dev) (f : Nib → Nib) : (d.onNib f).pins = d.pins := rfl
@[simp] theorem Dev.onNib_clk (d : Dev) (f : Nib → Nib) : (d.onNib f).clk = d.clk := rfl
@[simp] theorem Dev.onNib_pes (d : Dev) (f : Nib → Nib) : (d.onNib f).pes = d.pes := rfl
@[simp] theorem Dev.onNib_rul (d : Dev) (f : Nib → Nib) : (d.onNib f).rul = d.rul := rfl
@[simp] theorem Dev.onNib_cp (d : Dev) (f : Nib → Nib) : (d.onNib f).cp = d.cp := rfl
@[simp] theorem Dev.onNib_pmc (d : Dev) (f : Nib → Nib) : (d.onNib f).pmc = d.pmc := rfl
@[simp] theorem Dev.onNib_lmon (d : Dev) (f : Nib → Nib) : (d.onNib f).lmon = d.lmon := rfl
@[simp] theorem Dev.onNib_wbl (d : Dev) (f : Nib → Nib) : (d.onNib f).wbl = d.wbl := rfl
@[simp] theorem Dev.onNib_mem (d : Dev) (f : Nib → Nib) : (d.onNib f).mem = d.mem := rfl
@[simp] theorem Dev.onNib_mep (d : Dev) (f : Nib → Nib) : (d.onNib f).mep = d.mep := rfl
@[simp] theorem Dev.onNib_fov (d : Dev) (f : Nib → Nib) : (d.onNib f).fov = d.fov := rfl
@[simp] theorem Dev.onNib_tpk (d : Dev) (f : Nib → Nib) : (d.onNib f).tpk = d.tpk := rfl
@[simp] theorem Dev.onNib_tdm (d : Dev) (f : Nib → Nib) : (d.onNib f).tdm = d.tdm := rfl
@[simp] theorem Dev.onNib_rae (d : Dev) (f : Nib → Nib) : (d.onNib f).rae = d.rae := rfl
@[simp] theorem Dev.onNib_hqe (d : Dev) (f : Nib → Nib) : (d.onNib f).hqe = d.hqe := rfl
@[simp] theorem Dev.onNib_lvy (d : Dev) (f : Nib → Nib) : (d.onNib f).lvy = d.lvy := rfl
@[simp] theorem Dev.onNib_lay (d : Dev) (f : Nib → Nib) : (d.onNib f).lay = d.lay := rfl
@[simp] theorem Dev.onNib_nib (d : Dev) (f : Nib → Nib) : (d.onNib f).nib = f d.nib := rfl
@[simp] theorem Dev.onNib_blt (d : Dev) (f : Nib → Nib) : (d.onNib f).blt = d.blt := rfl
@[simp] theorem Dev.onNib_otr (d : Dev) (f : Nib → Nib) : (d.onNib f).otr = d.otr := rfl
@[simp] theorem Dev.onNib_rd (d : Dev) (f : Nib → Nib) : (d.onNib f).rd = d.rd := rfl
@[simp] theorem Dev.onNib_rly (d : Dev) (f : Nib → Nib) : (d.onNib f).rly = d.rly := rfl
@[simp] theorem Dev.onNib_drv (d : Dev) (f : Nib → Nib) : (d.onNib f).drv = d.drv := rfl
@[simp] theorem Dev.onNib_cve (d : Dev) (f : Nib → Nib) : (d.onNib f).cve = d.cve := rfl
@[simp] theorem Dev.onNib_drl (d : Dev) (f : Nib → Nib) : (d.onNib f).drl = d.drl := rfl
@[simp] theorem Dev.onBlt_q (d : Dev) (f : Blt → Blt) : (d.onBlt f).q = d.q := rfl
@[simp] theorem Dev.onBlt_free (d : Dev) (f : Blt → Blt) : (d.onBlt f).free = d.free := rfl
@[simp] theorem Dev.onBlt_out (d : Dev) (f : Blt → Blt) : (d.onBlt f).out = d.out := rfl
@[simp] theorem Dev.onBlt_regs (d : Dev) (f : Blt → Blt) : (d.onBlt f).regs = d.regs := rfl
@[simp] theorem Dev.onBlt_counters (d : Dev) (f : Blt → Blt) : (d.onBlt f).counters = d.counters := rfl
@[simp] theorem Dev.onBlt_evtSeq (d : Dev) (f : Blt → Blt) : (d.onBlt f).evtSeq = d.evtSeq := rfl
@[simp] theorem Dev.onBlt_held (d : Dev) (f : Blt → Blt) : (d.onBlt f).held = d.held := rfl
@[simp] theorem Dev.onBlt_pins (d : Dev) (f : Blt → Blt) : (d.onBlt f).pins = d.pins := rfl
@[simp] theorem Dev.onBlt_clk (d : Dev) (f : Blt → Blt) : (d.onBlt f).clk = d.clk := rfl
@[simp] theorem Dev.onBlt_pes (d : Dev) (f : Blt → Blt) : (d.onBlt f).pes = d.pes := rfl
@[simp] theorem Dev.onBlt_rul (d : Dev) (f : Blt → Blt) : (d.onBlt f).rul = d.rul := rfl
@[simp] theorem Dev.onBlt_cp (d : Dev) (f : Blt → Blt) : (d.onBlt f).cp = d.cp := rfl
@[simp] theorem Dev.onBlt_pmc (d : Dev) (f : Blt → Blt) : (d.onBlt f).pmc = d.pmc := rfl
@[simp] theorem Dev.onBlt_lmon (d : Dev) (f : Blt → Blt) : (d.onBlt f).lmon = d.lmon := rfl
@[simp] theorem Dev.onBlt_wbl (d : Dev) (f : Blt → Blt) : (d.onBlt f).wbl = d.wbl := rfl
@[simp] theorem Dev.onBlt_mem (d : Dev) (f : Blt → Blt) : (d.onBlt f).mem = d.mem := rfl
@[simp] theorem Dev.onBlt_mep (d : Dev) (f : Blt → Blt) : (d.onBlt f).mep = d.mep := rfl
@[simp] theorem Dev.onBlt_fov (d : Dev) (f : Blt → Blt) : (d.onBlt f).fov = d.fov := rfl
@[simp] theorem Dev.onBlt_tpk (d : Dev) (f : Blt → Blt) : (d.onBlt f).tpk = d.tpk := rfl
@[simp] theorem Dev.onBlt_tdm (d : Dev) (f : Blt → Blt) : (d.onBlt f).tdm = d.tdm := rfl
@[simp] theorem Dev.onBlt_rae (d : Dev) (f : Blt → Blt) : (d.onBlt f).rae = d.rae := rfl
@[simp] theorem Dev.onBlt_hqe (d : Dev) (f : Blt → Blt) : (d.onBlt f).hqe = d.hqe := rfl
@[simp] theorem Dev.onBlt_lvy (d : Dev) (f : Blt → Blt) : (d.onBlt f).lvy = d.lvy := rfl
@[simp] theorem Dev.onBlt_lay (d : Dev) (f : Blt → Blt) : (d.onBlt f).lay = d.lay := rfl
@[simp] theorem Dev.onBlt_nib (d : Dev) (f : Blt → Blt) : (d.onBlt f).nib = d.nib := rfl
@[simp] theorem Dev.onBlt_blt (d : Dev) (f : Blt → Blt) : (d.onBlt f).blt = f d.blt := rfl
@[simp] theorem Dev.onBlt_otr (d : Dev) (f : Blt → Blt) : (d.onBlt f).otr = d.otr := rfl
@[simp] theorem Dev.onBlt_rd (d : Dev) (f : Blt → Blt) : (d.onBlt f).rd = d.rd := rfl
@[simp] theorem Dev.onBlt_rly (d : Dev) (f : Blt → Blt) : (d.onBlt f).rly = d.rly := rfl
@[simp] theorem Dev.onBlt_drv (d : Dev) (f : Blt → Blt) : (d.onBlt f).drv = d.drv := rfl
@[simp] theorem Dev.onBlt_cve (d : Dev) (f : Blt → Blt) : (d.onBlt f).cve = d.cve := rfl
@[simp] theorem Dev.onBlt_drl (d : Dev) (f : Blt → Blt) : (d.onBlt f).drl = d.drl := rfl
@[simp] theorem Dev.onOtr_q (d : Dev) (f : Otr → Otr) : (d.onOtr f).q = d.q := rfl
@[simp] theorem Dev.onOtr_free (d : Dev) (f : Otr → Otr) : (d.onOtr f).free = d.free := rfl
@[simp] theorem Dev.onOtr_out (d : Dev) (f : Otr → Otr) : (d.onOtr f).out = d.out := rfl
@[simp] theorem Dev.onOtr_regs (d : Dev) (f : Otr → Otr) : (d.onOtr f).regs = d.regs := rfl
@[simp] theorem Dev.onOtr_counters (d : Dev) (f : Otr → Otr) : (d.onOtr f).counters = d.counters := rfl
@[simp] theorem Dev.onOtr_evtSeq (d : Dev) (f : Otr → Otr) : (d.onOtr f).evtSeq = d.evtSeq := rfl
@[simp] theorem Dev.onOtr_held (d : Dev) (f : Otr → Otr) : (d.onOtr f).held = d.held := rfl
@[simp] theorem Dev.onOtr_pins (d : Dev) (f : Otr → Otr) : (d.onOtr f).pins = d.pins := rfl
@[simp] theorem Dev.onOtr_clk (d : Dev) (f : Otr → Otr) : (d.onOtr f).clk = d.clk := rfl
@[simp] theorem Dev.onOtr_pes (d : Dev) (f : Otr → Otr) : (d.onOtr f).pes = d.pes := rfl
@[simp] theorem Dev.onOtr_rul (d : Dev) (f : Otr → Otr) : (d.onOtr f).rul = d.rul := rfl
@[simp] theorem Dev.onOtr_cp (d : Dev) (f : Otr → Otr) : (d.onOtr f).cp = d.cp := rfl
@[simp] theorem Dev.onOtr_pmc (d : Dev) (f : Otr → Otr) : (d.onOtr f).pmc = d.pmc := rfl
@[simp] theorem Dev.onOtr_lmon (d : Dev) (f : Otr → Otr) : (d.onOtr f).lmon = d.lmon := rfl
@[simp] theorem Dev.onOtr_wbl (d : Dev) (f : Otr → Otr) : (d.onOtr f).wbl = d.wbl := rfl
@[simp] theorem Dev.onOtr_mem (d : Dev) (f : Otr → Otr) : (d.onOtr f).mem = d.mem := rfl
@[simp] theorem Dev.onOtr_mep (d : Dev) (f : Otr → Otr) : (d.onOtr f).mep = d.mep := rfl
@[simp] theorem Dev.onOtr_fov (d : Dev) (f : Otr → Otr) : (d.onOtr f).fov = d.fov := rfl
@[simp] theorem Dev.onOtr_tpk (d : Dev) (f : Otr → Otr) : (d.onOtr f).tpk = d.tpk := rfl
@[simp] theorem Dev.onOtr_tdm (d : Dev) (f : Otr → Otr) : (d.onOtr f).tdm = d.tdm := rfl
@[simp] theorem Dev.onOtr_rae (d : Dev) (f : Otr → Otr) : (d.onOtr f).rae = d.rae := rfl
@[simp] theorem Dev.onOtr_hqe (d : Dev) (f : Otr → Otr) : (d.onOtr f).hqe = d.hqe := rfl
@[simp] theorem Dev.onOtr_lvy (d : Dev) (f : Otr → Otr) : (d.onOtr f).lvy = d.lvy := rfl
@[simp] theorem Dev.onOtr_lay (d : Dev) (f : Otr → Otr) : (d.onOtr f).lay = d.lay := rfl
@[simp] theorem Dev.onOtr_nib (d : Dev) (f : Otr → Otr) : (d.onOtr f).nib = d.nib := rfl
@[simp] theorem Dev.onOtr_blt (d : Dev) (f : Otr → Otr) : (d.onOtr f).blt = d.blt := rfl
@[simp] theorem Dev.onOtr_otr (d : Dev) (f : Otr → Otr) : (d.onOtr f).otr = f d.otr := rfl
@[simp] theorem Dev.onOtr_rd (d : Dev) (f : Otr → Otr) : (d.onOtr f).rd = d.rd := rfl
@[simp] theorem Dev.onOtr_rly (d : Dev) (f : Otr → Otr) : (d.onOtr f).rly = d.rly := rfl
@[simp] theorem Dev.onOtr_drv (d : Dev) (f : Otr → Otr) : (d.onOtr f).drv = d.drv := rfl
@[simp] theorem Dev.onOtr_cve (d : Dev) (f : Otr → Otr) : (d.onOtr f).cve = d.cve := rfl
@[simp] theorem Dev.onOtr_drl (d : Dev) (f : Otr → Otr) : (d.onOtr f).drl = d.drl := rfl
@[simp] theorem Dev.onRd_q (d : Dev) (f : Rd → Rd) : (d.onRd f).q = d.q := rfl
@[simp] theorem Dev.onRd_free (d : Dev) (f : Rd → Rd) : (d.onRd f).free = d.free := rfl
@[simp] theorem Dev.onRd_out (d : Dev) (f : Rd → Rd) : (d.onRd f).out = d.out := rfl
@[simp] theorem Dev.onRd_regs (d : Dev) (f : Rd → Rd) : (d.onRd f).regs = d.regs := rfl
@[simp] theorem Dev.onRd_counters (d : Dev) (f : Rd → Rd) : (d.onRd f).counters = d.counters := rfl
@[simp] theorem Dev.onRd_evtSeq (d : Dev) (f : Rd → Rd) : (d.onRd f).evtSeq = d.evtSeq := rfl
@[simp] theorem Dev.onRd_held (d : Dev) (f : Rd → Rd) : (d.onRd f).held = d.held := rfl
@[simp] theorem Dev.onRd_pins (d : Dev) (f : Rd → Rd) : (d.onRd f).pins = d.pins := rfl
@[simp] theorem Dev.onRd_clk (d : Dev) (f : Rd → Rd) : (d.onRd f).clk = d.clk := rfl
@[simp] theorem Dev.onRd_pes (d : Dev) (f : Rd → Rd) : (d.onRd f).pes = d.pes := rfl
@[simp] theorem Dev.onRd_rul (d : Dev) (f : Rd → Rd) : (d.onRd f).rul = d.rul := rfl
@[simp] theorem Dev.onRd_cp (d : Dev) (f : Rd → Rd) : (d.onRd f).cp = d.cp := rfl
@[simp] theorem Dev.onRd_pmc (d : Dev) (f : Rd → Rd) : (d.onRd f).pmc = d.pmc := rfl
@[simp] theorem Dev.onRd_lmon (d : Dev) (f : Rd → Rd) : (d.onRd f).lmon = d.lmon := rfl
@[simp] theorem Dev.onRd_wbl (d : Dev) (f : Rd → Rd) : (d.onRd f).wbl = d.wbl := rfl
@[simp] theorem Dev.onRd_mem (d : Dev) (f : Rd → Rd) : (d.onRd f).mem = d.mem := rfl
@[simp] theorem Dev.onRd_mep (d : Dev) (f : Rd → Rd) : (d.onRd f).mep = d.mep := rfl
@[simp] theorem Dev.onRd_fov (d : Dev) (f : Rd → Rd) : (d.onRd f).fov = d.fov := rfl
@[simp] theorem Dev.onRd_tpk (d : Dev) (f : Rd → Rd) : (d.onRd f).tpk = d.tpk := rfl
@[simp] theorem Dev.onRd_tdm (d : Dev) (f : Rd → Rd) : (d.onRd f).tdm = d.tdm := rfl
@[simp] theorem Dev.onRd_rae (d : Dev) (f : Rd → Rd) : (d.onRd f).rae = d.rae := rfl
@[simp] theorem Dev.onRd_hqe (d : Dev) (f : Rd → Rd) : (d.onRd f).hqe = d.hqe := rfl
@[simp] theorem Dev.onRd_lvy (d : Dev) (f : Rd → Rd) : (d.onRd f).lvy = d.lvy := rfl
@[simp] theorem Dev.onRd_lay (d : Dev) (f : Rd → Rd) : (d.onRd f).lay = d.lay := rfl
@[simp] theorem Dev.onRd_nib (d : Dev) (f : Rd → Rd) : (d.onRd f).nib = d.nib := rfl
@[simp] theorem Dev.onRd_blt (d : Dev) (f : Rd → Rd) : (d.onRd f).blt = d.blt := rfl
@[simp] theorem Dev.onRd_otr (d : Dev) (f : Rd → Rd) : (d.onRd f).otr = d.otr := rfl
@[simp] theorem Dev.onRd_rd (d : Dev) (f : Rd → Rd) : (d.onRd f).rd = f d.rd := rfl
@[simp] theorem Dev.onRd_rly (d : Dev) (f : Rd → Rd) : (d.onRd f).rly = d.rly := rfl
@[simp] theorem Dev.onRd_drv (d : Dev) (f : Rd → Rd) : (d.onRd f).drv = d.drv := rfl
@[simp] theorem Dev.onRd_cve (d : Dev) (f : Rd → Rd) : (d.onRd f).cve = d.cve := rfl
@[simp] theorem Dev.onRd_drl (d : Dev) (f : Rd → Rd) : (d.onRd f).drl = d.drl := rfl
@[simp] theorem Dev.onRly_q (d : Dev) (f : Rly → Rly) : (d.onRly f).q = d.q := rfl
@[simp] theorem Dev.onRly_free (d : Dev) (f : Rly → Rly) : (d.onRly f).free = d.free := rfl
@[simp] theorem Dev.onRly_out (d : Dev) (f : Rly → Rly) : (d.onRly f).out = d.out := rfl
@[simp] theorem Dev.onRly_regs (d : Dev) (f : Rly → Rly) : (d.onRly f).regs = d.regs := rfl
@[simp] theorem Dev.onRly_counters (d : Dev) (f : Rly → Rly) : (d.onRly f).counters = d.counters := rfl
@[simp] theorem Dev.onRly_evtSeq (d : Dev) (f : Rly → Rly) : (d.onRly f).evtSeq = d.evtSeq := rfl
@[simp] theorem Dev.onRly_held (d : Dev) (f : Rly → Rly) : (d.onRly f).held = d.held := rfl
@[simp] theorem Dev.onRly_pins (d : Dev) (f : Rly → Rly) : (d.onRly f).pins = d.pins := rfl
@[simp] theorem Dev.onRly_clk (d : Dev) (f : Rly → Rly) : (d.onRly f).clk = d.clk := rfl
@[simp] theorem Dev.onRly_pes (d : Dev) (f : Rly → Rly) : (d.onRly f).pes = d.pes := rfl
@[simp] theorem Dev.onRly_rul (d : Dev) (f : Rly → Rly) : (d.onRly f).rul = d.rul := rfl
@[simp] theorem Dev.onRly_cp (d : Dev) (f : Rly → Rly) : (d.onRly f).cp = d.cp := rfl
@[simp] theorem Dev.onRly_pmc (d : Dev) (f : Rly → Rly) : (d.onRly f).pmc = d.pmc := rfl
@[simp] theorem Dev.onRly_lmon (d : Dev) (f : Rly → Rly) : (d.onRly f).lmon = d.lmon := rfl
@[simp] theorem Dev.onRly_wbl (d : Dev) (f : Rly → Rly) : (d.onRly f).wbl = d.wbl := rfl
@[simp] theorem Dev.onRly_mem (d : Dev) (f : Rly → Rly) : (d.onRly f).mem = d.mem := rfl
@[simp] theorem Dev.onRly_mep (d : Dev) (f : Rly → Rly) : (d.onRly f).mep = d.mep := rfl
@[simp] theorem Dev.onRly_fov (d : Dev) (f : Rly → Rly) : (d.onRly f).fov = d.fov := rfl
@[simp] theorem Dev.onRly_tpk (d : Dev) (f : Rly → Rly) : (d.onRly f).tpk = d.tpk := rfl
@[simp] theorem Dev.onRly_tdm (d : Dev) (f : Rly → Rly) : (d.onRly f).tdm = d.tdm := rfl
@[simp] theorem Dev.onRly_rae (d : Dev) (f : Rly → Rly) : (d.onRly f).rae = d.rae := rfl
@[simp] theorem Dev.onRly_hqe (d : Dev) (f : Rly → Rly) : (d.onRly f).hqe = d.hqe := rfl
@[simp] theorem Dev.onRly_lvy (d : Dev) (f : Rly → Rly) : (d.onRly f).lvy = d.lvy := rfl
@[simp] theorem Dev.onRly_lay (d : Dev) (f : Rly → Rly) : (d.onRly f).lay = d.lay := rfl
@[simp] theorem Dev.onRly_nib (d : Dev) (f : Rly → Rly) : (d.onRly f).nib = d.nib := rfl
@[simp] theorem Dev.onRly_blt (d : Dev) (f : Rly → Rly) : (d.onRly f).blt = d.blt := rfl
@[simp] theorem Dev.onRly_otr (d : Dev) (f : Rly → Rly) : (d.onRly f).otr = d.otr := rfl
@[simp] theorem Dev.onRly_rd (d : Dev) (f : Rly → Rly) : (d.onRly f).rd = d.rd := rfl
@[simp] theorem Dev.onRly_rly (d : Dev) (f : Rly → Rly) : (d.onRly f).rly = f d.rly := rfl
@[simp] theorem Dev.onRly_drv (d : Dev) (f : Rly → Rly) : (d.onRly f).drv = d.drv := rfl
@[simp] theorem Dev.onRly_cve (d : Dev) (f : Rly → Rly) : (d.onRly f).cve = d.cve := rfl
@[simp] theorem Dev.onRly_drl (d : Dev) (f : Rly → Rly) : (d.onRly f).drl = d.drl := rfl
@[simp] theorem Dev.onCve_q (d : Dev) (f : Cve → Cve) : (d.onCve f).q = d.q := rfl
@[simp] theorem Dev.onCve_free (d : Dev) (f : Cve → Cve) : (d.onCve f).free = d.free := rfl
@[simp] theorem Dev.onCve_out (d : Dev) (f : Cve → Cve) : (d.onCve f).out = d.out := rfl
@[simp] theorem Dev.onCve_regs (d : Dev) (f : Cve → Cve) : (d.onCve f).regs = d.regs := rfl
@[simp] theorem Dev.onCve_counters (d : Dev) (f : Cve → Cve) : (d.onCve f).counters = d.counters := rfl
@[simp] theorem Dev.onCve_evtSeq (d : Dev) (f : Cve → Cve) : (d.onCve f).evtSeq = d.evtSeq := rfl
@[simp] theorem Dev.onCve_held (d : Dev) (f : Cve → Cve) : (d.onCve f).held = d.held := rfl
@[simp] theorem Dev.onCve_pins (d : Dev) (f : Cve → Cve) : (d.onCve f).pins = d.pins := rfl
@[simp] theorem Dev.onCve_clk (d : Dev) (f : Cve → Cve) : (d.onCve f).clk = d.clk := rfl
@[simp] theorem Dev.onCve_pes (d : Dev) (f : Cve → Cve) : (d.onCve f).pes = d.pes := rfl
@[simp] theorem Dev.onCve_rul (d : Dev) (f : Cve → Cve) : (d.onCve f).rul = d.rul := rfl
@[simp] theorem Dev.onCve_cp (d : Dev) (f : Cve → Cve) : (d.onCve f).cp = d.cp := rfl
@[simp] theorem Dev.onCve_pmc (d : Dev) (f : Cve → Cve) : (d.onCve f).pmc = d.pmc := rfl
@[simp] theorem Dev.onCve_lmon (d : Dev) (f : Cve → Cve) : (d.onCve f).lmon = d.lmon := rfl
@[simp] theorem Dev.onCve_wbl (d : Dev) (f : Cve → Cve) : (d.onCve f).wbl = d.wbl := rfl
@[simp] theorem Dev.onCve_mem (d : Dev) (f : Cve → Cve) : (d.onCve f).mem = d.mem := rfl
@[simp] theorem Dev.onCve_mep (d : Dev) (f : Cve → Cve) : (d.onCve f).mep = d.mep := rfl
@[simp] theorem Dev.onCve_fov (d : Dev) (f : Cve → Cve) : (d.onCve f).fov = d.fov := rfl
@[simp] theorem Dev.onCve_tpk (d : Dev) (f : Cve → Cve) : (d.onCve f).tpk = d.tpk := rfl
@[simp] theorem Dev.onCve_tdm (d : Dev) (f : Cve → Cve) : (d.onCve f).tdm = d.tdm := rfl
@[simp] theorem Dev.onCve_rae (d : Dev) (f : Cve → Cve) : (d.onCve f).rae = d.rae := rfl
@[simp] theorem Dev.onCve_hqe (d : Dev) (f : Cve → Cve) : (d.onCve f).hqe = d.hqe := rfl
@[simp] theorem Dev.onCve_lvy (d : Dev) (f : Cve → Cve) : (d.onCve f).lvy = d.lvy := rfl
@[simp] theorem Dev.onCve_lay (d : Dev) (f : Cve → Cve) : (d.onCve f).lay = d.lay := rfl
@[simp] theorem Dev.onCve_nib (d : Dev) (f : Cve → Cve) : (d.onCve f).nib = d.nib := rfl
@[simp] theorem Dev.onCve_blt (d : Dev) (f : Cve → Cve) : (d.onCve f).blt = d.blt := rfl
@[simp] theorem Dev.onCve_otr (d : Dev) (f : Cve → Cve) : (d.onCve f).otr = d.otr := rfl
@[simp] theorem Dev.onCve_rd (d : Dev) (f : Cve → Cve) : (d.onCve f).rd = d.rd := rfl
@[simp] theorem Dev.onCve_rly (d : Dev) (f : Cve → Cve) : (d.onCve f).rly = d.rly := rfl
@[simp] theorem Dev.onCve_drv (d : Dev) (f : Cve → Cve) : (d.onCve f).drv = d.drv := rfl
@[simp] theorem Dev.onCve_cve (d : Dev) (f : Cve → Cve) : (d.onCve f).cve = f d.cve := rfl
@[simp] theorem Dev.onCve_drl (d : Dev) (f : Cve → Cve) : (d.onCve f).drl = d.drl := rfl
@[simp] theorem Dev.onSession_q (d : Dev) (n : Nat) (f : Session → Session) : (d.onSession n f).q = d.q := rfl
@[simp] theorem Dev.onSession_free (d : Dev) (n : Nat) (f : Session → Session) : (d.onSession n f).free = d.free := rfl
@[simp] theorem Dev.onSession_out (d : Dev) (n : Nat) (f : Session → Session) : (d.onSession n f).out = d.out := rfl
@[simp] theorem Dev.onSession_regs (d : Dev) (n : Nat) (f : Session → Session) : (d.onSession n f).regs = d.regs := rfl
@[simp] theorem Dev.onSession_counters (d : Dev) (n : Nat) (f : Session → Session) : (d.onSession n f).counters = d.counters := rfl
@[simp] theorem Dev.onSession_evtSeq (d : Dev) (n : Nat) (f : Session → Session) : (d.onSession n f).evtSeq = d.evtSeq := rfl
@[simp] theorem Dev.onSession_held (d : Dev) (n : Nat) (f : Session → Session) : (d.onSession n f).held = d.held := rfl
@[simp] theorem Dev.onSession_pins (d : Dev) (n : Nat) (f : Session → Session) : (d.onSession n f).pins = d.pins := rfl
@[simp] theorem Dev.onSession_clk (d : Dev) (n : Nat) (f : Session → Session) : (d.onSession n f).clk = d.clk := rfl
@[simp] theorem Dev.onSession_pes (d : Dev) (n : Nat) (f : Session → Session) : (d.onSession n f).pes = d.pes := rfl
@[simp] theorem Dev.onSession_rul (d : Dev) (n : Nat) (f : Session → Session) : (d.onSession n f).rul = d.rul := rfl
@[simp] theorem Dev.onSession_cp (d : Dev) (n : Nat) (f : Session → Session) : (d.onSession n f).cp = { d.cp with sessions := modifyAt Session.id n f d.cp.sessions } := rfl
@[simp] theorem Dev.onSession_pmc (d : Dev) (n : Nat) (f : Session → Session) : (d.onSession n f).pmc = d.pmc := rfl
@[simp] theorem Dev.onSession_lmon (d : Dev) (n : Nat) (f : Session → Session) : (d.onSession n f).lmon = d.lmon := rfl
@[simp] theorem Dev.onSession_wbl (d : Dev) (n : Nat) (f : Session → Session) : (d.onSession n f).wbl = d.wbl := rfl
@[simp] theorem Dev.onSession_mem (d : Dev) (n : Nat) (f : Session → Session) : (d.onSession n f).mem = d.mem := rfl
@[simp] theorem Dev.onSession_mep (d : Dev) (n : Nat) (f : Session → Session) : (d.onSession n f).mep = d.mep := rfl
@[simp] theorem Dev.onSession_fov (d : Dev) (n : Nat) (f : Session → Session) : (d.onSession n f).fov = d.fov := rfl
@[simp] theorem Dev.onSession_tpk (d : Dev) (n : Nat) (f : Session → Session) : (d.onSession n f).tpk = d.tpk := rfl
@[simp] theorem Dev.onSession_tdm (d : Dev) (n : Nat) (f : Session → Session) : (d.onSession n f).tdm = d.tdm := rfl
@[simp] theorem Dev.onSession_rae (d : Dev) (n : Nat) (f : Session → Session) : (d.onSession n f).rae = d.rae := rfl
@[simp] theorem Dev.onSession_hqe (d : Dev) (n : Nat) (f : Session → Session) : (d.onSession n f).hqe = d.hqe := rfl
@[simp] theorem Dev.onSession_lvy (d : Dev) (n : Nat) (f : Session → Session) : (d.onSession n f).lvy = d.lvy := rfl
@[simp] theorem Dev.onSession_lay (d : Dev) (n : Nat) (f : Session → Session) : (d.onSession n f).lay = d.lay := rfl
@[simp] theorem Dev.onSession_nib (d : Dev) (n : Nat) (f : Session → Session) : (d.onSession n f).nib = d.nib := rfl
@[simp] theorem Dev.onSession_blt (d : Dev) (n : Nat) (f : Session → Session) : (d.onSession n f).blt = d.blt := rfl
@[simp] theorem Dev.onSession_otr (d : Dev) (n : Nat) (f : Session → Session) : (d.onSession n f).otr = d.otr := rfl
@[simp] theorem Dev.onSession_rd (d : Dev) (n : Nat) (f : Session → Session) : (d.onSession n f).rd = d.rd := rfl
@[simp] theorem Dev.onSession_rly (d : Dev) (n : Nat) (f : Session → Session) : (d.onSession n f).rly = d.rly := rfl
@[simp] theorem Dev.onSession_drv (d : Dev) (n : Nat) (f : Session → Session) : (d.onSession n f).drv = d.drv := rfl
@[simp] theorem Dev.onSession_cve (d : Dev) (n : Nat) (f : Session → Session) : (d.onSession n f).cve = d.cve := rfl
@[simp] theorem Dev.onSession_drl (d : Dev) (n : Nat) (f : Session → Session) : (d.onSession n f).drl = d.drl := rfl
@[simp] theorem Dev.onCmd_q (d : Dev) (id : Nat) (f : Cmd → Cmd) : (d.onCmd id f).q = d.q := rfl
@[simp] theorem Dev.onCmd_free (d : Dev) (id : Nat) (f : Cmd → Cmd) : (d.onCmd id f).free = d.free := rfl
@[simp] theorem Dev.onCmd_out (d : Dev) (id : Nat) (f : Cmd → Cmd) : (d.onCmd id f).out = d.out := rfl
@[simp] theorem Dev.onCmd_regs (d : Dev) (id : Nat) (f : Cmd → Cmd) : (d.onCmd id f).regs = d.regs := rfl
@[simp] theorem Dev.onCmd_counters (d : Dev) (id : Nat) (f : Cmd → Cmd) : (d.onCmd id f).counters = d.counters := rfl
@[simp] theorem Dev.onCmd_evtSeq (d : Dev) (id : Nat) (f : Cmd → Cmd) : (d.onCmd id f).evtSeq = d.evtSeq := rfl
@[simp] theorem Dev.onCmd_held (d : Dev) (id : Nat) (f : Cmd → Cmd) : (d.onCmd id f).held = d.held := rfl
@[simp] theorem Dev.onCmd_pins (d : Dev) (id : Nat) (f : Cmd → Cmd) : (d.onCmd id f).pins = d.pins := rfl
@[simp] theorem Dev.onCmd_clk (d : Dev) (id : Nat) (f : Cmd → Cmd) : (d.onCmd id f).clk = d.clk := rfl
@[simp] theorem Dev.onCmd_pes (d : Dev) (id : Nat) (f : Cmd → Cmd) : (d.onCmd id f).pes = d.pes := rfl
@[simp] theorem Dev.onCmd_rul (d : Dev) (id : Nat) (f : Cmd → Cmd) : (d.onCmd id f).rul = d.rul := rfl
@[simp] theorem Dev.onCmd_cp (d : Dev) (id : Nat) (f : Cmd → Cmd) : (d.onCmd id f).cp = { d.cp with cmds := modifyAt Cmd.id id f d.cp.cmds } := rfl
@[simp] theorem Dev.onCmd_pmc (d : Dev) (id : Nat) (f : Cmd → Cmd) : (d.onCmd id f).pmc = d.pmc := rfl
@[simp] theorem Dev.onCmd_lmon (d : Dev) (id : Nat) (f : Cmd → Cmd) : (d.onCmd id f).lmon = d.lmon := rfl
@[simp] theorem Dev.onCmd_wbl (d : Dev) (id : Nat) (f : Cmd → Cmd) : (d.onCmd id f).wbl = d.wbl := rfl
@[simp] theorem Dev.onCmd_mem (d : Dev) (id : Nat) (f : Cmd → Cmd) : (d.onCmd id f).mem = d.mem := rfl
@[simp] theorem Dev.onCmd_mep (d : Dev) (id : Nat) (f : Cmd → Cmd) : (d.onCmd id f).mep = d.mep := rfl
@[simp] theorem Dev.onCmd_fov (d : Dev) (id : Nat) (f : Cmd → Cmd) : (d.onCmd id f).fov = d.fov := rfl
@[simp] theorem Dev.onCmd_tpk (d : Dev) (id : Nat) (f : Cmd → Cmd) : (d.onCmd id f).tpk = d.tpk := rfl
@[simp] theorem Dev.onCmd_tdm (d : Dev) (id : Nat) (f : Cmd → Cmd) : (d.onCmd id f).tdm = d.tdm := rfl
@[simp] theorem Dev.onCmd_rae (d : Dev) (id : Nat) (f : Cmd → Cmd) : (d.onCmd id f).rae = d.rae := rfl
@[simp] theorem Dev.onCmd_hqe (d : Dev) (id : Nat) (f : Cmd → Cmd) : (d.onCmd id f).hqe = d.hqe := rfl
@[simp] theorem Dev.onCmd_lvy (d : Dev) (id : Nat) (f : Cmd → Cmd) : (d.onCmd id f).lvy = d.lvy := rfl
@[simp] theorem Dev.onCmd_lay (d : Dev) (id : Nat) (f : Cmd → Cmd) : (d.onCmd id f).lay = d.lay := rfl
@[simp] theorem Dev.onCmd_nib (d : Dev) (id : Nat) (f : Cmd → Cmd) : (d.onCmd id f).nib = d.nib := rfl
@[simp] theorem Dev.onCmd_blt (d : Dev) (id : Nat) (f : Cmd → Cmd) : (d.onCmd id f).blt = d.blt := rfl
@[simp] theorem Dev.onCmd_otr (d : Dev) (id : Nat) (f : Cmd → Cmd) : (d.onCmd id f).otr = d.otr := rfl
@[simp] theorem Dev.onCmd_rd (d : Dev) (id : Nat) (f : Cmd → Cmd) : (d.onCmd id f).rd = d.rd := rfl
@[simp] theorem Dev.onCmd_rly (d : Dev) (id : Nat) (f : Cmd → Cmd) : (d.onCmd id f).rly = d.rly := rfl
@[simp] theorem Dev.onCmd_drv (d : Dev) (id : Nat) (f : Cmd → Cmd) : (d.onCmd id f).drv = d.drv := rfl
@[simp] theorem Dev.onCmd_cve (d : Dev) (id : Nat) (f : Cmd → Cmd) : (d.onCmd id f).cve = d.cve := rfl
@[simp] theorem Dev.onCmd_drl (d : Dev) (id : Nat) (f : Cmd → Cmd) : (d.onCmd id f).drl = d.drl := rfl
@[simp] theorem Dev.onLong_q (d : Dev) (slot : Nat) (f : LongOp → LongOp) : (d.onLong slot f).q = d.q := rfl
@[simp] theorem Dev.onLong_free (d : Dev) (slot : Nat) (f : LongOp → LongOp) : (d.onLong slot f).free = d.free := rfl
@[simp] theorem Dev.onLong_out (d : Dev) (slot : Nat) (f : LongOp → LongOp) : (d.onLong slot f).out = d.out := rfl
@[simp] theorem Dev.onLong_regs (d : Dev) (slot : Nat) (f : LongOp → LongOp) : (d.onLong slot f).regs = d.regs := rfl
@[simp] theorem Dev.onLong_counters (d : Dev) (slot : Nat) (f : LongOp → LongOp) : (d.onLong slot f).counters = d.counters := rfl
@[simp] theorem Dev.onLong_evtSeq (d : Dev) (slot : Nat) (f : LongOp → LongOp) : (d.onLong slot f).evtSeq = d.evtSeq := rfl
@[simp] theorem Dev.onLong_held (d : Dev) (slot : Nat) (f : LongOp → LongOp) : (d.onLong slot f).held = d.held := rfl
@[simp] theorem Dev.onLong_pins (d : Dev) (slot : Nat) (f : LongOp → LongOp) : (d.onLong slot f).pins = d.pins := rfl
@[simp] theorem Dev.onLong_clk (d : Dev) (slot : Nat) (f : LongOp → LongOp) : (d.onLong slot f).clk = d.clk := rfl
@[simp] theorem Dev.onLong_pes (d : Dev) (slot : Nat) (f : LongOp → LongOp) : (d.onLong slot f).pes = d.pes := rfl
@[simp] theorem Dev.onLong_rul (d : Dev) (slot : Nat) (f : LongOp → LongOp) : (d.onLong slot f).rul = d.rul := rfl
@[simp] theorem Dev.onLong_cp (d : Dev) (slot : Nat) (f : LongOp → LongOp) : (d.onLong slot f).cp = { d.cp with longOps := modifyAt LongOp.slot slot f d.cp.longOps } := rfl
@[simp] theorem Dev.onLong_pmc (d : Dev) (slot : Nat) (f : LongOp → LongOp) : (d.onLong slot f).pmc = d.pmc := rfl
@[simp] theorem Dev.onLong_lmon (d : Dev) (slot : Nat) (f : LongOp → LongOp) : (d.onLong slot f).lmon = d.lmon := rfl
@[simp] theorem Dev.onLong_wbl (d : Dev) (slot : Nat) (f : LongOp → LongOp) : (d.onLong slot f).wbl = d.wbl := rfl
@[simp] theorem Dev.onLong_mem (d : Dev) (slot : Nat) (f : LongOp → LongOp) : (d.onLong slot f).mem = d.mem := rfl
@[simp] theorem Dev.onLong_mep (d : Dev) (slot : Nat) (f : LongOp → LongOp) : (d.onLong slot f).mep = d.mep := rfl
@[simp] theorem Dev.onLong_fov (d : Dev) (slot : Nat) (f : LongOp → LongOp) : (d.onLong slot f).fov = d.fov := rfl
@[simp] theorem Dev.onLong_tpk (d : Dev) (slot : Nat) (f : LongOp → LongOp) : (d.onLong slot f).tpk = d.tpk := rfl
@[simp] theorem Dev.onLong_tdm (d : Dev) (slot : Nat) (f : LongOp → LongOp) : (d.onLong slot f).tdm = d.tdm := rfl
@[simp] theorem Dev.onLong_rae (d : Dev) (slot : Nat) (f : LongOp → LongOp) : (d.onLong slot f).rae = d.rae := rfl
@[simp] theorem Dev.onLong_hqe (d : Dev) (slot : Nat) (f : LongOp → LongOp) : (d.onLong slot f).hqe = d.hqe := rfl
@[simp] theorem Dev.onLong_lvy (d : Dev) (slot : Nat) (f : LongOp → LongOp) : (d.onLong slot f).lvy = d.lvy := rfl
@[simp] theorem Dev.onLong_lay (d : Dev) (slot : Nat) (f : LongOp → LongOp) : (d.onLong slot f).lay = d.lay := rfl
@[simp] theorem Dev.onLong_nib (d : Dev) (slot : Nat) (f : LongOp → LongOp) : (d.onLong slot f).nib = d.nib := rfl
@[simp] theorem Dev.onLong_blt (d : Dev) (slot : Nat) (f : LongOp → LongOp) : (d.onLong slot f).blt = d.blt := rfl
@[simp] theorem Dev.onLong_otr (d : Dev) (slot : Nat) (f : LongOp → LongOp) : (d.onLong slot f).otr = d.otr := rfl
@[simp] theorem Dev.onLong_rd (d : Dev) (slot : Nat) (f : LongOp → LongOp) : (d.onLong slot f).rd = d.rd := rfl
@[simp] theorem Dev.onLong_rly (d : Dev) (slot : Nat) (f : LongOp → LongOp) : (d.onLong slot f).rly = d.rly := rfl
@[simp] theorem Dev.onLong_drv (d : Dev) (slot : Nat) (f : LongOp → LongOp) : (d.onLong slot f).drv = d.drv := rfl
@[simp] theorem Dev.onLong_cve (d : Dev) (slot : Nat) (f : LongOp → LongOp) : (d.onLong slot f).cve = d.cve := rfl
@[simp] theorem Dev.onLong_drl (d : Dev) (slot : Nat) (f : LongOp → LongOp) : (d.onLong slot f).drl = d.drl := rfl
@[simp] theorem Dev.onLivery_q (d : Dev) (n : Nat) (f : Livery → Livery) : (d.onLivery n f).q = d.q := rfl
@[simp] theorem Dev.onLivery_free (d : Dev) (n : Nat) (f : Livery → Livery) : (d.onLivery n f).free = d.free := rfl
@[simp] theorem Dev.onLivery_out (d : Dev) (n : Nat) (f : Livery → Livery) : (d.onLivery n f).out = d.out := rfl
@[simp] theorem Dev.onLivery_regs (d : Dev) (n : Nat) (f : Livery → Livery) : (d.onLivery n f).regs = d.regs := rfl
@[simp] theorem Dev.onLivery_counters (d : Dev) (n : Nat) (f : Livery → Livery) : (d.onLivery n f).counters = d.counters := rfl
@[simp] theorem Dev.onLivery_evtSeq (d : Dev) (n : Nat) (f : Livery → Livery) : (d.onLivery n f).evtSeq = d.evtSeq := rfl
@[simp] theorem Dev.onLivery_held (d : Dev) (n : Nat) (f : Livery → Livery) : (d.onLivery n f).held = d.held := rfl
@[simp] theorem Dev.onLivery_pins (d : Dev) (n : Nat) (f : Livery → Livery) : (d.onLivery n f).pins = d.pins := rfl
@[simp] theorem Dev.onLivery_clk (d : Dev) (n : Nat) (f : Livery → Livery) : (d.onLivery n f).clk = d.clk := rfl
@[simp] theorem Dev.onLivery_pes (d : Dev) (n : Nat) (f : Livery → Livery) : (d.onLivery n f).pes = d.pes := rfl
@[simp] theorem Dev.onLivery_rul (d : Dev) (n : Nat) (f : Livery → Livery) : (d.onLivery n f).rul = d.rul := rfl
@[simp] theorem Dev.onLivery_cp (d : Dev) (n : Nat) (f : Livery → Livery) : (d.onLivery n f).cp = d.cp := rfl
@[simp] theorem Dev.onLivery_pmc (d : Dev) (n : Nat) (f : Livery → Livery) : (d.onLivery n f).pmc = d.pmc := rfl
@[simp] theorem Dev.onLivery_lmon (d : Dev) (n : Nat) (f : Livery → Livery) : (d.onLivery n f).lmon = d.lmon := rfl
@[simp] theorem Dev.onLivery_wbl (d : Dev) (n : Nat) (f : Livery → Livery) : (d.onLivery n f).wbl = d.wbl := rfl
@[simp] theorem Dev.onLivery_mem (d : Dev) (n : Nat) (f : Livery → Livery) : (d.onLivery n f).mem = d.mem := rfl
@[simp] theorem Dev.onLivery_mep (d : Dev) (n : Nat) (f : Livery → Livery) : (d.onLivery n f).mep = d.mep := rfl
@[simp] theorem Dev.onLivery_fov (d : Dev) (n : Nat) (f : Livery → Livery) : (d.onLivery n f).fov = d.fov := rfl
@[simp] theorem Dev.onLivery_tpk (d : Dev) (n : Nat) (f : Livery → Livery) : (d.onLivery n f).tpk = d.tpk := rfl
@[simp] theorem Dev.onLivery_tdm (d : Dev) (n : Nat) (f : Livery → Livery) : (d.onLivery n f).tdm = d.tdm := rfl
@[simp] theorem Dev.onLivery_rae (d : Dev) (n : Nat) (f : Livery → Livery) : (d.onLivery n f).rae = d.rae := rfl
@[simp] theorem Dev.onLivery_hqe (d : Dev) (n : Nat) (f : Livery → Livery) : (d.onLivery n f).hqe = d.hqe := rfl
@[simp] theorem Dev.onLivery_lvy (d : Dev) (n : Nat) (f : Livery → Livery) : (d.onLivery n f).lvy = { d.lvy with liveries := modifyAt Livery.num n f d.lvy.liveries } := rfl
@[simp] theorem Dev.onLivery_lay (d : Dev) (n : Nat) (f : Livery → Livery) : (d.onLivery n f).lay = d.lay := rfl
@[simp] theorem Dev.onLivery_nib (d : Dev) (n : Nat) (f : Livery → Livery) : (d.onLivery n f).nib = d.nib := rfl
@[simp] theorem Dev.onLivery_blt (d : Dev) (n : Nat) (f : Livery → Livery) : (d.onLivery n f).blt = d.blt := rfl
@[simp] theorem Dev.onLivery_otr (d : Dev) (n : Nat) (f : Livery → Livery) : (d.onLivery n f).otr = d.otr := rfl
@[simp] theorem Dev.onLivery_rd (d : Dev) (n : Nat) (f : Livery → Livery) : (d.onLivery n f).rd = d.rd := rfl
@[simp] theorem Dev.onLivery_rly (d : Dev) (n : Nat) (f : Livery → Livery) : (d.onLivery n f).rly = d.rly := rfl
@[simp] theorem Dev.onLivery_drv (d : Dev) (n : Nat) (f : Livery → Livery) : (d.onLivery n f).drv = d.drv := rfl
@[simp] theorem Dev.onLivery_cve (d : Dev) (n : Nat) (f : Livery → Livery) : (d.onLivery n f).cve = d.cve := rfl
@[simp] theorem Dev.onLivery_drl (d : Dev) (n : Nat) (f : Livery → Livery) : (d.onLivery n f).drl = d.drl := rfl

/-! ## The conditional update -/

@[simp] theorem Dev.when_true (d : Dev) (f : Dev → Dev) : d.when true f = f d := rfl
@[simp] theorem Dev.when_false (d : Dev) (f : Dev → Dev) : d.when false f = d := rfl
@[simp] theorem Dev.forEach_nil {α : Type} (d : Dev) (f : Dev → α → Dev) : d.forEach [] f = d := rfl
@[simp] theorem Dev.forEach_cons {α : Type} (d : Dev) (a : α) (l : List α) (f : Dev → α → Dev) : d.forEach (a :: l) f = (f d a).forEach l f := rfl

end Sys2Proof.Machine
end

