-- ==== Sys2Proof/Laws/Packets.lean ====
section
/-! SUPPORT. What a request that passes the checks of R73 makes of the module. -/

namespace Sys2Proof.Machine

/-- Starting a session's idle time again leaves the number of the next command. -/
theorem Dev.touchSession_nextId (d : Dev) (x : Option Session) : (d.touchSession x).cp.nextId = d.cp.nextId := by
  cases x <;> rfl

/-- It leaves the clock. -/
theorem Dev.touchSession_q (d : Dev) (x : Option Session) : (d.touchSession x).q = d.q := by
  cases x <;> rfl

/-- A request that passes checks 1 to 9 goes on to authentication. -/
theorem receive_passes {s : State} {op : Nat} {p : Packet} {n : Nat} (h : Passes s op p n) :
    s.toDev.receive op p = (s.checkedDev op p n).authThen (s.checkedCmd op p n) n := by
  have h1 := h.taken
  have h2 := h.whole
  have h3 := h.sound
  have h4 := h.fresh
  have h5 := h.turn
  have h6 := h.served
  have h7 := h.mapped
  have h8 := h.format
  have h9 := h.admitted
  have e : (s.toDev.touchSession (s.sessionAt p.src)).enter op p (s.sessionAt p.src)
      = (s.entered op p).turnOf (s.requestOf op p) := by
    simp only [Dev.enter, Dev.entered, Dev.requestOf, Dev.touchSession_nextId, Dev.touchSession_q]
  simp only [Dev.receive, h1, h2, h3, h4, e, bne_self_eq_false, Bool.not_true, Bool.false_or, Bool.false_eq_true, if_false]
  have h6' : (s.entered op p).served (s.requestOf op p).op = true := h6
  simp only [Dev.turnOf, h5, h6', Bool.not_true, Bool.or_false, Bool.false_eq_true, if_false]
  have h7' : (s.entered op p).liveryOf (s.requestOf op p).pkt = .ok n := h7
  unfold Dev.checkCmd
  rw [h7']
  dsimp only
  split
  · rename_i heq
    cases (show none = some _ from h8.symm.trans heq)
  · rename_i heq
    cases heq
  · rename_i heq
    cases heq
    split
    · rename_i heq
      cases (show none = some _ from h9.symm.trans heq)
    · rfl

/-- A request that is taken up at once makes the module do the work of its opcode. -/
theorem receive_started {s : State} {op : Nat} {p : Packet} {n : Nat} {d : Dev} {c : Cmd} (h : Started s op p n d c) :
    s.toDev.receive op p = if op < 0x0400 then d.runLow c else if op < 0x0800 then d.runMid c else d.runHigh c := by
  rw [receive_passes h.toPasses]
  have h2 : hasDue (s.checkedCmd op p n).pkt = false := h.now
  simp only [Dev.authThen, h.plain, Bool.not_false, if_true, Dev.dueOrRun, h2, h.room]
  rw [h.module, h.command]
  rfl

/-- The same for a row of the table: the released mailbox slots and what follows of itself come after. -/
theorem serve_started {s : State} {op : Nat} {p : Packet} {n : Nat} {d : Dev} {c : Cmd} (h : Started s op p n d c) :
    (s.serve p.wf fun x => x.receive op p)
      = .next (s.serves (if op < 0x0400 then d.runLow c else if op < 0x0800 then d.runMid c else d.runHigh c)) := by
  have e : s.serve p.wf (fun x => x.receive op p) = .next (s.serves (s.toDev.receive op p)) := by
    simp only [State.serve, State.run, h.wf, if_true]
    rfl
  rw [e, receive_started h]

/-- The command of a request that is taken up carries the opcode of its row. -/
theorem Started.op_eq {s : State} {op : Nat} {p : Packet} {n : Nat} {d : Dev} {c : Cmd} (h : Started s op p n d c) : c.op = op := by
  rw [h.command]
  rfl

end Sys2Proof.Machine
end

