-- ==== Sys2Proof/Laws/Run.lean ====
section
/-! SUPPORT. What the four frames of a meaning can answer: a meaning is one of them, and whoever knows its check and its effect needs no more. -/

namespace Sys2Proof.Machine

/-! ## The plain frame -/

theorem State.run_next {s : State} {ok : Bool} {f : Dev → Dev} (h : ok = true) : s.run ok f = .next (s.becomes (f s.toDev)) := by
  simp [State.run, State.becomes, h]

theorem State.run_fault {s : State} {ok : Bool} {f : Dev → Dev} (h : ok = false) : s.run ok f = .fault .noSuchCommand := by
  simp [State.run, h]

theorem State.run_eq_next {s t : State} {ok : Bool} {f : Dev → Dev} : s.run ok f = .next t ↔ ok = true ∧ t = s.becomes (f s.toDev) := by
  cases h : ok <;> simp [State.run, State.becomes, eq_comm]

/-! ## With what follows of itself, with the mailbox rings, and by a register write -/

theorem State.act_next {s : State} {ok : Bool} {f : Dev → Dev} (h : ok = true) : s.act ok f = .next (s.settles (f s.toDev)) := State.run_next h

theorem State.act_fault {s : State} {ok : Bool} {f : Dev → Dev} (h : ok = false) : s.act ok f = .fault .noSuchCommand := State.run_fault h

theorem State.serve_next {s : State} {ok : Bool} {f : Dev → Dev} (h : ok = true) : s.serve ok f = .next (s.serves (f s.toDev)) := State.run_next h

theorem State.serve_fault {s : State} {ok : Bool} {f : Dev → Dev} (h : ok = false) : s.serve ok f = .fault .noSuchCommand := State.run_fault h

/-! ## The queue and the parts -/

@[simp] theorem State.becomes_pending (s : State) (d : Dev) : (s.becomes d).pending = s.pending := rfl
@[simp] theorem State.becomes_toDev (s : State) (d : Dev) : (s.becomes d).toDev = d := rfl
@[simp] theorem State.becomes_becomes (s : State) (d e : Dev) : (s.becomes d).becomes e = s.becomes e := rfl
@[simp] theorem State.settles_pending (s : State) (d : Dev) : (s.settles d).pending = s.pending := s.becomes_pending d.settle
@[simp] theorem State.serves_pending (s : State) (d : Dev) : (s.serves d).pending = s.pending := s.becomes_pending d.serveRings.settle

end Sys2Proof.Machine
end

