-- ==== Sys2Proof/Machine/Surface.lean ====
section
/-! DEFINITION. What the module shows at its surface and no row of the table reads: the configuration space (R475, R476, R481), the resource
directory of the expansion ROM (R480) and the indicators (R545). -/

namespace Sys2Proof.Machine

/-! ## Configuration space -/

/-- The bus addresses of R481 in the base registers while FIXMAP# was low at sampling. -/
def presetBar (register : Nat) : Nat :=
  if register = 0x14 then 0xF0
  else if register = 0x1C then 0xF1
  else if register = 0x20 then 0x01000000
  else if register = 0x24 then 0xF0
  else if register = 0x30 then 0xFFE00001
  else 0

/-- A word of the interface version table in the vendor-specific capability (R80, R476): two words for each of ten interfaces. -/
def Dev.versionWord (d : Dev) (k : Nat) : Nat := if k % 2 = 0 then leNat (leBytes 1 (k / 2) ++ (d.versionEntry (k / 2)).flatMap (leBytes 1)) else 0

/-- The bits of a configuration-space word and which of them the manual gives (R475, R476, R481); bits it leaves to PCI Express stand outside
the mask. -/
def Dev.configWord (d : Dev) (register : Nat) : Nat × Nat :=
  let all := 0xFFFFFFFF
  if register = 0x00 then (0x4812F4E1, all)
  else if register = 0x04 then (2 * b2n d.mep.memSpace + 4 * b2n d.mep.bme + 2 ^ 20, 6 + 2 ^ 20)
  else if register = 0x08 then (0x08800000 + Config.revision.toNat, all)
  else if register = 0x10 ∨ register = 0x18 then (registerBar 0x4 register, all)
  else if register = 0x14 ∨ register = 0x1C ∨ register = 0x20 ∨ register = 0x24 ∨ register = 0x30 then (registerBar (if register = 0x20 then 4 else 0) register, all)
  else if register = 0x2C then (0xF4E1 + 2 ^ 16 * (if Config.variantL then 2 else 1), all)
  else if register = 0x34 then (0x40, 0xFF)
  else if register = 0x3C then (0, 0xFF00)
  else if register = 0x40 then (0x5001, 0xF800FFFF)
  else if register = 0x44 then (d.mep.dstate, 3)
  else if register = 0x50 then (0x01FF6011 + 2 ^ 30 * b2n d.mep.functionMask + 2 ^ 31 * b2n d.mep.msixEnable, all)
  else if register = 0x54 then (0x000F8000, all)
  else if register = 0x58 then (0x000FA000, all)
  else if register = 0x60 then (0x0010, 0xFFFF)
  else if register = 0x64 then (2 ^ 28, 2 ^ 28)
  else if register = 0x100 then (0x14800001, 0xFFF0FFFF)
  else if register = 0x148 then (0x16000003, 0xFFF0FFFF)
  else if register = 0x14C then (Config.serial.toNat % 2 ^ 32, all)
  else if register = 0x150 then (Config.serial.toNat / 2 ^ 32, all)
  else if register = 0x160 then (0x0000000B, 0xFFF0FFFF)
  else if register = 0x164 then (0x4812 + 2 ^ 16 + 2 ^ 20 * 88, all)
  else if 0x168 ≤ register ∧ register < 0x1B8 then (d.versionWord ((register - 0x168) / 4), all)
  else (0, 0)
where
  /-- A base register: preset, or as software wrote it, with its type bits. -/
  registerBar (type register : Nat) : Nat :=
    (if d.mep.presetBars then presetBar register else (sget (fun _ => 0) d.mep.config register).toNat) + type + (if register = 0x18 then 8 else 0)

/-! ## The resource directory (R480) -/

/-- An entry of the directory: type, location, offset and length. -/
def directoryEntry (type location offset length : Nat) : List Byte :=
  leBytes 2 type ++ leBytes 1 location ++ leBytes 1 0 ++ leBytes 4 length ++ leBytes 8 offset

/-- The entries of the directory, in the order of R480. A length of 4 GiB does not fit its field of four bytes and reads as 0 there. -/
def Dev.directoryEntries (d : Dev) : List (List Byte) :=
  [ directoryEntry 1 0 0 (16 * 2 ^ 20), directoryEntry 2 0 0xF8000 8192, directoryEntry 3 0 0xFA000 64, directoryEntry 4 2 0 (2 ^ 32),
    directoryEntry 5 4 0 (2 ^ 20), directoryEntry 6 0xFE 0x168 80, directoryEntry 7 0xFD 0x3FF0000000 (256 * 2 ^ 20),
    directoryEntry 8 6 0 (d.clk.bank d.clk.runningBank).length ]

/-- The directory as it stands at ROM offset 0x1F_0000: its CRC covers header and entries with the CRC's own bytes taken as zero. -/
def Dev.romDirectory (d : Dev) : List Byte :=
  let head := [0x53, 0x44, 0x52, 0x44, 0x10, 0] ++ leBytes 2 d.directoryEntries.length
  let tail := leBytes 4 0 ++ d.directoryEntries.flatten
  head ++ leBytes 4 (crc32c (head ++ leBytes 4 0 ++ tail)) ++ tail

/-! ## Indicators (R545) -/

/-- What an indicator shows. -/
inductive Lamp where
  | off | green | amber | blue | blinkGreen | blinkAmber | blinkBlue
  deriving DecidableEq, Repr

/-- POWER. -/
def Dev.powerLamp (d : Dev) : Lamp :=
  if d.pes.inputGone then .off else if d.pes.state = .on ∧ d.clk.done then .green else .blinkGreen

/-- ROLE, in every role that R545 names: it gives CLAIMING none. -/
def Dev.roleLamp (d : Dev) : Option Lamp :=
  match d.fov.role with
  | .init => some .off
  | .active => some .green
  | .standby => some .amber
  | .takeover | .handover => some .blinkGreen
  | .claiming => none

/-- FAULT: the power entry drives it from its own rail. -/
def Dev.faultLamp (d : Dev) : Lamp :=
  if d.pes.state = .cool ∨ d.pes.state = .latched then .blinkAmber
  else if d.clk.failed ∨ 8 * d.fld Reg.mcrTherm 8 8 ≤ d.fld Reg.mcrTemp 0 12 then .amber
  else .off

/-- IDENT. -/
def Dev.identLamp (d : Dev) : Lamp :=
  match d.fld Reg.mcrInd 0 2 with
  | 0 => .off
  | 1 => .blue
  | _ => .blinkBlue

/-- The indicator of cage `n`: green when every link of its port is up, amber when only some are. -/
def Dev.cageLamp (d : Dev) (n : Nat) : Lamp :=
  let up := (List.range (d.port n).links).filter fun k => d.linkUp (8 * n + k)
  if up = [] then .off else if up.length = (d.port n).links then .green else .amber

end Sys2Proof.Machine
end

