-- ==== Sys2Proof/Tests/Slice0.lean ====
section
/-! SUPPORT. Tests: the values that the spec works out, an ill-formed term for each check, and for each statement a state and operands that meet its
hypotheses. -/

namespace Sys2Proof.Tests
open Sys2Proof Sys2Proof.Machine

set_option Elab.async false

/-! ## Small states -/

/-- A module in service: start-up is done, its role is ACTIVE, its Ruling runs, and it has one session of version 1.2 on a mailbox ring. -/
def up : State :=
  { State.reset with
    q := 4000000
    clk := { Dev.reset.clk with step := 16, done := true }
    fov := { Dev.reset.fov with role := .active }
    cp := { Dev.reset.cp with
      sessions := [⟨1, ⟨.mailbox, 3, none⟩, 0x12, 0, none, 0, 0, 0, [], []⟩] } }

/-- A sound request of version `v` on that ring with parameter area `l`, and zeros behind it. -/
def reqV (v : Byte) (op : Nat) (l : List Byte) : Packet :=
  let l := l ++ List.replicate 80 0
  let p : Packet := { src := ⟨.mailbox, 3, none⟩, delivered := 8192, version := v, flags := 0, tag := 7, pid := 0, livery := 0, generation := 1,
                      plen := (l.length + 7) / 8, due := 0, reserved := 0, crc := 0, params := l }
  { p with crc := BitVec.ofNat 32 (packetCrc op p) }

/-- The same of version 1.2, that of the session. -/
def req (op : Nat) (l : List Byte) : Packet := reqV 0x12 op l

/-- Whether a request whose CRC is right passes checks 1 to 9 of R73 in livery `n`. -/
def passesB (s : State) (op : Nat) (p : Packet) (n : Nat) : Bool :=
  p.wf && s.takesFrom p.src.transport && packetFits p
    && decide (((s.sessionAt p.src).bind fun x => (s.touchSession (s.sessionAt p.src)).duplicateOf x p) = none)
    && !((s.entered op p).mustWait (s.requestOf op p)) && (s.entered op p).served op
    && (match (s.entered op p).liveryOf p with | .ok k => k == n | .error _ => false)
    && decide (((s.entered op p).onCmd (s.requestOf op p).id fun _ => s.checkedCmd op p n).earlyFault op { p with params := fit (8 * p.plen) p.params }
        ((s.requestOf op p).session.bind ((s.entered op p).onCmd (s.requestOf op p).id fun _ => s.checkedCmd op p n).session?) = none)
    && decide ((s.checkedDev op p n).stateFault op p.generation n = none)

/-- Whether it is taken up at once. -/
def startedB (s : State) (op : Nat) (p : Packet) (n : Nat) : Bool :=
  passesB s op p n && !((s.checkedDev op p n).authRequired n) && !(hasDue p)
    && decide ((s.checkedDev op p n).limitFault (s.checkedCmd op p n) false = none)

/-- The module in which its work begins. -/
def devOf (s : State) (op : Nat) (p : Packet) : Dev := (s.checkedDev op p 0).beginning (s.checkedCmd op p 0)

/-- Its command then. -/
def cmdOf (s : State) (op : Nat) (p : Packet) : Cmd := { s.checkedCmd op p 0 with phase := .running }

theorem passes_of {s : State} {op : Nat} {p : Packet} {n : Nat} (hc : p.crc.toNat = packetCrc op p) (h : passesB s op p n = true) :
    Passes s op p n := by
  simp only [passesB, Bool.and_eq_true, Bool.not_eq_true', decide_eq_true_eq] at h
  obtain ⟨⟨⟨⟨⟨⟨⟨⟨h1, h2⟩, h3⟩, h5⟩, h6⟩, h7⟩, h8⟩, h9⟩, h10⟩ := h
  refine ⟨h1, h2, h3, hc, h5, h6, h7, ?_, h9, h10⟩
  split at h8
  · next k e => rw [e, beq_iff_eq.mp h8]
  · cases h8

theorem started_of {s : State} {op : Nat} {p : Packet} (hc : p.crc.toNat = packetCrc op p) (h : startedB s op p 0 = true) :
    Started s op p 0 (devOf s op p) (cmdOf s op p) := by
  simp only [startedB, Bool.and_eq_true, Bool.not_eq_true', decide_eq_true_eq] at h
  obtain ⟨⟨⟨h1, h2⟩, h3⟩, h4⟩ := h
  exact { toPasses := passes_of hc h1, plain := h2, now := h3, room := h4, module := rfl, command := rfl }

/-- A request for the work of `op` with parameter area `l` is taken up at once in `s`, and `h` holds of the module and the command then. -/
def wit (s : State) (op : Nat) (l : List Byte) (h : Dev → Cmd → Bool) : Bool :=
  startedB s op (req op l) 0 && h (devOf s op (req op l)) (cmdOf s op (req op l))

theorem wit_sound {s : State} {op : Nat} {l : List Byte} {h : Dev → Cmd → Bool} (w : wit s op l h = true) :
    ∃ d c, Started s op (req op l) 0 d c ∧ h d c = true := by
  simp only [wit, Bool.and_eq_true] at w
  exact ⟨_, _, started_of (packetCrc_sound op _) w.1, w.2⟩

/-- Little-endian fields, each given by its width in bytes and its value. -/
def pack (l : List (Nat × Nat)) : List Byte := l.flatMap fun x => leBytes x.1 x.2

/-- An array of seven members with D = 4, SC = 0, S = 1 on the drives of slots 0 to 6; its layout table is left out, since no test here asks where a
strip lies. -/
def geo7 : ArrayGeo := ⟨4, 0, 1, 7, 300000, 1, 0, 1, 1, 1, []⟩

/-- A drive in service. -/
def drive (k : Nat) : Slot :=
  { Slot.empty k with present := true, pgood := true, powerEn := true, speed := 5, drive := .ready, capacity := 5000000, formatted := true }

/-- The objects of the tests: a namespace, an open take, a closed take with two frames, and an exported one. -/
def objects : List Obj :=
  [⟨5, .ns, 0, 10000, 0, 0, 200, [], 0, [(0, 1)]⟩, ⟨6, .openTake, 0, 0, 8192, 8192, 10, [(64, 0)], 1, [(1, 1)]⟩,
   ⟨7, .closedTake, 0, 0, 8192, 8192, 10, [(64, 0), (128, 4096)], 1, [(2, 1)]⟩, ⟨8, .exported, 0, 2, 8192, 8192, 10, [(64, 0)], 1, [(3, 1)]⟩]

/-- The module with that array loaded. -/
def arr : State :=
  { up with
    drv := { up.drv with slots := (List.range 9).map drive ++ (List.range' 9 39).map Slot.empty }
    lay := { up.lay with state := 3, geo := some geo7, slots := [0, 1, 2, 3, 4, 5, 6], ordinals := [0, 0, 0, 0, 0, 0, 0], objects := objects } }

/-- An RDMA connection in service, with a requester queue. -/
def qp9 : Qp :=
  { num := 9, state := .ready, livery := some 0, nvme := false, pid := 0, peerQp := 77, expected := 100, sendPsn := 200, passive := true, cmAt := none,
    lingerAt := none, closeAfter := false, ackExp := 14, pinned := false, resident := true, usedAt := 0, parked := [], fetching := false,
    nakSent := false, admitted := none, cnpAt := none, rateAt := none, rateStep := 0,
    rq := some ⟨0, 6, 3, false, 0, 0, 0, [], 0, 0, none, 0, none, none⟩,
    createCmd := none, freezeDrop := false }

/-- An Inkwell of four pages over the namespace, and one over the open take. -/
def inks : List Inkwell :=
  [⟨5, 0, [0, 1, 2, 3], 3, true, 5, 0, 0, 0, none, none, 0, 0, false⟩, ⟨6, 0, [4], 3, false, 6, 0, 0, 0, none, none, 0, 0, false⟩]

/-- The module with the connection and the Inkwells, 1 GiB of HBM given to Inkwells, and a second connection without a queue. -/
def net : State :=
  { arr with
    regs := [(Reg.inkCtl, 1)]
    rae := { arr.rae with qps := [qp9, { qp9 with num := 10, rq := none }], inks := inks, freshInk := 7 } }

/-- A long operation that allows STEP_CANCEL, STEPPED, at step 3. -/
def longSave : LongOp := ⟨4, 2, 3, 0x0606, req 0x0606 [], some 1, 0, 1, 0, .stepped, some 5000000, false, false, []⟩

/-- The module with drives but no array. -/
def up' : State := { arr with lay := up.lay }

/-- Member 3 has failed; member 3 is being copied back to. -/
def gone : State := { arr with lay := { arr.lay with slots := [0, 1, 2, 0xFF, 4, 5, 6], ordinals := [0, 0, 0, 1, 0, 0, 0] } }
def back : State := { gone with rly := { gone.rly with copyback := [(3, 1)] } }

/-- Liveries 2 to 4: in service, frozen, freezing. -/
def liv : State :=
  { net with lvy := { net.lvy with liveries := net.lvy.liveries ++
      [⟨2, .service, 1, [], 0, 0, 0, []⟩, ⟨3, .frozen, 1, [], 0, 0, 0, []⟩, ⟨4, .freezing, 1, [], 0, 0, 0, []⟩] } }

/-- Two key slots hold keys. -/
def keyed : State :=
  { up with cve := { up.cve with slots := [(62, ⟨1, [1], 7, 0, 0, 1000, 0xFF, 5⟩), (63, ⟨1, [2], 8, 0, 0, 1000, 0xFF, 6⟩)] } }

/-- The partner stands by with a live mirror. -/
def pair : State :=
  { liv with
    fov := { liv.fov with partnerRole := 1, partnerEligible := true, ptlAlive := true, hblAlive := true, lanes := 255 }
    blt := { liv.blt with mirror := .live } }

/-- The module whose Ruling runs. -/
def timed : State := { up with rul := { up.rul with started := true, timeline := true } }

/-- Key index 63, pool 1, binding word 56, and an entropy source that has failed. -/
def keyed' : State := { keyed with regs := [(Reg.cveKeyIdx, 63)] }
def poolOne : State := { up with regs := [(Reg.drlPoolIdx, 1)] }
def bind : State := { up with regs := [(Reg.hqeBindIdx, BitVec.ofNat 32 (56 * 2 ^ 16))] }
def dry : State := { up with cve := { up.cve with ent := 2 } }

/-- An open descriptor of the open take. -/
def desc0 : Desc :=
  { idx := 0, object := 6, lstripe := 0, livery := 0, state := .opened, path := .none, named := [⟨0, 0, 4096, none, false, 0⟩], stream := false,
    lastNamed := 3000000, closeQ := 0, fill := 0, psi := some 70, oldPsi := none, seq := 0, hasSlot := false, lock := none, jobs := [], done := [],
    accP := [], accQ := [], old := [], reads := [], writes := [], intentRsn := 0, commitRsn := none, closeRsn := none, waitingSince := 3000000,
    charged := true }

/-- The module with one descriptor. -/
def withDesc (x : Desc) : State := { net with nib := { net.nib with descs := [x] } }

/-- A read of two blocks of a take for a command packet. -/
def read0 : ReadReq :=
  { id := 0, owner := .packet 1, livery := 0, object := 6, mode := 0, first := 0, blocks := 2, startByte := 0, bytes := 8192, qp := 9, addr := 0, key := 5,
    place := false, lock := none, granted := true, sram := 1, spill := 0, submitted := false, data := [], rows := [], recon := 0, suspect := 0, unrec := [],
    delivered := 0, ends := [], acked := 0, freed := 0, flushOut := false, poisoned := none, startedAt := 0 }

/-- The module with one read. -/
def withRead (r : ReadReq) : State := { net with rd := { net.rd with reads := [r] } }

/-! ## Values that the spec gives -/

/-- The ASCII bytes 123456789. -/
def digits : List Byte := [0x31, 0x32, 0x33, 0x34, 0x35, 0x36, 0x37, 0x38, 0x39]

/-- R66: CRC-32C over the nine digits. -/
theorem test_crc32c : crc32c digits = 0xE3069283 := by decide +kernel

/-- R253: the guard over the nine digits. -/
theorem test_crc64 : crc64 digits = 0xAE8B14860A799888 := by decide +kernel

/-- R238: from state 0 the first value that next() returns. -/
theorem test_splitmix : (splitMix 0).1 = 0xE220A8397B1DCDAF := by decide +kernel

/-- The location example of the patrol chapter: 0x3C times g, five times over, and the power of g that divides the two syndromes. -/
theorem test_location : [1, 2, 3, 4, 5].map (fun n => pMul 0x3C (pWeight n)) = [0x78, 0xF0, 0xFD, 0xE7, 0xD3] ∧ pWeight 5 = 0x20 := by decide +kernel

/-- R215: an advance goes from 65,535 to 1. -/
theorem test_generation_wraps : nextGeneration 65535 = 1 := by decide

/-- A step runs the command at the front and leaves the rest: an HB_IN change inverts the pin. -/
theorem test_step_takes_the_front :
    (match step { State.reset with pending := [.hbInChange, .hbInChange] } with
     | .next t => t.pins.hbIn != State.reset.pins.hbIn && t.pending == [.hbInChange]
     | _ => false) = true := by decide +kernel

/-- On an empty queue one quantum passes (DESIGN CHOICE: assumption log, entry 2). -/
theorem test_step_idles : (match step State.reset with | .next t => t.q == 1 && t.pending == [] | _ => false) = true := by decide +kernel

/-- R531: a write with every enable set goes into the register by its fields' access types; MCR_SCRATCH takes all of it. -/
theorem test_register_write :
    (match exec (.registerWrite .commandProcessor Reg.mcrScratch 0xDEADBEEF 15) up with | .next t => t.raw Reg.mcrScratch == 0xDEADBEEF | _ => false)
      = true := by decide +kernel

/-- R442: a pending bit is cleared by a 1 and kept by a 0. -/
theorem test_pending_clears :
    (match exec (.evtPendClear .endpoint 3 5) { up with regs := [(Reg.evtPend + 12, 7)] } with | .next t => t.raw (Reg.evtPend + 12) == 2 | _ => false)
      = true := by decide +kernel

/-- R430, R479: a BAR2 write stores the enabled bytes only. -/
theorem test_window_write :
    (match exec (.bar2Access true 8 [true, false, true] [1, 2, 3]) { up with mep := { up.mep with memSpace := true }, regs := [(Reg.mepCtl, 3)] } with
     | .next t => Memory.read t.mem.ddr 8 3 == [1, 0, 3] || Memory.read t.mem.hbm 8 3 == [1, 0, 3]
     | _ => false) = true := by decide +kernel

/-- R60: SESSION_CLOSE ends the session on whose endpoint it comes. -/
theorem test_session_close :
    (match exec (.sessionClose (req 2 [])) up with | .next t => t.cp.sessions.isEmpty | _ => false) = true := by decide +kernel

/-! ## Ill-formed terms -/

/-- Well-formed operands to spoil one at a time. -/
def pkt0 : Packet := ⟨⟨.mailbox, 0, none⟩, 32, 0x10, 0, 0, 0, 0, 1, 0, 0, 0, 0, []⟩
def cm0 : CmReq := ⟨0, 0, 0, 0, 0, 0, 0, 0, false, 0, 0, 0⟩
def capsule0 : Capsule := ⟨0, 0, 0, 0, 0, 0, 0, 0, 0, 0, 0, 0, 0, []⟩
def conn : ConnectData := ⟨0, 0, 0, 0, 0, 0, 0, [], []⟩
def eth0 : EthFrame := ⟨0, 64, true, false, 0, 0, false, 0, 0, false, false, 0, 0, 0, 0, 0, 0, .other⟩
def tandem0 : TandemFrame := ⟨0, 0, 0, 0, false, 0, 0, 0, 0, 0, [], none⟩

/-- The terms before they are spoiled are well formed. -/
theorem test_wf_accepts :
    ([.nop pkt0, .cmReq cm0, .abort capsule0, .nvmeConnect conn, .ethFrameReceived eth0, .tandemFrameReceived tandem0] : List Instr).all Instr.wf
      = true := by decide +kernel

/-- One term for each check, which the check refuses. -/
theorem test_wf_refuses :
    ([.nop { pkt0 with src := ⟨.rdma, 2 ^ 24, none⟩ },
     .nop { pkt0 with src := ⟨.udp, 2 ^ 144, none⟩ },
     .nop { pkt0 with src := ⟨.mailbox, 8, none⟩ },
     .nop { pkt0 with src := ⟨.tandem, 2 ^ 32, none⟩ },
     .nop { pkt0 with delivered := 65537 },
     .nop { pkt0 with tag := 2 ^ 32 },
     .nop { pkt0 with pid := 2 ^ 24 },
     .nop { pkt0 with livery := 256 },
     .nop { pkt0 with generation := 65536 },
     .nop { pkt0 with plen := 65536 },
     .nop { pkt0 with due := 2 ^ 64 },
     .nop { pkt0 with reserved := 2 ^ 32 },
     .nop { pkt0 with params := List.replicate 8193 0 },
     .longopStep 256,
     .cnpReceived (2 ^ 24),
     .roceSend ⟨2 ^ 24, 0, false, true⟩ [],
     .roceSend ⟨0, 2 ^ 24, false, true⟩ [],
     .rdmaRead ⟨0, 0, false, true⟩ (2 ^ 32) 0 0,
     .rdmaRead ⟨0, 0, false, true⟩ 0 (2 ^ 64) 0,
     .rdmaRead ⟨0, 0, false, true⟩ 0 0 (2 ^ 31 + 1),
     .cmRep (2 ^ 24) 0 0,
     .cmRep 0 (2 ^ 24) 0,
     .cmRep 0 0 (2 ^ 24),
     .rqAckReceived (2 ^ 24) 0,
     .revokeCut (2 ^ 24),
     .katoExpired 65536,
     .cmdOverdue 0 65536,
     .linkTxSelect 96,
     .pauseTimerExpiry 0 8,
     .fairQueueSelect 12]
    ++ [.fecWindow 12 [] [],
     .fecWindow 0 [0, 0, 0, 0, 0, 0, 0, 0, 0] [],
     .fecWindow 0 [] [0, 0, 0, 0, 0, 0, 0, 0, 0],
     .reseqFlush 65536 0,
     .reseqFlush 0 4096,
     .sourceLost 3,
     .classWindowOpen 16,
     .driveBlockFetch 0 32 0,
     .driveBlockFetch 0 0 256,
     .memberFailDeclare 64,
     .driveLinkTrained 48 0 0,
     .driveLinkTrained 0 8 0,
     .driveLinkTrained 0 0 5,
     .aerCorrectable 48,
     .slotPoll [],
     .slotPoll (List.replicate 12 ⟨true, 65536, 0⟩),
     .slotPoll (List.replicate 12 ⟨true, 0, 256⟩),
     .heartbeatReceived ⟨0, 8, false, false, false, 0, 0⟩,
     .heartbeatReceived ⟨0, 0, false, false, false, 2 ^ 32, 0⟩,
     .partnerLinkChange 256,
     .levelStall 0,
     .levelStall 6,
     .uncorrectableError 7 0 0 (.controlCore 0),
     .correctableError 0 (24 * 2 ^ 30) 0 false,
     .correctableError 0 0 32 false,
     .ceRateWindow 7,
     .scrubRead 7,
     .memoryFill 128,
     .evtPendClear .endpoint 16 0,
     .mailboxDoorbell 8 0 none [],
     .mailboxDoorbell 0 65536 none []]
    ++ [.mailboxDoorbell 0 0 none (List.replicate 9 []),
     .mailboxReplyFree .endpoint 8 0,
     .mailboxReplyFree .endpoint 0 65536,
     .dmaResume .endpoint 4,
     .bar2Access true 0 [true] [],
     .bar2Access true 0xFFFFFFFF [true, true] [0, 0],
     .epLinkChange 8 0,
     .epLinkChange 0 64,
     .smbusAddr (2 ^ 32) true,
     .inputThreshold 65536,
     .startStepFailed 0,
     .startStepFailed 5,
     .clockCheck [],
     .cpStopped 4,
     .rcRead .endpoint (2 ^ 24),
     .registerWrite .endpoint 0 0 16,
     .tempSample 4096,
     .configSpaceWrite 4096 0,
     .plugInModuleOverpower 12,
     .cmReq { cm0 with port := 65536 },
     .cmReq { cm0 with pid := 2 ^ 20 },
     .cmReq { cm0 with livery := 256 },
     .cmReq { cm0 with peerQp := 2 ^ 24 },
     .cmReq { cm0 with startPsn := 2 ^ 24 },
     .cmReq { cm0 with ackExponent := 32 },
     .cmReq { cm0 with nvmeQid := 65536 },
     .cmReq { cm0 with hsqsize := 65536 },
     .cmReq { cm0 with hrqsize := 65536 },
     .abort { capsule0 with qp := 2 ^ 24 },
     .abort { capsule0 with cid := 65536 }]
    ++ [.abort { capsule0 with fuse := 4 },
     .abort { capsule0 with nsid := 2 ^ 32 },
     .abort { capsule0 with sglAddr := 2 ^ 64 },
     .abort { capsule0 with sglKey := 2 ^ 32 },
     .abort { capsule0 with sglLen := 2 ^ 24 },
     .nvmeConnect { conn with qp := 2 ^ 24 },
     .nvmeConnect { conn with cid := 65536 },
     .nvmeConnect { conn with qid := 65536 },
     .nvmeConnect { conn with cntlid := 65536 },
     .nvmeConnect { conn with sqsize := 65536 },
     .nvmeConnect { conn with katoMs := 2 ^ 32 },
     .nvmeConnect { conn with hostId := 2 ^ 128 },
     .nvmeConnect { conn with subNqn := List.replicate 256 1 },
     .nvmeConnect { conn with hostNqn := List.replicate 256 1 },
     .ethFrameReceived { eth0 with link := 96 },
     .ethFrameReceived { eth0 with length := 65536 },
     .ethFrameReceived { eth0 with vlan := 4096 },
     .ethFrameReceived { eth0 with pcp := 8 },
     .ethFrameReceived { eth0 with dstMac := 2 ^ 48 },
     .ethFrameReceived { eth0 with srcMac := 2 ^ 48 },
     .ethFrameReceived { eth0 with dscp := 64 },
     .ethFrameReceived { eth0 with ecn := 4 },
     .ethFrameReceived { eth0 with srcIp := 2 ^ 128 },
     .ethFrameReceived { eth0 with dstIp := 2 ^ 128 },
     .ethFrameReceived { eth0 with srcPort := 65536 },
     .ethFrameReceived { eth0 with dstPort := 65536 },
     .tandemFrameReceived { tandem0 with link := 96 },
     .tandemFrameReceived { tandem0 with type := 256 },
     .tandemFrameReceived { tandem0 with hops := 256 },
     .tandemFrameReceived { tandem0 with priority := 8 }]
    ++ [.tandemFrameReceived { tandem0 with dest := 65536 },
     .tandemFrameReceived { tandem0 with source := 65536 },
     .tandemFrameReceived { tandem0 with flow := 4096 },
     .tandemFrameReceived { tandem0 with sequence := 65536 },
     .tandemFrameReceived { tandem0 with inner := some { eth0 with link := 96 } }] : List Instr).all (fun c => !c.wf) = true := by decide +kernel

/-- A command that cannot reach the module is turned away by name. -/
theorem test_ill_formed_stops : exec (.longopStep 256) State.reset = .fault .noSuchCommand := by rfl

/-! ## States and operands that meet the hypotheses of the completion statements -/

/-- A module in which the long operation waits for its next step. -/
def lo : State := { up with cp := { up.cp with longOps := [longSave] } }

/-- Whether a command names an object of a kind. -/
def isKind (k : ObjKind) (d : Dev) (c : Cmd) : Bool := match d.objOf c with | some o => o.kind == k | none => false

/-- SessionGroupCompletes: each clause is met. -/
theorem test_meets_session_group_completes :
  [wit up 0x0000 [] fun _ _ => true,
   wit up 0x0001 (pack [(1, 0x10), (1, 0x12), (6, 0)]) fun d c =>
    decide (max (c.par 0 1) 0x10 ≤ min (c.par 1 1) 0x12) && (d.sessionAt c.pkt.src).isSome && (freeKey Session.id d.cp.sessions 4096 0).isSome,
   wit up 0x0002 [] fun _ c => c.session.isSome,
   wit up 0x0003 [] fun _ _ => true,
   wit lo 0x0004 (pack [(4, longSave.cookie)]) fun d c => match d.byCookie c with | .ok l => l.mode == .stepped | .error _ => false,
   wit lo 0x0005 (pack [(4, longSave.cookie)]) fun d c => match d.byCookie c with | .ok l => l.mode == .stepped | .error _ => false,
   wit lo 0x0006 (pack [(4, longSave.cookie)]) fun d c => match d.byCookie c with | .ok l => (opInfo l.op).any OpInfo.cancel | .error _ => false,
   wit up 0x0007 [0] fun _ _ => true].all id = true := by decide +kernel

/-- ObjectGroupCompletes: each clause is met. -/
theorem test_meets_object_group_completes :
  [wit arr 0x0100 (pack [(8, 5000)]) fun d c =>
      let v := clampParam c.pkt.params 0 0 64 1 (2 ^ 52 - 1)
      let stripes := ceilDiv v.1 (max d.geo.lb 1)
      decide (d.objectFault stripes = none) && d.freeObject.isSome,
   wit arr 0x0104 (pack [(8, 5000)]) fun d c =>
    let v := clampParam c.pkt.params 0 0 64 0 (2 ^ 48)
    decide (d.objectFault (ceilDiv v.1 (4096 * max d.geo.lb 1)) = none) && d.freeObject.isSome,
   wit arr 0x0101 (pack [(8, 5)]) (isKind .ns),
   wit arr 0x0107 (pack [(8, 7)]) (isKind .closedTake),
   wit arr 0x0103 (pack [(8, 5)]) (isKind .ns),
   wit arr 0x0102 (pack [(8, 5)]) (isKind .ns),
   wit arr 0x0108 (pack [(8, 6)]) (isKind .openTake),
   wit arr 0x0105 (pack [(8, 6)]) (isKind .openTake),
   wit arr 0x0106 (pack [(8, 7)]) (isKind .closedTake)].all id = true := by decide +kernel

/-- MediaGroupCompletes: each clause is met. -/
theorem test_meets_media_group_completes :
  [wit net 0x0200 (pack [(4, 5 * 256), (4, 0), (8, 0), (8, 4096), (8, 0), (8, 0)]) fun d c =>
    match d.checkCommit c with | .ok r => d.descRoom r.obj.num (d.commitBlocks r) none | .error _ => false,
   wit net 0x0201 [] fun d c => (d.flushBlocks c.livery).all fun w => d.descRoom w.1 w.2 none,
   wit net 0x0202 (pack [(2, 6), (2, 0), (4, 9), (8, 0), (8, 2), (8, 0x1000), (4, 3), (4, 0), (8, 8192)]) fun d c =>
    let mode := if 2 < c.par 2 1 then 0 else c.par 2 1
    match d.objOf c with
    | some o => (o.isTake || mode == 0) && d.rqOpen (c.par 4 4) c.livery
      && (match readExtent o c.pkt.params mode with | .ok x => x.2.1 != 0 | .error _ => false)
    | none => false,
   wit net 0x0203 (pack [(2, 7), (2, 0), (4, 0)]) fun d c => (d.objOf c).any Obj.isTake].all id = true := by decide +kernel

/-- AccessGroupCompletes: each clause is met. -/
theorem test_meets_access_group_completes :
  [wit net 0x0300 (pack [(8, 65536), (1, 3), (3, 0), (4, 2 ^ 31 + 5), (8, 0)]) fun d c =>
    let v := clampParam c.pkt.params 0 0 64 65536 (2 ^ 32)
    let size := ceilDiv v.1 65536 * 65536
    (match d.inkTarget c.livery (c.par 12 4) with | some o => decide (c.par 16 8 < o.blocks) | none => false)
      && size == 65536 && !(d.freePages.isEmpty) && d.takeInk.isSome,
   wit net 0x0301 (pack [(4, 5 * 256), (1, 1), (3, 0)]) fun d c => (d.inkAt (c.par 0 4)).any fun k => k.livery == c.livery && k.revoking.isNone,
   wit net 0x0302 (pack [(3, 5), (5, 0)]) fun d c => (d.inkOf (c.par 0 3)).any fun k => k.livery == c.livery,
   wit net 0x0303 (pack [(1, 0), (1, 0), (1, 6), (1, 3), (4, 10), (8, 0)]) fun d c =>
    decide (c.par 0 1 = 0) && decide (d.rqCount < 16384) &&
      ((d.qp? (c.par 4 4)).filter fun q => !q.nvme && q.livery == some c.livery && q.state == .ready && q.rq.isNone).isSome,
   wit net 0x0304 (pack [(4, 9), (4, 0)]) fun d c => (d.rqOf c).any fun q => q.rq.isSome,
   wit net 0x0305 (pack [(4, 9), (4, 0)]) fun d c => (d.rqOf c).any fun q => d.rqRoom q.num].all id = true := by decide +kernel

/-- ArrayGroupCompletes: each clause is met. -/
theorem test_meets_array_group_completes :
  [wit up' 0x0400 (pack [(8, 1), (1, 4), (1, 0), (1, 1), (1, 0), (6, 127)]) fun d c =>
    let slots := createSlots c.pkt.params
    (d.lay.geo.isNone || bit (c.par 11 1) 0) && slots.all (fun k => (d.slotAt k).usable)
      && (arrayGeometry c.pkt.params slots.length (d.smallest slots)).1.usable,
   wit arr 0x0401 [] fun _ _ => true,
   wit arr 0x0402 [6] fun d c => decide (c.par 0 1 < d.members),
   wit arr 0x0403 [] fun _ _ => true,
   wit arr 0x0404 [3, 1] fun d c => d.isLive (c.par 0 1) && !(d.rly.triggers.contains (c.par 0 1)) && bit (c.par 1 1) 0,
   wit gone 0x0405 [3, 7] fun d c => decide (c.par 0 1 < d.members) && d.memberState (c.par 0 1) == 1
     && d.rly.jobs.all (fun j => j.member != c.par 0 1)
    && decide (c.par 1 1 < 48) && (d.slotAt (c.par 1 1)).usable && decide (d.geo.u * d.geo.b ≤ (d.slotAt (c.par 1 1)).capacity)
    && (d.memberAt (c.par 1 1)).isNone,
   wit arr 0x0406 [] fun _ _ => true].all id = true := by decide +kernel

/-- PatrolRebuildGroupCompletes: each clause is met. -/
theorem test_meets_patrol_rebuild_group_completes :
  [wit arr 0x0500 [64, 0, 5] fun _ _ => true,
   wit arr 0x0501 (pack [(8, 10), (8, 5)]) fun d c => decide (c.par 0 8 < d.geo.p),
   wit arr 0x0502 [] fun _ _ => true,
   wit arr 0x0503 [60, 0, 240, 0, 3] fun _ _ => true,
   wit arr 0x0504 [] fun _ _ => true,
   wit arr 0x0505 (pack [(8, 10), (8, 5)]) fun d c => decide (c.par 0 8 < d.periods),
   wit back 0x0506 [3] fun d c => decide (c.par 0 1 < d.members) && d.memberState (c.par 0 1) == 2].all id = true := by decide +kernel

/-- LiveryGroupCompletes: each clause is met. -/
theorem test_meets_livery_group_completes :
  [wit arr 0x0600 [9] fun d c => (d.livery? c.target).isNone,
   wit liv 0x0601 [2] fun d c => c.target != 0 && (d.livery? c.target).isSome
     && (!(d.lay.objects.any fun o => o.livery == c.target) || bit (c.par 1 1) 0),
   wit liv 0x0602 ([2, 3] ++ List.replicate 168 0) fun d c => (d.livery? c.target).isSome,
   wit liv 0x0603 (pack [(2, 5), (2, 1), (4, 0), (3, 16), (3, 31), (1, 2), (1, 1)]) fun _ _ => true,
   wit liv 0x0604 [2] fun d c => (d.livery? c.target).isSome,
   wit liv 0x0605 [2] fun d c => d.liveryState c.target == 1,
   wit liv 0x0605 [3] fun d c => d.liveryState c.target == 3,
   wit liv 0x0606 [3, 0, 1] fun d c => d.liveryState c.target == 3 && c.par 1 1 == 0 && !(d.lvy.busyBuffers.contains 1),
   wit liv 0x0607 [3, 0, 1] fun d c => (d.livery? c.target).isSome,
   wit liv 0x0608 [2] fun d c => d.liveryState c.target == 1,
   wit liv 0x0608 [4] fun d c => d.liveryState c.target == 2,
   wit liv 0x0608 [3] fun d c => d.liveryState c.target == 3,
   wit liv 0x0609 [2] fun d c => (d.livery? c.target).isSome].all id = true := by decide +kernel

/-- RulingGroupCompletes: each clause is met. -/
theorem test_meets_ruling_group_completes :
  [wit up 0x0700 [] fun _ _ => true,
   wit up 0x0701 [] fun _ _ => true,
   wit up 0x0702 (pack [(1, 0), (1, 1), (1, 0), (5, 0), (8, 0)]) fun _ c => !(bit (fieldAt c.pkt.params 2 1) 0),
   wit up 0x0702 (pack [(1, 0), (1, 1), (1, 1), (5, 0), (8, 0)]) fun _ c => bit (fieldAt c.pkt.params 2 1) 0,
   wit timed 0x0703 (pack [(4, 7), (4, 100)]) fun d _ => d.flag Reg.rulCtl 0 && d.rul.started,
   wit up 0x0704 (pack [(8, 7 * 2 ^ 28)]) fun d c => (d.toPresent (c.par 0 8)).isSome].all id = true := by decide +kernel

/-- KeyFailoverGroupsComplete: each clause is met. -/
theorem test_meets_key_failover_groups_complete :
  [wit up 0x0800 (pack [(1, 63), (1, 0), (2, 0), (4, 5), (8, 100), (16, 3), (16, 4)]) fun d c => decide (c.par 0 1 < 64)
    && decide (d.keyLoadFault (c.par 0 1) (c.par 4 4) (fit 32 (c.pkt.params.drop 16)) = none),
   wit keyed 0x0801 [63] fun d c => decide (c.par 0 1 < 64) && (d.keySlot (c.par 0 1)).state != 0,
   wit keyed 0x0802 [63, 62] fun d c => decide (c.par 0 1 < 64) && d.successorOk (c.par 0 1) (c.par 1 1),
   wit keyed 0x0803 [63] fun _ c => decide (c.par 0 1 < 64),
   wit up 0x0900 [3] fun _ _ => true,
   wit up 0x0901 [] fun _ _ => true,
   wit pair 0x0902 [0, 2, 255, 255] fun d c => d.fov.role == .active && (carriedList c.pkt.params).1.all (fun k => (d.livery? k).isSome)
     && d.handoverReady].all id = true := by decide +kernel

/-- MonitorGroupCompletes: each clause is met. -/
theorem test_meets_monitor_group_completes :
  [wit up 0x0A00 [0, 0, 1] fun _ c => c.session.isSome,
   wit up 0x0A01 [0, 0, 1] fun _ c => c.session.isSome,
   wit up 0x0A02 (pack [(2, 511), (2, 1), (1, 7), (1, 1)]) fun _ c => decide (c.par 0 2 ≤ 511),
   wit up 0x0A03 (pack [(2, 255), (2, 1)]) fun _ c => decide (c.par 0 2 ≤ 255),
   wit up 0x0A04 [5] fun _ _ => true,
   wit up 0x0A05 [0] fun _ _ => true,
   wit up 0x0A06 [63, 1] fun _ _ => true,
   wit up 0x0A07 [63] fun _ c => decide (c.par 0 1 ≤ 63),
   wit up 0x0A08 [] fun _ _ => true,
   wit up 0x0A09 [] fun _ _ => true].all id = true := by decide +kernel

/-- RegisterModuleGroupsComplete: each clause is met. -/
theorem test_meets_register_module_groups_complete :
  [wit up 0x0B00 (pack [(2, 1), (6, 0), (4, 0x10000)]) fun d c =>
    decide (badOffset c.pkt.params 4 (clampParam c.pkt.params 0 0 16 1 2000).1 = none)
      && ((d.regAccesses 0x0B00 c.pkt.params 4 (clampParam c.pkt.params 0 0 16 1 2000).1).1.cmd? c.id).isSome,
   wit up 0x0B01 (pack [(2, 1), (6, 0), (4, 0x10000), (4, 9)]) fun d c =>
    decide (badOffset c.pkt.params 8 (clampParam c.pkt.params 0 0 16 1 1000).1 = none)
      && ((d.regAccesses 0x0B01 c.pkt.params 8 (clampParam c.pkt.params 0 0 16 1 1000).1).1.cmd? c.id).isSome,
   wit up 0x0B02 (pack [(2, 1), (6, 0), (4, 0x10000), (4, 9), (4, 15), (4, 0)]) fun d c =>
    decide (badOffset c.pkt.params 16 (clampParam c.pkt.params 0 0 16 1 500).1 = none)
      && ((d.regAccesses 0x0B02 c.pkt.params 16 (clampParam c.pkt.params 0 0 16 1 500).1).1.cmd? c.id).isSome,
   wit up 0x0C00 [] fun _ _ => true,
   wit up 0x0C01 (pack [(4, 1), (4, 32)]) fun d c => !(d.lvy.busyBuffers.contains 1) && decide (32 ≤ c.par 4 4) && decide (c.par 4 4 ≤ 50331648),
   wit up 0x0C02 [0, 1] fun d c => (d.clk.bank (clampParam c.pkt.params 0 0 8 0 1).1).state == 1,
   wit up 0x0C03 [] fun _ _ => true,
   wit up 0x0C04 [1] fun _ _ => true].all id = true := by decide +kernel

/-- SwitchRegistersComplete, RulingRegistersComplete, DriveRegistersComplete, KeyRegistersComplete, UnitRegistersComplete and GenericAccessesComplete: each clause is met. -/
theorem test_meets_registers :
  [([0x10, 0x1B, 0x1C, 0x1E, 0x04, 0x25, 0x2A, 0x36, 0x37, 0x0C, 0x38, 0x0F, 0x03, 0x24, 0x23, 0x26, 0x22, 0x21].all fun b => arr.blockServed b),
   arr.isActive,
   (arr.rul.swapAt.isNone),
   (decide (arr.keyLoadFault (arr.fld Reg.cveKeyIdx 0 6) (arr.raw Reg.cveSalt) arr.stagedKey = none)),
   ((keyed'.keySlot (keyed'.fld Reg.cveKeyIdx 0 6)).state != 0),
   (dry.cve.ent == 2),
   ((poolHdrmRange (min 14 (poolOne.fld Reg.drlPoolIdx 0 4))).isSome),
   ((arr.livery? (arr.fld Reg.lvyIdx 0 8)).isSome),
   (decide (arr.fld Reg.hqeBindIdx 16 6 < 56)),
   (decide (56 ≤ bind.fld Reg.hqeBindIdx 16 6)),
   (isRegister Reg.rulNowLo && (up.wide Reg.pmcSnapRtsLo).isSome && isRegister Reg.pmcSnapRtsLo),
   (isRegister Reg.cmdDupCnt && decide (up.wide Reg.cmdDupCnt = none) && rcMask Reg.cmdDupCnt),
   (!(isRegister 0x00FFFC)),
   (isRegister Reg.mcrScratch && (if Reg.mcrScratch < 0x100000 then up.writeControl Reg.mcrScratch 5 else up.writeMedia Reg.mcrScratch 5).isNone),
   (up.smbOn && up.smbCheck == 0)].all id = true := by decide +kernel

/-- A Waybill record waits to be written. -/
def recs : State := { up with wbl := { up.wbl with scanned := true, queue := [⟨0, 0, 1, 0, 0, []⟩] } }

/-- Level 2 has been blocked since some time. -/
def stalled : State := { up with drl := { up.drl with stallAt := [(2, some 5000000)] } }

/-- Segment 5 has been dirty for long. -/
def dirty : State := { arr with lay := { arr.lay with segments := [⟨5, some 1000, false, [], 0, 0⟩] } }

/-- RecordAndSourceRowsComplete: each clause is met. -/
theorem test_meets_record_and_source_rows_complete :
  [recs.wbl.scanned && !recs.wbl.queue.isEmpty, up.triggers 0x203 && !(up.queueRecord 0x203).2,
  (sget (fun _ => none) stalled.drl.stallAt 2).isSome, up.cve.ent != 2, ({ up with cve := { up.cve with ent := 1 } } : State).cve.ent == 1,
  (dirty.dirtySince 5).isSome && dirty.flag Reg.layCkpt 16 && dirty.lay.state == 3 && dirty.isActive
    && dirty.dirtySegments.contains 5].all id = true := by decide +kernel

/-- The house sync is followed and a frame edge is due. -/
def housed : State := { timed with rul := { timed.rul with house := ⟨true, 3, some 4000000, 1125, 0, 7⟩ } }

/-- RulingEdgeRowsComplete: each clause is met. -/
theorem test_meets_ruling_edge_rows_complete :
  [(housed.upTo 37333333).flag Reg.rulCtl 0 && housed.rul.started && housed.rul.house.last == some 4000000
  && housed.rul.house.lines == housed.rul.judged.lpf && housed.rul.judged.periodOk (max housed.q 37333333 - 4000000),
  (housed.sourceDeadline 1).isSome,
  let s : State := { timed with rul := { timed.rul with state := .acquire, acqAt := some 5 } }; s.bestSource.isNone && s.rul.timeline,
  let s : State := { up with rul := { up.rul with state := .acquire, acqAt := some 5 } }; s.bestSource.isNone && !s.rul.timeline,
  up.rul.swapAt.isNone, ({ up with rul := { up.rul with swapAt := some 5 } } : State).rul.swapAt.isSome].all id = true := by decide +kernel

/-- A descriptor that waits for a drain slot. -/
def closing0 : Desc := { desc0 with state := .closing, path := .fresh, psi := none }

/-- NibRowsComplete: each clause is met. -/
theorem test_meets_nib_rows_complete :
  [
  let s := withDesc closing0
  (s.desc? 0).any (fun x => x.wantsSlot && x.waitingSince == (s.nib.descs.filter Desc.wantsSlot).foldl (fun a y => min a y.waitingSince) s.q)
    && decide ((s.nib.descs.filter Desc.hasSlot).length < s.drainSlots) && !s.blt.stopped && (s.allocFor 0).2,
  let s : State := { withDesc { desc0 with state := .draining, writes := [⟨0, 3, false⟩] } with drv := { arr.drv with cmds := [⟨3, 0, .write, 0, 16, 1, .strip 0 0, some 5, 0, none, none⟩] } }
  (s.drvCmd? 3).any (fun c => c.at_.isSome) && decide (15 < s.geo.b) && s.cveRoom && decide (0 < s.geo.d)
    && !(s.sourcePoisoned { desc0 with state := .draining } 15),
  let s : State := { withDesc { desc0 with state := .parity, writes := [⟨4, 3, false⟩] } with drv := { arr.drv with cmds := [⟨3, 0, .write, 0, 16, 1, .strip 0 4, some 5, 0, none, none⟩] } }
  (s.drvCmd? 3).any (fun c => c.at_.isSome) && decide (15 < s.geo.b) && s.cveRoom && decide (s.geo.d ≤ 4),
  let s : State := withDesc { desc0 with jobs := [1] }
  let s : State := { s with nib := { s.nib with jobs := [⟨1, .packet 1, 6, 0, 5, some 0, true, 1, 0, 0, none, [0], [0], [], none, none, false, []⟩] } }
  (s.desc? 0).any (fun x => x.state == .opened && (s.closePoint x).isSome),
  let s := withDesc { desc0 with lstripe := 0 }
  (s.desc? 0).any (fun x => x.state == .opened && (s.closePoint x).isNone && (s.obj? x.object).any fun o => o.isTake
    && x.lstripe == o.tailStripe s.geo.lb) && s.flag Reg.nibCtl 0,
  let s := withDesc { desc0 with state := .closing, path := .small }
  (s.desc? 0).any fun x => x.state == .closing && x.path == .small].all id = true := by decide +kernel

/-- PassRowsComplete: each clause is met. -/
theorem test_meets_pass_rows_complete :
  [
  let s := withRead read0
  (s.read? 0).any (fun r => r.granted && !r.submitted
    && !((List.range ((r.first + r.blocks - 1) / max 1 s.geo.lb + 1 - r.first / max 1 s.geo.lb)).any fun k => s.lookupHeld r.object (r.first / max 1 s.geo.lb + k)) && (s.request 7 r.granules false 0).2),
  let s : State := { withRead read0 with drl := { net.drl with use := [(7, 66048)] } }
  (s.read? 0).any (fun r => r.granted && !r.submitted && !(s.request 7 r.granules false 0).2),
  let s : State := { arr with otr := { arr.otr with repair := [7] }, lay := { arr.lay with phys := [(7, 2)] } }
  s.otrMayStart && !((s.onOtr fun o => { o with repair := [] }).otrSkips 7),
  let s : State := { arr with lay := { arr.lay with phys := [(0, 2)] } }
  s.otrMayStart && s.otr.repair.isEmpty && !(s.otrMove.otrSkips s.otr.cursor),
  let s (p : Nat) (c : Nat) : State := { gone with rly := { gone.rly with phase := p, cursor := c } }
  let ok (s : State) : Bool := s.rly.phase != 0 && (let d := s.relayTick.judgeRaised; d.lay.state == 3 && d.rly.work.isNone && !d.blt.stopped)
  ok (s 1 0) && (s 1 0).relayTick.judgeRaised.blt.remirror.isEmpty && ok ({ s 1 0 with blt := { gone.blt with remirror := [4] } } : State) &&
  (let d := (s 2 0).relayTick.judgeRaised; ok (s 2 0) && d.flag Reg.rlyCtl 0 && d.rly.pass.isNone && decide (d.rly.cursor < d.periods)
    && (d.nextStripe d.rly.cursor d.rly.stripeIn 2).isNone) &&
  (let d := (s 2 1000000).relayTick.judgeRaised; ok (s 2 1000000) && decide (d.periods ≤ d.rly.cursor))].all id = true := by decide +kernel

/-- An event waits for the session. -/
def evq : State := { up with cp := { up.cp with sessions := up.cp.sessions.map fun x => { x with queue := [⟨0x18, 1, 0, none, 0, 0, []⟩] } } }

/-- EventAndMonitorRowsComplete: each clause is met. -/
theorem test_meets_event_and_monitor_rows_complete :
  [(evq.session? 1).any (fun x => !x.queue.isEmpty && evq.transportReady x),
  !({ up with pmc := { up.pmc with inflight := [(3, 1)] } } : State).pmc.inflight.isEmpty].all id = true := by decide +kernel

/-- The BAR2 window is open and writable, and every DMA channel runs. -/
def wnd : State := { up with mep := { up.mep with memSpace := true, dma := up.mep.dma.map fun c => { c with state := 1 } }, regs := [(Reg.mepCtl, 3)] }

/-- EndpointRowsComplete: each clause is met. -/
theorem test_meets_endpoint_rows_complete :
  [({ wnd with mep := { wnd.mep with bme := true } } : State).mep.bme && (wnd.dma 3).state == 1, wnd.bar2Open && wnd.flag Reg.mepCtl 1
    && (wnd.poisonIn (wnd.flag Reg.mepWin 0) (wnd.winAddr 0xFFFFFFF8) 8).isNone,
  let s : State := { wnd with mem := { wnd.mem with poison := [(2, 64)] } }; s.bar2Open
    && (s.poisonIn (s.flag Reg.mepWin 0) (s.winAddr 120) 16).isSome,
  barMask 0x10 != 0 && !up.mep.presetBars && !([0x04, 0x44, 0x50, 0x68].contains 0x10), up.smbOn, !up.mep.bme, up.mep.speed != 5,
  (({ wnd with mep := { wnd.mep with dma := up.mep.dma.map fun c => { c with state := 2 } } } : State).dma 0).state == 2].all id = true := by decide +kernel

/-- The pair in a role and a takeover step, with every time running. -/
def fovS (r : Role) (k : Nat) : State :=
  { pair with fov := { pair.fov with role := r, tstep := k, guardAt := some 5, discoverAt := none, fenceAt := some 5, cutAt := some 5, releaseAt := some 5, handoverAt := some 5, running := true } }

/-- A partner message with a role. -/
def msg0 (r : Nat) : PartnerMsg := ⟨0x10, r, false, true, true, 1, 0⟩

/-- The lower-priority module looks for its role at step 12. -/
def initS : State :=
  { up with clk := { up.clk with step := 12, done := false }, pins := { up.pins with slotIdStrap := false, actPeer := false }
            fov := { up.fov with role := .init, peerLowAt := some 1000, ptlAlive := false, hblAlive := false } }

/-- FailoverRowsComplete: each clause is met. -/
theorem test_meets_failover_rows_complete :
  [initS.peerLow.isSome && initS.mayClaim,
  (fovS .claiming 0).fov.guardAt.isSome, (fovS .takeover 3).fov.tstep == 3,
  (fovS .claiming 0).pins.slotIdStrap,
  (let s : State := { initS with fov := { initS.fov with discoverAt := some 5000000 } }
   let d := (s.upTo 5000000).onFov fun f => { f with discoverAt := none }
   !s.fov.ptlAlive && !s.fov.hblAlive && d.peerLow.any (fun u => decide (u ≤ d.q)) && d.mayClaim),
  (let s : State := { initS with fov := { initS.fov with discoverAt := some 5000000, peerLowAt := none } }
   ((s.upTo 5000000).onFov fun f => { f with discoverAt := none }).peerLow.isNone),
  (fovS .active 0).pathsRun && (fovS .active 0).flag Reg.ptlCtl 0, (msg0 1).wf,
  (let d := ((fovS .handover 0).heardPartner (msg0 1)).judgePaths; d.fov.role == .handover && d.fov.handoverAt.isSome),
  pair.fov.hblAlive && pair.fov.ptlAlive,
  (fovS .takeover 1).fov.fenceAt.isSome, (fovS .takeover 2).fov.cutAt.isSome && !(fovS .takeover 2).fov.blocked,
  ({ fovS .takeover 2 with pins := { up.pins with actPeer := true } } : State).pins.actPeer,
  !(up.pins.fenceOut && !up.pins.slotIdStrap), ({ up with clk := { up.clk with active := [3] } } : State).clk.active.contains 3,
  ({ up with fov := { up.fov with fenced := true } } : State).fov.fenced
    && !up.pins.fenceIn, (fovS .takeover 1).flag Reg.fovCtl 1].all id = true := by decide +kernel

/-- The power entry in a state, with every time running. -/
def pesS (st : PesState) : State := { up with pes := { up.pes with state := st, delayEnd := some 5, keptUntil := some 5, partnerPulse := some 5, pfReleasedAt := some 5 } }

/-- PowerRowsComplete: each clause is met. -/
theorem test_meets_power_rows_complete :
  [!up.pes.inputGone, (pesS .delay).pes.delayEnd.isSome, (pesS .ramp).pes.state == .ramp, up.pes.onSince.isSome, up.pins.pwrEnIn
    && up.pes.state == .on,
  (let s : State := { pesS .held with pins := { up.pins with pwrEnIn := false } }; !s.pins.pwrEnIn && inWindow .off s.pes.inputMv),
  (let s := pesS .cool; s.pins.pwrEnIn && inWindow .cool s.pes.inputMv),
  (let s : State := { up with pes := { up.pes with state := .cool, inputMv := 30000 } }; s.pins.pwrEnIn && !(inWindow .cool s.pes.inputMv)),
  (let s : State := { up with pes := { up.pes with inputGone := true, keptUntil := some 5 } }; s.pes.keptUntil.isSome && s.pes.inputGone),
  !up.pins.pwrFail && !up.pes.pfInternal, (let s : State := { up with pes := { up.pes with inputMv := 43500 } }; s.flag Reg.pesCfg 25
    && decide (s.pes.inputMv < 100 * s.fld Reg.pesCfg 16 9)),
  ({ up with pins := { up.pins with pwrFail := true } } : State).pwrFail, inWindow (pesS .on).pes.state (pesS .on).pes.inputMv].all id = true := by decide +kernel

/-- Start-up at a step. -/
def stepS (k : Nat) : State := { up with clk := { up.clk with step := k, done := false } }

/-- StartupRowsComplete: each clause is met. -/
theorem test_meets_startup_rows_complete :
  [(stepS 0).clk.step == 0 && !(stepS 0).clk.done && !(stepS 0).clk.failed && !(stepS 0).clk.inReset,
  (stepS 2).stepMayEnd 2 && (let d := (stepS 2).endStep 2; !(d.clk.failed || d.clk.done)),
  (List.range' 1 4).all fun c => decide (1 ≤ failStep c), (stepS 11).clk.step == 11 && !(stepS 11).clk.drivesLate,
  ({ up with clk := { up.clk with active := [1] } } : State).clk.active.contains 1].all id = true := by decide +kernel

/-- A queued frame. -/
def frame0 : QFrame := ⟨1000, 3, 0, false, false, none, 0, 0, none, none⟩

/-- Every link is up; link 88 is a Tandem link in state 2. -/
def linkS : State :=
  { up with
    tpk := { up.tpk with ports := (List.range 12).map fun n => { EthPort.initial n with up := 255 } }
    tdm := { up.tdm with links := [⟨88, 2, 0x11, 7, 4000000, 4000000⟩] }
    regs := [(Reg.tdmId, 5)] }

/-- One frame waits in a list. -/
def listS (l : Nat) (f : QFrame) : State := { linkS with tpk := { linkS.tpk with lists := [(l, [f])] } }

/-- A frame too long for the window of its class. -/
def gateS : State :=
  let s := listS (linkList 0 3) { frame0 with length := 9600 }
  { s with q := 100, regs := [(bank Reg.tssLinkSched 0, 0xFF00)]
           tpk := { s.tpk with ports := s.tpk.ports.map fun p => { p with mode := 3 } }
           rul := { timed.rul with geo := ⟨240, 1, 16383⟩, bank0 := [(0, ⟨BitVec.ofNat 32 (2 ^ 31 + 65536), 0xFFFF⟩)] } }

/-- SwitchRowsComplete: each clause is met. -/
theorem test_meets_switch_rows_complete :
  [linkS.linkUp 88 && linkS.tandemRole 88 && linkS.flag Reg.tdmCtl 0 && linkS.moduleId != 0, (linkS.tdmLink 88).state == 2,
  (let s : State := { linkS with tdm := { linkS.tdm with ctxs := [⟨9, 4095, 3, [], 5⟩] } }; (s.reseq? 9 4095).any fun c => c.held.isEmpty),
  (let s : State := { linkS with tpk := { linkS.tpk with pauses := [⟨88, 7, 5, 200000000, false⟩] } }
   (s.pause? 88 7).any fun p => !p.barked && decide (p.since + quantaMs (s.fld (ethReg Reg.ethPfcWd 11) 0 16) < p.until_)),
  (let s : State := { linkS with tpk := { linkS.tpk with xoffs := [⟨8, 7, true, 5⟩] } }; (s.tpk.xoffs.find? fun x => x.link == 8
    && x.prio == 7).isSome),
  (let s := listS (ctlList 0) frame0; s.linkUp 0 && decide (s.busyUntil 0 ≤ s.q) && s.ctlReady 0),
  (let s := listS (linkList 0 7) frame0; !(s.ctlReady 0) && bit (s.fld (bank Reg.tssLinkSched 0) 0 8) 7 && s.prioReady 0 7),
  (let s := listS (linkList 0 3) frame0; !(s.ctlReady 0)
    && (((List.range 8).map fun i => 7 - i).find? fun p => bit (s.fld (bank Reg.tssLinkSched 0) 0 8) p && s.prioReady 0 p).isNone
    && (s.wrrPick 0).isSome),
  (let s := listS (liveryList 2 0) frame0; (s.wfqPick 0).any fun l => !(s.list (liveryList l 0)).isEmpty),
  (let s : State := { linkS with tpk := { linkS.tpk with lists := [(liveryList 2 0, [frame0, frame0])] } }; (s.wfqPick 0).isSome),
  linkS.freshAllowed 4,
  (gateS.linkExists 0 && bit (gateS.raw (bank Reg.tssLinkSched 0)) 11 && gateS.classOpen 11 && (gateS.runEnd 11).isSome
    && decide (gateS.runQuanta 11 < gateS.wireQuanta 0 9600)),
  linkS.linkExists 88 && bit (linkS.port 11).up 0, linkS.linkExists 0 && !(bit (up.port 0).up 0) && (up.port 0).enabled && !(up.port 0).cageOff,
  (let s : State := { linkS with regs := [(Reg.rulPtpCfg, 0xFFFF)], rul := { linkS.rul with servo := { linkS.rul.servo with syncAt := some 5 } } }
   s.linkUp 0 && !(s.tandemRole 0) && s.flag Reg.rulPtpCfg 8 && s.rul.servo.syncAt.isSome)].all id = true := by decide +kernel

/-- The long operation in a mode. -/
def stepper (m : LongMode) (hold : Option Nat) : State := { up with cp := { up.cp with longOps := [{ longSave with mode := m, holdAt := hold }] } }

/-- Its command waits for the step. -/
def waiter : State := { stepper .stepped none with cp := { (stepper .stepped none).cp with cmds := [{ cmdOf up 4 (req 4 []) with aux := [4, 1] }] } }

/-- LongOperationRowsComplete: each clause is met. -/
theorem test_meets_long_operation_rows_complete :
  [(stepper .background none).longOp? 4 |>.any fun l => l.mode == .background, (stepper .stepped (some 5)).longOp? 4 |>.any fun l => l.mode == .stepped && l.holdAt.isSome && ((stepper .stepped (some 5)).stepWaiter 4).isNone,
  (waiter.stepWaiter 4).isSome,
  (let s := stepper .heldBack none; (s.longOp? 4).any fun l => (s.cp.longOps.find? fun x => x.op == l.op && x.target == l.target
    && x.mode == .heldBack).map LongOp.slot == some 4
     && !(s.cp.longOps.any fun x => x.op == l.op && x.target == l.target && x.mode != .heldBack) && (s.stepWaiter 4).isNone),
  (let s : State := { waiter with cp := { waiter.cp with longOps := [{ longSave with mode := .heldBack }] } }; (s.stepWaiter 4).isSome)].all id = true := by decide +kernel

/-- The connection in a state. -/
def qpIn (st : QpState) (passive : Bool) : State :=
  { net with rae := { net.rae with qps := [{ qp9 with state := st, passive := passive, cmAt := some 5, lingerAt := some 5, closeAfter := true, rateAt := some 5 }] } }

/-- Its requester queue holds work, after some retries. -/
def rqS (l : List WorkReq) (flags : Nat) : State :=
  { net with rae := { net.rae with qps := [{ qp9 with rq := some ⟨0, 6, 3, false, 0, 0, 0, l, flags, flags, none, 0, none, none⟩ }] } }

/-- A Placement Flush that was sent. -/
def work0 : WorkReq := ⟨.flush 3, none, 0, true, 5, none, none⟩

/-- A CM REQ. -/
def req9 : CmReq := ⟨4812, 0, 0, 77, 0, 5, 1000, 14, false, 0, 0, 0⟩

/-- RemoteAccessRowsComplete: each clause is met. -/
theorem test_meets_remote_access_rows_complete :
  [
  (let m := { req9 with port := net.fld Reg.raeCm 0 16 }; m.wf && net.portsOpen && m.port != net.fld Reg.raeCm 16 16
    && net.mapPid m.pid == some m.livery
    && (net.livery? 0).any (fun x => x.state == .service)
    && (net.openQp (some 0) false true m.pinned m.pid m.peerQp m.startPsn m.cmTimeoutUs m.ackExponent).isSome),
  (let m := { req9 with port := net.fld Reg.raeCm 16 16, nvmeQid := 1, hsqsize := 1024, hrqsize := 1024 }; m.wf
    && (net.openQp none true true m.pinned m.pid m.peerQp m.startPsn m.cmTimeoutUs m.ackExponent).isSome),
  ((qpIn .connecting false).qp? 9).any fun q => q.state == .connecting && !q.passive && q.cmAt.isSome,
  ((qpIn .connecting true).qp? 9).any fun q => q.passive && q.closeAfter, ((qpIn .error true).qp? 9).any fun q => q.lingerAt.isSome,
  net.portsOpen && ((net.countRae 15 1).qp? 9).any (fun q => q.rq.isSome) && ((net.countRae 15 1).raise 0x12A).flag Reg.raeCtl 2,
  (let s : State := { net with regs := [(Reg.raeCtl, 3)] }; !(((s.countRae 15 1).raise 0x12A).flag Reg.raeCtl 2)),
  ((qpIn .ready true).qp? 9).any (fun q => q.rateAt.isSome) && (qpIn .ready true).flag Reg.raeCtl 2,
  (rqS [work0] 0).rqFlying 9 && ((rqS [work0] 0).rq? 9).any (fun r => decide (r.retries < net.fld Reg.raeRetry 5 3)),
  ((rqS [work0] 7).rq? 9).any (fun r => decide (net.fld Reg.raeRetry 5 3 ≤ r.retries)),
  net.fld Reg.raeRetry 8 3 == 7 || ((rqS [work0] 0).rq? 9).any (fun r => decide (r.rnrRetries < net.fld Reg.raeRetry 8 3)),
  ((rqS [work0] 0).oldestSent 9 fun _ => true).isSome && ((rqS [work0] 0).oldestSent 9 WorkReq.isFlush).isSome,
  (let s : State := { net with rae := { net.rae with inks := inks.map fun k => { k with revoking := some (5, 6) } } }; (s.inkOf 5).any fun x => x.revoking.isSome)].all id = true := by decide +kernel

/-- A drive command is out on slot 5. -/
def cmdS (op : DriveOp) (p : Purpose) : State := { arr with drv := { arr.drv with cmds := [⟨3, 5, op, 0, 1, 1, p, some 5, 0, some 9, none⟩] } }

/-- Slot 5 changed. -/
def slotS (f : Slot → Slot) : State := { arr with drv := { arr.drv with slots := arr.drv.slots.map fun x => if x.num = 5 then f x else x } }

/-- DriveRowsComplete: each clause is met. -/
theorem test_meets_drive_rows_complete :
  [(((cmdS .write (.home 0 0)).drvCmd? 3).any fun c => c.at_.isSome && c.op != .read && c.op.writes && c.retryAt.isSome),
  (((cmdS .read .patrolWrite).drvCmd? 3).any fun c => c.op == .read),
  (((cmdS (.admin 1) (.reserve false)).drvCmd? 3).any fun c => c.purpose == .reserve false && !c.op.writes && c.op != .read),
  ((slotS fun x => { x with drive := .escalating, escAt := some 5, escStep := 1 }).slotAt 5).escAt.isSome,
  ((slotS fun x => { x with offUntil := some 5, bootAt := some 5, insertAt := some 5 }).slotAt 5).insertAt.isSome && arr.isActive,
  (cmdS (.admin 1) (.reserve false)).drv.cmds.any fun c => c.slot == 5 && (match c.purpose with | .reserve _ => true | _ => false),
  (arr.slotAt 5).present && (arr.slotAt 5).powerEn,
  arr.flag Reg.sltCtl 0 && (List.replicate 12 (SlotReading.mk true 0 0)).all SlotReading.wf].all id = true := by decide +kernel

/-- MediaRowsComplete: each clause is met. -/
theorem test_meets_media_rows_complete :
  [
  (let s : State := { arr with rly := { arr.rly with jobs := [⟨.declare, 3, 0, 3, [], none⟩] } }; s.rly.jobs.all fun j => j.kind == .declare
    && j.step == 3 && j.writes.isEmpty),
  arr.isLive 6 && !(arr.rly.triggers.contains 6),
  (let s : State := { arr with hqe := { arr.hqe with locks := [⟨3, 5, 0, 9, true, .outrider, none, 5⟩] } }; (s.lock? 3).any s.grantable),
  (let s : State := { arr with rul := { arr.rul with bank0 := [(0, ⟨BitVec.ofNat 32 (2 ^ 31 + 1000), 0xFF3F⟩)] } }; !(s.classOpen 3)
    && (s.nextOpen 3).isSome),
  ((withRead { read0 with owner := .nvme 9 4 }).read? 0).any fun r => r.owner == .nvme 9 4,
  (let s := withRead { read0 with submitted := true, data := [(0, List.replicate 4096 1), (1, List.replicate 4096 1)] }
   (s.read? 0).any fun r => let k := r.skip r.blocks r.delivered; s.readyRun r k != 0 && r.poisoned.isNone
     && (s.onRead r.id fun r => { r with delivered := k }).rqRoom r.qp),
  (let b : Block := ⟨[], ⟨0, 0, 0, 0, 0, 0, 0, 0, false, 0, 0⟩⟩
   let s (t : Bool) : State := { arr with cve := { arr.cve with queue := [⟨t, 63, .outrider, 0, 0, 0, b, 5⟩] } }
   ((s true).cveNext.any fun r => r.tag) && !(s true).cve.restarting && (s false).cveNext.any fun r => !r.tag)].all id = true := by decide +kernel

/-- A member label. -/
def label0 (k : Nat) : Label := ⟨0x10, 0x10, 0x10, k, true, 0, 1, 4, 0, 1, 7, 300000, 1, [0, 1, 2, 3, 4, 5, 6], [0, 0, 0, 0, 0, 0, 0]⟩

/-- Start-up reads the log back. -/
def replayS : State := { arr with clk := { arr.clk with step := 13, done := false } }

/-- LogRowsComplete: each clause is met. -/
theorem test_meets_log_rows_complete :
  [
  !({ arr with blt := { arr.blt with open_ := [5] } } : State).blt.open_.isEmpty, ({ arr with fov := { arr.fov with role := .standby } } : State).fov.role == .standby,
  ({ pair with blt := { pair.blt with mirrorAt := some 5 } } : State).blt.mirrorAt.isSome && pair.blt.mirror == .live,
  decide (commonVersion 0x20 0x21 0x10 0x11 = none), (commonVersion 0x10 0x11 0x10 0x11).isSome, arr.flag Reg.bltCtl 0 && arr.lay.state == 3
    && arr.isActive,
  (let s : State := { arr with fov := { arr.fov with role := .standby } }; !s.isActive),
  (let s : State := { arr with blt := { arr.blt with remirror := [4], remirrorFrom := 4000000 } }; !s.blt.remirrorLate
    && (s.openUntil [4] (quantaMs 64) 200000 s.blt.remirrorFrom 0).isSome),
  replayS.blt.replay == 0 && replayS.isActive && !((keepOne [⟨3, false, 0x10, 0, 0, 1, [], []⟩]).any fun b => !b.isPayload
    && b.headerVersion != 0x10),
  (keepOne [⟨3, false, 0x20, 0, 0, 1, [], []⟩]).any fun b => !b.isPayload && b.headerVersion != 0x10,
  (let s : State := { arr with clk := { arr.clk with step := 14, done := false } }
   let best := [(0, [label0 0])].filterMap fun x => (bestLabel x.2).map fun b => (x.1, b)
   decide (s.blt.replay ≤ 1) && (leadLabel (best.filter fun x => labelServed x.2)).isSome && !(s.isActive
     && s.blt.stopped))].all id = true := by decide +kernel

/-- A host on QP 11: controller 3, with the queue of a number. -/
def hostS (qid : Nat) : State :=
  { net with
    rae := { net.rae with qps := [{ qp9 with num := 11, nvme := true, rq := none }] }
    hqe := { net.hqe with
      queues := [⟨11, 3, qid, 32, 0, none⟩]
      controllers := [⟨3, 0, 1, [1], 5, false, 1, 1, 10000, 5, 1, 0, 0, [], [], [], 0⟩] } }

/-- A capsule of that host with its first two dwords. -/
def caps (a b : Nat) : Capsule := ⟨11, 4, 0, 5, BitVec.ofNat 32 a, BitVec.ofNat 32 b, 0, 0, 0, 0, 0, 0, 0, []⟩

/-- The module that has taken a capsule. -/
def hostDev (s : State) (c : Capsule) : Dev := match s.nvmeQp? c.qp with | some x => (s.firstPacket x).countHqe 0 1 | none => s.toDev

/-- Whether a capsule finds its queue and its controller. -/
def takenB (s : State) (c : Capsule) : Bool :=
  c.wf && (s.nvmeQp? c.qp).isSome && ((hostDev s c).nvmeQueue? c.qp).isSome && ((hostDev s c).controllerOf c.qp).isSome

theorem taken_of {s : State} {c : Capsule} (h : takenB s c = true) : ∃ q k, Taken s c (hostDev s c) q k := by
  simp only [takenB, Bool.and_eq_true] at h
  obtain ⟨⟨⟨h1, h2⟩, h3⟩, h4⟩ := h
  obtain ⟨x, hx⟩ := Option.isSome_iff_exists.mp h2
  obtain ⟨q, hq⟩ := Option.isSome_iff_exists.mp h3
  obtain ⟨k, hk⟩ := Option.isSome_iff_exists.mp h4
  exact ⟨q, k, ⟨h1, ⟨x, hx, by simp only [hostDev, hx]⟩, hq, hk⟩⟩

/-- An NVMe command in a stage. -/
def cmd0 (stage : Nat) : NvmeCmd := ⟨11, 4, 0, 1, caps 0 0, 1, 5, some 9, 0, true, true, [], stage, [], false, none, []⟩

/-- A Connect for a new controller. -/
def conn0 : ConnectData := ⟨11, 4, 0, 0xFFFF, 31, 10000, 5, [7], [9]⟩

/-- A host is bound, with no controller yet. -/
def newHost : State :=
  { hostS 0 with
    lvy := { net.lvy with liveries := [⟨0, .service, 1, [7], 0, 0, 0, []⟩] }
    hqe := { net.hqe with bindings := [(0, ⟨[9], 0, true⟩)] } }

/-- HostAdminRowsComplete and HostIoRowsComplete: each clause is met. -/
theorem test_meets_host_admin_rows_complete :
  [
  conn0.wf && (newHost.nvmeQp? 11).isSome && (let d := (newHost.firstPacket ((newHost.nvmeQp? 11).getD qp9)).countHqe 0 1
    (d.nvmeQueue? 11).isNone && d.flag Reg.hqeCtl 0 && (d.lvy.liveries.find? fun l => l.name == conn0.subNqn).isSome
      && (d.bindingOf conn0.hostNqn).any (fun b => d.mapPid b.pid == some 0) && d.freeCntlid.isSome),
  takenB (hostS 0) (caps 0 0x14), ((hostDev (hostS 0) (caps 0 0x14)).controllerOf 11).any (fun k => (k.property 0x14).isSome),
  takenB (hostS 0) (caps 1 0), ((hostDev (hostS 0) (caps 1 0)).controllerOf 11).any (fun k => ((hostDev (hostS 0) (caps 1 0)).identifyData k 1 5).isSome),
  takenB (hostS 0) (caps 0x0B 0) && takenB (hostS 0) (caps 0x0F 0) && takenB (hostS 0) (caps 0x07 0) && takenB (hostS 0) (caps 4 0),
  ((hostDev (hostS 0) (caps 4 0)).controllerOf 11).any (fun k => ((hostDev (hostS 0) (caps 4 0)).logPage k 4).isSome),
  ((hostDev (hostS 0) (caps 0 0)).nvmeQueue? 11).any (fun q => q.qid == 0 && q.lastFuse.isNone),
  (let d := hostDev (hostS 0) { caps 0 0 with data := leBytes 8 100 }; d.anaState == 1 && d.freeObject.isSome
    && (d.objectFault (ceilDiv (clampNat 1 (2 ^ 52 - 1) 100) (max d.geo.lb 1))).isNone),
  takenB (hostS 1) (caps 0 0) && ((hostDev (hostS 1) (caps 0 0)).nvmeQueue? 11).any (fun q => q.qid == 1 && q.lastFuse.isNone),
  (let s : State := { hostS 1 with hqe := { (hostS 1).hqe with cmds := [cmd0 3] } }; (s.nvme? 11 4).any fun c => c.stage == 3 && c.overdueAt.isSome),
  ((hostS 1).controller? 3).any fun k => k.katoMs != 0].all id = true := by decide +kernel

/-- One word is poisoned and one holds a correctable pattern. -/
def hitS : State := { up with mem := { up.mem with poison := [(0, 0)], flipped := [(1, 0)] } }

/-- MemoryAndClockRowsComplete: each clause is met. -/
theorem test_meets_memory_and_clock_rows_complete :
  [wfAddress 6 (136 * 2 ^ 20 - 1), ({ arr with lay := { arr.lay with reloading := [5] } } : State).lay.reloading.contains 5,
  (let a := hitS.scrubAt 0; hitS.flag Reg.scbCtl 0 && hitS.mem.poison.contains (0, a)),
  (let a := hitS.scrubAt 1; hitS.flag Reg.scbCtl 1 && !(hitS.mem.poison.contains (1, a)) && hitS.mem.flipped.contains (1, a)),
  (let a := hitS.scrubAt 6; hitS.flag Reg.scbCtl 6 && !(hitS.mem.poison.contains (6, a)) && !(hitS.mem.flipped.contains (6, a))),
  (stepS 7).clk.step == 7 && !(stepS 7).clk.inReset && !(stepS 7).clk.failed,
  (faultyDomains (List.replicate 61 0)).any coreDomain,
  (let s : State := { up with clk := { up.clk with inReset := true } }; s.clk.inReset),
  bit up.cp.run 3].all id = true := by decide +kernel

/-- A plain frame. -/
def fr0 : EthFrame := ⟨0, 64, true, false, 0, 0, false, 5, 6, false, false, 0, 0, 0, 0, 0, 0, .other⟩

/-- A Tandem frame of a type. -/
def tf0 (ty : Nat) : TandemFrame := ⟨88, 0x11, ty, 3, true, 3, 5, 9, 4095, 7, leBytes 1 0x10 ++ leBytes 1 0x11 ++ leBytes 2 9, none⟩

/-- One request waits in a phase. -/
def waitS (ph : CmdPhase) : State := { up with cp := { up.cp with cmds := [{ cmdOf up 0 (req 0 []) with id := 5, phase := ph }] } }

/-- ArrivalRowsComplete: each clause is met. -/
theorem test_meets_arrival_rows_complete :
  [((waitS (.held 70000)).cmd? 5).any fun c => decide (((waitS (.held 70000)).upTo ((waitS (.held 70000)).quantumOfRts 70000)).stateFault c.op c.pkt.generation c.livery = none),
  ((waitS .waiting).cmd? 5).any fun c => !((waitS .waiting).mustWait c) && (waitS .waiting).served c.op,
  (let s : State := { up with cp := { up.cp with sessions := up.cp.sessions.map fun x => { x with idleAt := some 5 } } }; (s.session? 1).any fun x => x.idleAt.isSome),
  (let d := up.fillSlots 0 []; up.blockServed 0x0F && bit (d.raw (Reg.mepRingCfg + 0)) 0 && !(bit (d.raw (Reg.mepRingCfg + 0)) 1)
    && decide (((8 + 65536 - d.fld Reg.mepRingReq 16 16) % 65536) ≤ 8)),
  fr0.wf && linkS.linkUp 0 && decide (fr0.length ≤ linkS.fld (ethReg Reg.ethCtl 0) 8 14)
    && (((linkS.countEth 0 0 1).countEth 0 1 64).stage2 fr0).isSome,
  (tf0 3).wf && linkS.linkUp 88 && linkS.tandemRole 88, (linkS.tdmLink 88).state == 2 && (linkS.tdmLink 88).version == 0x11,
  (let s : State := { linkS with tdm := { linkS.tdm with ctxs := [⟨9, 4095, 3, [⟨5, 9, tf0 0⟩], 5⟩] } }; (s.reseq? 9 4095).any fun c => !c.held.isEmpty)].all id = true := by decide +kernel

/-- A RoCE header for the connection. -/
def hdr (psn : Nat) : RoceHdr := ⟨9, psn, false, true⟩

/-- The module that has taken a RoCE packet. -/
def roceDev (s : State) (h : RoceHdr) : Dev := match (s.countRae 0 1).qp? h.qp with | some x => ((s.countRae 0 1).noteCe x h.ce).firstPacket x | none => s.toDev

/-- Whether a packet reaches its QP. -/
def reachB (s : State) (h : RoceHdr) : Bool :=
  h.wf && s.portsOpen && s.flag Reg.raeCtl 0 && h.icrcOk && (match (s.countRae 0 1).qp? h.qp with
    | some x => x.state != .error && (x.freezeDrop && x.admitted.isNone) == false && x.resident && x.parked.isEmpty
        && (match x.livery.bind (s.countRae 0 1).livery? with | some l => l.state == .service || l.state == .freezing | none => true)
    | none => false)

theorem reach_of {s : State} {h : RoceHdr} (w : reachB s h = true) : ∃ q, Reaches s h (roceDev s h) q := by
  unfold reachB at w
  cases e : (s.countRae 0 1).qp? h.qp with
  | none => rw [e] at w; simp at w
  | some x =>
    rw [e] at w
    simp only [Bool.and_eq_true, bne_iff_ne, beq_iff_eq, List.isEmpty_iff] at w
    obtain ⟨⟨⟨⟨h1, h2⟩, h3⟩, h4⟩, ⟨⟨⟨⟨h5, h6⟩, h7⟩, h8⟩, h9⟩⟩ := w
    refine ⟨_, ⟨h1, h2, h3, h4, x, e, h5, h6, h7, h8, fun l hl => ?_, by simp only [roceDev, e], rfl⟩⟩
    rw [hl] at h9
    simpa using h9

/-- RocePacketsComplete: each clause is met. -/
theorem test_meets_roce_packets_complete :
  [reachB net (hdr 100), psnAhead ((((roceDev net (hdr 100)).qp? 9).map Qp.expected).getD 0) 100 == 0,
  (let e := (roceDev net (hdr 100)).passed qp9 100 1; e.accessOk { qp9 with state := .ready } (5 * 256) (65536 * 4 - 4096) 4096 true
    && (e.inkOf 5).isSome
    && e.accessOk { qp9 with state := .ready } (5 * 256) 0 (65536 * 4) false
    && !(e.inkPoisoned (inks.getD 0 ⟨0, 0, [], 0, false, 0, 0, 0, 0, none, none, 0, 0, false⟩) 0 65536)),
  reachB net (net.nextHdr 9), !(net.buffersFull), decide (2 ^ 23 ≤ psnAhead 100 99), decide (0 < psnAhead 100 101 ∧ psnAhead 100 101 < 2 ^ 23),
  (let s : State := { net with rae := { net.rae with qps := [{ qp9 with fetching := true, resident := false, parked := [⟨100, .roceSend (hdr 100) []⟩] }] } }
   ((s.qp? 9).filter fun q => q.fetching && !q.resident).isSome && s.makeRoom.2)].all id = true := by decide +kernel

/-! ## States and operands that meet the hypotheses of the other statements -/

/-- QueueStaysServed. -/
theorem test_meets_queue_stays_served : ({ up with pending := [.nop (req 0 []), .perst] } : State).QueueWf := by
  intro c h
  simp only [List.mem_cons, List.not_mem_nil, or_false] at h
  rcases h with h | h <;> subst h <;> decide +kernel

/-- RequestBytesReadBack. -/
theorem test_meets_request_bytes : (req 0xFFFF []).wf = true := by decide +kernel

/-- The module with a UDP session that keeps one reply, and one running request. -/
def udp : State :=
  { up with cp := { up.cp with
      sessions := [⟨2, ⟨.udp, 5, none⟩, 0x12, 0, none, 0, 0, 0, [],
        [⟨7, (req 0 []).crc, ⟨⟨.udp, 5, none⟩, some 2, 0x12, 0, 0, 7, 0, 0, 1, 0, 0, []⟩⟩]⟩] } }

/-- UnsoundRequestsAreDiscarded: a packet cut short, one with a wrong CRC, and the two duplicates. -/
theorem test_meets_unsound_requests :
    [up.takesFrom .mailbox, !(packetFits { req 0 [] with delivered := 31 }), ({ req 0 [] with crc := (req 0 []).crc + 1 } : Packet).crc.toNat != packetCrc 0 (req 0 []),
     up.takesFrom .udp, (udp.cp.sessions.head?).any fun x => ((udp.touchSession (some x)).duplicateOf x (req 0 [])).any Option.isSome].all id = true := by decide +kernel

/-- SessionLimit: 4,096 sessions, and fewer. -/
theorem test_meets_session_limit :
    (let p := reqV 0x10 0x0001 (pack [(1, 0x10), (1, 0x12), (6, 0)])
     let full : State := { up with cp := { up.cp with sessions := List.replicate 4096 ⟨9, ⟨.udp, 5, none⟩, 0x12, 0, none, 0, 0, 0, [], []⟩ } }
     let free : State := { up with cp := { up.cp with sessions := [] } }
     [startedB full 0x0001 p 0, decide (4096 ≤ (devOf full 0x0001 p).cp.sessions.length), startedB free 0x0001 p 0,
      ((devOf full 0x0001 p).sessionAt p.src).isNone, decide (max ((cmdOf full 0x0001 p).par 0 1) 0x10 ≤ min ((cmdOf full 0x0001 p).par 1 1) 0x12)].all id)
      = true := by decide +kernel

/-- FieldsAreClamped: below, within and above the range, at its ends. -/
theorem test_meets_fields_clamped :
    [(0 : Nat), 1, 65535].map (fun v => (clampParam (leBytes 2 v) 0 0 16 1 65534).1) = [1, 1, 65534] := by decide +kernel

/-- LaterTimes: two frames 2^31 - 1 apart, 2^31 apart, and equal frames. -/
theorem test_meets_later_times :
    (let g : Geometry := ⟨24, 1, 1125⟩
     let at_ (n : Nat) : Nat := g.pos (n * 2 ^ 28)
     (decide (0 < g.distance (at_ 0) (at_ (2 ^ 31 - 1))), decide (0 < g.distance (at_ 0) (at_ (2 ^ 31))), decide (0 < g.distance (at_ 5) (g.pos (5 * 2 ^ 28 + 1)))))
      = (true, false, true) := by decide +kernel

/-- TimestampFields: the last subline of the last line. -/
theorem test_meets_timestamp_fields : bits (Geometry.rts ⟨24, 1, 16383⟩ 15 (16383 * 16384 - 1)) 14 14 = 16382 := by decide +kernel

/-- StripsOnDistinctMembers. -/
theorem test_meets_strips_distinct : 1 ≤ geo7.w ∧ geo7.w ≤ geo7.n ∧ 0 / geo7.n % 64 < min 64 geo7.periods := by decide +kernel

/-- LostStripsAreRebuilt: two blocks, the first and the second lost. -/
theorem test_meets_lost_strips :
    (let data := [List.replicate 4096 (1 : Byte), List.replicate 4096 2]; data.length ≤ 30 ∧ ∀ b ∈ data, b.length = 4096) := by decide +kernel

/-- CopiesOnDistinctMembers. -/
theorem test_meets_copies_distinct : 3 ≤ arr.liveMembers.length := by decide +kernel

/-- WindowAccessesAreExact and PoisonFollowsWrites: the window open and writable; a poisoned word that an access covers, one that it only meets. -/
theorem test_meets_window :
    (let s : State := { wnd with mem := { wnd.mem with poison := [(2, 64)] } }
     [s.bar2Open, s.flag Reg.mepCtl 1, Memory.wf s.mem.hbm, Memory.wf s.mem.ddr, s.mem.inject.isNone, wordCovered (s.flag Reg.mepWin 0) (s.winAddr 64) 64 (2, 64),
      wordHit (s.flag Reg.mepWin 0) (s.winAddr 127) 1 (2, 64), !(wordHit (s.flag Reg.mepWin 0) (s.winAddr 128) 64 (2, 64)),
      (s.poisonIn (s.flag Reg.mepWin 0) (s.winAddr 128) 64).isNone].all id) = true := by decide +kernel

/-- GatedEventsAreRaisedOnce: the bit clear, and the bit set. -/
theorem test_meets_gated_events :
    errBit 0x1F0 = some (Reg.drlErr, 0) ∧ up.flag Reg.drlErr 0 = false ∧ swf resetWord up.regs = true ∧
    ({ up with regs := [(Reg.drlErr, 1)] } : State).flag Reg.drlErr 0 = true ∧ swf resetWord [(Reg.drlErr, 1)] = true := by decide +kernel

/-- MonitorTakesSample: the ends of bins 0, 1, 2 and 31. -/
theorem test_meets_monitor_sample :
    [0, 1, 2, 3, 4, 0x3FFFFFFF, 0x40000000, 0xFFFFFFFF].map (fun v => ((Monitor.cleared.sample v).1.bins).map Prod.fst)
      = [[0], [1], [2], [2], [3], [30], [31], [31]] := by decide +kernel

/-- MonitorRegisterRows. -/
theorem test_meets_monitor_registers : swf monitorDflt up.lmon.mons = true := by decide +kernel

/-- WatchdogKeepsPause. -/
theorem test_meets_watchdog :
    (let s : State := { linkS with tpk := { linkS.tpk with pauses := [⟨88, 7, 5, 200000000, false⟩] } }
     (s.pause? 88 7).any (fun p => !p.barked && decide (p.since + quantaMs (s.fld (ethReg Reg.ethPfcWd 11) 0 16) < p.until_))
       && swf resetWord s.regs) = true := by
  decide +kernel

/-- RowsKeepToTheirUnits: a sample of the temperature gives a next state. -/
theorem test_meets_rows_keep : (match exec (.tempSample 800) up with | .next t => t.fld Reg.mcrTemp 0 12 == 800 | _ => false) = true := by decide +kernel

end Sys2Proof.Tests
end

section
/-! PROOFS. The Ruling timestamp and its order (R30, R33): the fields of an RTS, the distance of two positions on a timeline whose frames
count modulo 2^32, and the due times that have passed. -/

namespace Sys2Proof.Machine

/-! ## The fields of an RTS (R30) -/

/-- Four values within their widths are read back from the fields of R30. -/
theorem bits_of_rts_fields {epoch frame line sub : Nat} (he : epoch < 2 ^ 4) (hf : frame < 2 ^ 32) (hl : line < 2 ^ 14) (hs : sub < 2 ^ 14) :
    let r := epoch * 2 ^ 60 + frame * 2 ^ 28 + line * 2 ^ 14 + sub
    r < 2 ^ 64 ∧ bits r 60 4 = epoch ∧ bits r 28 32 = frame ∧ bits r 14 14 = line ∧ bits r 0 14 = sub := by
  simp only [bits]
  omega

/-- With LPF within the bounds of R34, no field of an RTS runs into the next. -/
theorem Geometry.bits_rts (g : Geometry) (epoch pos : Nat) (h1 : 1 ≤ g.lpf) (h2 : g.lpf ≤ 16383) :
    let r := g.rts epoch pos
    r < 2 ^ 64 ∧ bits r 60 4 = epoch % 16 ∧ bits r 28 32 = pos / (g.lpf * 16384) % 2 ^ 32 ∧
    bits r 14 14 = pos / 16384 % g.lpf ∧ bits r 0 14 = pos % 16384 := by
  have hline : pos / 16384 % g.lpf < g.lpf := Nat.mod_lt _ h1
  simp only [Geometry.rts, max_eq_left h1]
  exact bits_of_rts_fields (Nat.mod_lt _ (by decide)) (Nat.mod_lt _ (by decide)) (by omega) (Nat.mod_lt _ (by decide))

/-- Settles O49: the four fields are read back, and a remainder modulo LPF is a line of the frame. -/
theorem timestampFields : Obligations.TimestampFields := by
  intro g epoch pos h1 h2
  obtain ⟨hr, hepoch, hframe, hline, hsub⟩ := g.bits_rts epoch pos h1 h2
  exact ⟨hr, hepoch, hframe, hline, hline ▸ Nat.mod_lt _ h1, hsub⟩

/-! ## The position that an RTS gives -/

/-- A field of `width` bits holds a value below `2 ^ width`. -/
theorem bits_lt (n lsb width : Nat) : bits n lsb width < 2 ^ width := Nat.mod_lt _ (Nat.two_pow_pos width)

/-- The sublines from the start of its frame that an RTS gives. -/
def frameOffset (rts : Nat) : Nat := bits rts 14 14 * 16384 + bits rts 0 14

theorem Geometry.pos_eq (g : Geometry) (rts : Nat) : g.pos rts = g.frameSub * bits rts 28 32 + frameOffset rts := by
  simp only [Geometry.pos, Geometry.frameSub, frameOffset]
  ring

/-- A line within the frame keeps the offset within the frame. -/
theorem Geometry.frameOffset_lt (g : Geometry) {rts : Nat} (h : bits rts 14 14 < g.lpf) : frameOffset rts < g.frameSub := by
  have hs : bits rts 0 14 < 2 ^ 14 := bits_lt rts 0 14
  simp only [Geometry.frameSub, frameOffset]
  omega

theorem Geometry.pos_div_frameSub (g : Geometry) {rts : Nat} (h : bits rts 14 14 < g.lpf) : g.pos rts / g.frameSub = bits rts 28 32 := by
  have hlt := g.frameOffset_lt h
  rw [g.pos_eq, Nat.mul_add_div (by omega), Nat.div_eq_of_lt hlt, Nat.add_zero]

theorem Geometry.pos_mod_frameSub (g : Geometry) {rts : Nat} (h : bits rts 14 14 < g.lpf) : g.pos rts % g.frameSub = frameOffset rts := by
  rw [g.pos_eq, Nat.mul_add_mod, Nat.mod_eq_of_lt (g.frameOffset_lt h)]

/-- Offsets in a frame compare by line first and by subline second. -/
theorem frameOffset_lt_iff (a b : Nat) :
    frameOffset b < frameOffset a ↔ bits b 14 14 < bits a 14 14 ∨ (bits b 14 14 = bits a 14 14 ∧ bits b 0 14 < bits a 0 14) := by
  have ha : bits a 0 14 < 2 ^ 14 := bits_lt a 0 14
  have hb : bits b 0 14 < 2 ^ 14 := bits_lt b 0 14
  simp only [frameOffset]
  omega

/-! ## Later and earlier (R33) -/

/-- How many frames the frame number `a` lies ahead of the frame number `b`, counted modulo 2^32: the difference of R33. -/
def framesAhead (a b : Nat) : Nat := (a + (2 ^ 32 - b)) % 2 ^ 32

theorem framesAhead_eq_zero_iff {a b : Nat} (ha : a < 2 ^ 32) (hb : b < 2 ^ 32) : framesAhead a b = 0 ↔ a = b := by
  simp only [framesAhead]
  omega

/-- The sign of a whole number of frames and a difference of offsets: the frames decide, and the offsets do when the frames are equal. -/
theorem frames_add_offsets_pos_iff {f n : Int} {x y : Nat} (hx : (x : Int) < f) (hy : (y : Int) < f) :
    0 < n * f + (y : Int) - (x : Int) ↔ 1 ≤ n ∨ (n = 0 ∧ x < y) := by
  rcases lt_trichotomy n 0 with hn | rfl | hn
  · have : (n + 1) * f ≤ 0 := mul_nonpos_of_nonpos_of_nonneg (by omega) (by omega)
    have : n * f ≤ -f := by linarith
    omega
  · omega
  · have : 1 * f ≤ n * f := mul_le_mul_of_nonneg_right hn (by omega)
    omega

/-- A position is ahead of another when its frame is 1 to 2^31 − 1 frames ahead, or in the same frame when its offset there is greater. -/
theorem Geometry.distance_pos_iff (g : Geometry) {p p' n : Nat} (h : 1 ≤ g.lpf) (hn : framesAhead (p' / g.frameSub) (p / g.frameSub % 2 ^ 32) = n) :
    0 < g.distance p p' ↔ (1 ≤ n ∧ n ≤ 2 ^ 31 - 1) ∨ (n = 0 ∧ p % g.frameSub < p' % g.frameSub) := by
  have hlt : n < 2 ^ 32 := hn ▸ Nat.mod_lt _ (by decide)
  have hf : 0 < g.frameSub := by simp only [Geometry.frameSub]; omega
  have hp : ((p % g.frameSub : Nat) : Int) < g.frameSub := Int.ofNat_lt.mpr (Nat.mod_lt p hf)
  have hp' : ((p' % g.frameSub : Nat) : Int) < g.frameSub := Int.ofNat_lt.mpr (Nat.mod_lt p' hf)
  have hd : g.distance p p' = (if n < 2 ^ 31 then (n : Int) else n - 4294967296) * (g.frameSub : Int)
      + ((p' % g.frameSub : Nat) : Int) - ((p % g.frameSub : Nat) : Int) := by
    simp only [Geometry.distance, max_eq_left h, ← hn]
    rfl
  rw [hd, frames_add_offsets_pos_iff hp hp']
  split <;> omega

/-- The first clause of `Obligations.LaterTimes`, which holds: of two RTS of one epoch, the later one is as R33 says. -/
theorem Geometry.distance_pos_iff_later (g : Geometry) (a b : Nat) (h : 1 ≤ g.lpf) (ha : bits a 14 14 < g.lpf) (hb : bits b 14 14 < g.lpf) :
    0 < g.distance (g.pos b) (g.pos a) ↔
      (1 ≤ framesAhead (bits a 28 32) (bits b 28 32) ∧ framesAhead (bits a 28 32) (bits b 28 32) ≤ 2 ^ 31 - 1) ∨
      (bits a 28 32 = bits b 28 32 ∧ (bits b 14 14 < bits a 14 14 ∨ (bits b 14 14 = bits a 14 14 ∧ bits b 0 14 < bits a 0 14))) := by
  rw [g.distance_pos_iff h rfl, g.pos_div_frameSub ha, g.pos_div_frameSub hb, g.pos_mod_frameSub ha, g.pos_mod_frameSub hb,
    Nat.mod_eq_of_lt (bits_lt b 28 32), framesAhead_eq_zero_iff (bits_lt a 28 32) (bits_lt b 28 32), frameOffset_lt_iff]

/-- The second clause of `Obligations.LaterTimes` with the bound of R34 on LPF, without which it fails: a due time of 2^31 frames or more
ahead of the present RTS names the present quantum. -/
theorem Dev.quantumOfRts_of_half_range (d : Dev) (rts : Nat) (h1 : 1 ≤ d.rul.geo.lpf) (h2 : d.rul.geo.lpf ≤ 16383)
    (hline : bits rts 14 14 < d.rul.geo.lpf) (hfar : 2 ^ 31 ≤ framesAhead (bits rts 28 32) (bits d.now 28 32)) : d.quantumOfRts rts = d.q := by
  obtain ⟨-, -, hframe, -, -⟩ := d.rul.geo.bits_rts d.rul.epoch (d.rul.posAt d.q) h1 h2
  have hpast : ¬ 0 < d.rul.geo.distance (d.rul.posAt d.q) (d.rul.geo.pos rts) := by
    rw [d.rul.geo.distance_pos_iff h1 rfl, d.rul.geo.pos_div_frameSub hline, Geometry.frameSub, ← hframe]
    change 2 ^ 31 ≤ framesAhead _ (bits (d.rul.geo.rts d.rul.epoch (d.rul.posAt d.q)) 28 32) at hfar
    omega
  exact if_pos (not_lt.mp hpast)

/-! ## A line field that runs into the frame field -/

/-- A module at the start of line 32,768 of frame 0, with 40,000 lines per frame where R34 allows 16,383. The line does not fit the 14 bits
of its field, so the present RTS reads as line 0 of frame 2. -/
def longFrameDev : Dev :=
  let geo : Geometry := ⟨1, 1, 40000⟩
  { Dev.reset with q := 0, rul := { Rul.reset with geo := geo, anchorQ := 0, anchorAcc := 32768 * 16384 * geo.unit, slewPpm := 0 } }

/-- The RTS of the start of frame 1. -/
def frameOneRts : Nat := 1 * 2 ^ 28

/-- Read by its fields, the start of frame 1 lies 2^32 − 1 frames ahead of the present RTS. -/
theorem framesAhead_longFrameDev : framesAhead (bits frameOneRts 28 32) (bits longFrameDev.now 28 32) = 2 ^ 32 - 1 := by decide +kernel

/-- On the timeline it is still to come, after 7,232 of the frame's 40,000 lines. -/
theorem quantumOfRts_longFrameDev : longFrameDev.quantumOfRts frameOneRts = 144640000 := by decide +kernel

/-- Refutes O48: its second clause puts no upper bound on LPF. In `longFrameDev` the line overflows into the frame field of the present
RTS, and the start of the next frame, 144,640,000 quanta ahead, reads as 2^32 − 1 frames ahead and so as passed. Under the bound of R34
the clause holds (`Dev.quantumOfRts_of_half_range`), and the first clause holds as it stands (`Geometry.distance_pos_iff_later`). -/
theorem not_laterTimes : ¬ Obligations.LaterTimes := by
  rintro ⟨-, passed⟩
  have hfar : 2 ^ 31 ≤ framesAhead (bits frameOneRts 28 32) (bits longFrameDev.now 28 32) := by
    rw [framesAhead_longFrameDev]
    decide
  have hq : longFrameDev.quantumOfRts frameOneRts = 0 := passed longFrameDev frameOneRts (by decide) (by decide) hfar
  rw [quantumOfRts_longFrameDev] at hq
  exact absurd hq (by decide)

end Sys2Proof.Machine
end

section
/-! PROOFS. The watchdog of a paused priority (R116): a status bit that stands in a register stays set while an event is raised
(R441, R445, R469), and the pause that the watchdog reports stays in the table of pauses. -/

namespace Sys2Proof.Machine

/-! ## Bits of a register word -/

theorem bit_eq_testBit (n i : Nat) : bit n i = n.testBit i := by
  rw [bit, bits, Nat.testBit_eq_decide_div_mod_eq, pow_one, beq_eq_decide]

/-- Setting a bit is the disjunction with it: both leave the bits below `i` and make the number of whole `2 ^ i` odd. -/
theorem setBit_eq_or (n i : Nat) : setBit n i = n ||| 2 ^ i := by
  have hdiv : (n ||| 2 ^ i) / 2 ^ i = n / 2 ^ i - n / 2 ^ i % 2 + 1 := by
    have hodd : (n / 2 ^ i ||| 1) % 2 = 1 := Nat.or_mod_two_eq_one.mpr (.inr rfl)
    have hhalf : (n / 2 ^ i ||| 1) / 2 = n / 2 ^ i / 2 := by simp [Nat.or_div_two]
    rw [Nat.or_div_two_pow, Nat.div_self (Nat.two_pow_pos i)]
    omega
  have hmod : (n ||| 2 ^ i) % 2 ^ i = n % 2 ^ i := by simp [Nat.or_mod_two_pow]
  have hle : n / 2 ^ i % 2 * 2 ^ i ≤ n / 2 ^ i * 2 ^ i := Nat.mul_le_mul_right _ (Nat.mod_le _ 2)
  have hn := Nat.div_add_mod' n (2 ^ i)
  rw [← Nat.div_add_mod' (n ||| 2 ^ i) (2 ^ i), hdiv, hmod, Nat.add_mul, Nat.sub_mul]
  simp only [setBit, setBits, bits, pow_one]
  omega

theorem bit_setBit (n i j : Nat) : bit (setBit n i) j = (bit n j || decide (i = j)) := by
  rw [bit_eq_testBit, bit_eq_testBit, setBit_eq_or, Nat.testBit_or, Nat.testBit_two_pow]

/-! ## Flags after a write -/

theorem Dev.flag_setRaw_same (d : Dev) (k v i : Nat) (h : swf resetWord d.regs = true) :
    (d.setRaw k v).flag k i = (decide (i < 32) && bit v i) := by
  rw [Dev.flag, Dev.raw, Dev.setRaw_regs, sget_sput_same _ _ _ _ h, bit_eq_testBit, bit_eq_testBit, BitVec.toNat_ofNat,
    Nat.testBit_mod_two_pow]

theorem Dev.flag_setRaw_other (d : Dev) {k j : Nat} (v i : Nat) (h : k ≠ j) : (d.setRaw j v).flag k i = d.flag k i := by
  rw [Dev.flag, Dev.raw, Dev.setRaw_regs, sget_sput_other _ _ _ _ _ h]
  rfl

/-- A register has 32 bits. -/
theorem Dev.lt_of_flag {d : Dev} {k i : Nat} (h : d.flag k i = true) : i < 32 := by
  rw [Dev.flag, bit_eq_testBit] at h
  by_contra hi
  exact absurd (h.symm.trans (Nat.testBit_lt_two_pow (lt_of_lt_of_le (BitVec.isLt _) (Nat.pow_le_pow_right (by decide) (not_lt.mp hi)))))
    (by decide)

/-! ## A bit that stands -/

/-- Bit `i` of register `k` is set, in registers of canonical form. -/
structure Dev.Latched (d : Dev) (k i : Nat) : Prop where
  canonical : swf resetWord d.regs = true
  set : d.flag k i = true

/-- What leaves the registers as they are leaves the bit set. -/
theorem Dev.Latched.of_regs_eq {d e : Dev} {k i : Nat} (h : d.Latched k i) (he : e.regs = d.regs) : e.Latched k i := by
  refine ⟨he ▸ h.canonical, ?_⟩
  rw [Dev.flag, Dev.raw, he]
  exact h.set

/-- Setting a bit sets it. -/
theorem Dev.latched_setBit {d : Dev} (h : swf resetWord d.regs = true) (k : Nat) {i : Nat} (hi : i < 32) :
    (d.setRaw k (setBit (d.raw k) i)).Latched k i := by
  refine ⟨swf_sput _ _ _ _ h, ?_⟩
  simp [d.flag_setRaw_same k _ i h, bit_setBit, hi]

/-- A write of another register leaves a set bit set. -/
theorem Dev.Latched.setRaw_other {d : Dev} {k i : Nat} (h : d.Latched k i) {j : Nat} (v : Nat) (hj : k ≠ j) : (d.setRaw j v).Latched k i :=
  ⟨swf_sput _ _ _ _ h.canonical, (d.flag_setRaw_other v i hj).trans h.set⟩

/-- Setting any bit of any register leaves a set bit set. -/
theorem Dev.Latched.setBit {d : Dev} {k i : Nat} (h : d.Latched k i) (j n : Nat) : (d.setRaw j (setBit (d.raw j) n)).Latched k i := by
  by_cases hj : k = j
  · subst hj
    refine ⟨swf_sput _ _ _ _ h.canonical, ?_⟩
    have hbit : bit (d.raw k) i = true := h.set
    simp [d.flag_setRaw_same k _ i h.canonical, bit_setBit, hbit, Dev.lt_of_flag h.set]
  · exact h.setRaw_other _ hj

/-! ## Raising an event clears no bit

The registers that a raise writes other than by setting a bit are the two counts of what was dropped. -/

theorem Dev.msix_regs (d : Dev) (v : Nat) : (d.msix v).regs = d.regs := by
  unfold Dev.msix
  split
  · split <;> rfl
  · rfl

section
variable {d : Dev} {k i : Nat} (hpkt : k ≠ Reg.evtPktDrop) (hwbl : k ≠ Reg.wblDrop)

include hpkt in
theorem Dev.Latched.queueEvent (h : d.Latched k i) (e : QueuedEvent) (origin : Option Nat) : (d.queueEvent e origin).1.Latched k i := by
  have hs : ({ d with cp := { d.cp with sessions := (d.toSessions e origin).1 } } : Dev).Latched k i := h.of_regs_eq rfl
  unfold Dev.queueEvent
  dsimp only
  split
  · exact hs
  · exact hs.setRaw_other _ hpkt

include hwbl in
theorem Dev.Latched.recordRaise (h : d.Latched k i) (s : Nat) : (d.recordRaise s).1.Latched k i := by
  unfold Dev.recordRaise Dev.queueRecord
  split
  · split
    · exact h.setRaw_other _ hwbl
    · exact h.of_regs_eq rfl
  · exact h

include hpkt in
/-- A delivery keeps every bit that stands once the pending bit of its source is set. -/
theorem Dev.latched_deliver_of_pending {s : Nat}
    (h : (d.setRaw (Reg.evtPend + 4 * (s / 32)) (setBit (d.raw (Reg.evtPend + 4 * (s / 32))) (s % 32))).Latched k i)
    (livery : Option Nat) (longop : List Byte) (origin : Option Nat) : (d.deliver s livery longop origin).1.Latched k i := by
  unfold Dev.deliver
  dsimp only
  refine Dev.Latched.queueEvent hpkt ?_ _ _
  split
  · exact h.of_regs_eq rfl
  · exact h.of_regs_eq (Dev.msix_regs _ _)

include hpkt hwbl

theorem Dev.Latched.raiseQuiet (h : d.Latched k i) (s j n : Nat) : (d.raiseQuiet s j n).1.Latched k i := by
  unfold Dev.raiseQuiet
  split
  · exact h
  · exact (Dev.latched_deliver_of_pending hpkt ((h.setBit j n).setBit _ _) _ _ _).recordRaise hwbl s

/-- The rest of a raise keeps what its delivery leaves set. -/
theorem Dev.latched_raiseAll_of_deliver {s : Nat} {livery : Option Nat} {longop : List Byte} {origin : Option Nat}
    (h : (d.deliver s livery longop origin).1.Latched k i) : (d.raiseAll s livery longop origin).Latched k i := by
  have hrecord := h.recordRaise hwbl s
  unfold Dev.raiseAll
  dsimp only
  split <;> split
  · exact hrecord.raiseQuiet hpkt hwbl _ _ _
  · exact hrecord
  · exact (hrecord.raiseQuiet hpkt hwbl _ _ _).raiseQuiet hpkt hwbl _ _ _
  · exact hrecord.raiseQuiet hpkt hwbl _ _ _

/-- A bit that stands still stands after the raise of any source. -/
theorem Dev.Latched.raise (h : d.Latched k i) (s : Nat) : (d.raise s).Latched k i := by
  unfold Dev.raise Dev.raiseL
  split
  · split
    · exact h
    · exact Dev.latched_raiseAll_of_deliver hpkt hwbl (Dev.latched_deliver_of_pending hpkt ((h.setBit _ _).setBit _ _) _ _ _)
  · exact Dev.latched_raiseAll_of_deliver hpkt hwbl (Dev.latched_deliver_of_pending hpkt (h.setBit _ _) _ _ _)

end

/-- The raise of a source that no ERR bit gates sets its pending bit, which the rest of the raise keeps. -/
theorem Dev.latched_raise_pending {d : Dev} (h : swf resetWord d.regs = true) {s : Nat} (hs : errBit s = none)
    (hpkt : Reg.evtPend + 4 * (s / 32) ≠ Reg.evtPktDrop) (hwbl : Reg.evtPend + 4 * (s / 32) ≠ Reg.wblDrop) :
    (d.raise s).Latched (Reg.evtPend + 4 * (s / 32)) (s % 32) := by
  have hraise : d.raise s = d.raiseAll s none [] none := by rw [Dev.raise, Dev.raiseL, hs]
  rw [hraise]
  exact Dev.latched_raiseAll_of_deliver hpkt hwbl
    (Dev.latched_deliver_of_pending hpkt (Dev.latched_setBit h _ (Nat.mod_lt _ (by decide))) _ _ _)

theorem Dev.raise_q (d : Dev) (s : Nat) : (d.raise s).q = d.q := (congrArg Dev.q (d.raise_frame s)).symm

theorem Dev.raise_tpk (d : Dev) (s : Nat) : (d.raise s).tpk = d.tpk := (congrArg Dev.tpk (d.raise_frame s)).symm

/-! ## The watchdog -/

/-- A pause whose watchdog has run out, when it is the pause of this link and priority. -/
def Pause.bark (link prio : Nat) (x : Pause) : Pause := if x.link = link ∧ x.prio = prio then { x with barked := true } else x

@[simp] theorem Pause.bark_link (link prio : Nat) (x : Pause) : (x.bark link prio).link = x.link := by unfold Pause.bark; split <;> rfl

@[simp] theorem Pause.bark_prio (link prio : Nat) (x : Pause) : (x.bark link prio).prio = x.prio := by unfold Pause.bark; split <;> rfl

@[simp] theorem Pause.bark_until (link prio : Nat) (x : Pause) : (x.bark link prio).until_ = x.until_ := by unfold Pause.bark; split <;> rfl

/-- The module at quantum `t` in which the watchdog of a link and priority has set ETHn_ERR.PFC_WD, before it raises PFC_WATCHDOG. -/
def Dev.barked (d : Dev) (link prio t : Nat) : Dev :=
  ((d.upTo t).onTpk fun x => { x with pauses := x.pauses.map (Pause.bark link prio) }).setFld (ethReg Reg.ethErr (link / 8)) 9 1 1

/-- Of a priority that stays paused beyond WD, the watchdog is raised in the first quantum after WD. -/
theorem Dev.pfcBarks_of_paused {d : Dev} {link prio : Nat} {p : Pause} (hp : d.pause? link prio = some p) (hb : p.barked = false)
    (hdue : p.since + quantaMs (d.fld (ethReg Reg.ethPfcWd (link / 8)) 0 16) < p.until_) :
    d.pfcBarks link prio =
      (d.barked link prio (p.since + quantaMs (d.fld (ethReg Reg.ethPfcWd (link / 8)) 0 16) + 1)).raise 0x0ED := by
  unfold Dev.pfcBarks
  simp only [hp, hb, Bool.false_or, decide_eq_true_eq, not_le.mpr hdue, if_false]
  rfl

/-- The pause that the watchdog reports is still found, marked as reported. -/
theorem Dev.pause?_raise_barked (d : Dev) (link prio t s : Nat) :
    ((d.barked link prio t).raise s).pause? link prio = (d.pause? link prio).map (Pause.bark link prio) := by
  have hpauses : ((d.barked link prio t).raise s).tpk.pauses = d.tpk.pauses.map (Pause.bark link prio) :=
    congrArg Tpk.pauses (Dev.raise_tpk _ s)
  simp only [Dev.pause?, hpauses, List.find?_map, Function.comp_def, Pause.bark_link, Pause.bark_prio]

/-- The registers of the ports lie above those of the event controller and of Waybill. -/
theorem ne_ethReg_ethErr {k n : Nat} (h : k < Reg.ethErr) : ethReg Reg.ethErr n ≠ k :=
  (Nat.lt_of_lt_of_le h (Nat.le_add_right _ _)).ne'

/-- ETHn_ERR.PFC_WD is set. -/
theorem Dev.latched_barked {d : Dev} (h : swf resetWord d.regs = true) (link prio t : Nat) :
    (d.barked link prio t).Latched (ethReg Reg.ethErr (link / 8)) 9 :=
  Dev.latched_setBit (d := (d.upTo t).onTpk _) h _ (by decide)

/-- Besides what a raise may change, the watchdog changes the clock and the table of pauses. -/
theorem Dev.raise_barked_frame (d : Dev) (link prio t s : Nat) :
    let e := (d.barked link prio t).raise s
    e = { d.signalled e with q := e.q, tpk := { d.tpk with pauses := e.tpk.pauses } } := by
  refine ((d.barked link prio t).raise_frame s).symm.trans ?_
  rw [Dev.raise_q, Dev.raise_tpk]
  rfl

/-- Settles O59: the watchdog sets ETHn_ERR.PFC_WD and then raises its event, which clears no bit and leaves the pauses alone. -/
theorem watchdogKeepsPause : Obligations.WatchdogKeepsPause := by
  intro s link prio p hlink hprio hp hb hdue hregs
  have hexec : exec (.pfcWatchdog link prio) s = .next (s.becomes (s.toDev.pfcBarks link prio)) := by
    have hok : (wfLink link && wfPrio prio) = true := by simp [wfLink, wfPrio, hlink, hprio]
    exact if_pos hok
  rw [Dev.pfcBarks_of_paused hp hb hdue] at hexec
  generalize p.since + quantaMs (s.fld (ethReg Reg.ethPfcWd (link / 8)) 0 16) + 1 = t at hexec
  have herr : (s.barked link prio t).Latched (ethReg Reg.ethErr (link / 8)) 9 := Dev.latched_barked hregs link prio t
  have hpause : ((s.barked link prio t).raise 0x0ED).pause? link prio = some (p.bark link prio) := by
    rw [Dev.pause?_raise_barked, hp, Option.map_some]
  refine ⟨s.becomes ((s.barked link prio t).raise 0x0ED), hexec, ?_, ?_, ?_, s.raise_barked_frame link prio t 0x0ED⟩
  · exact (herr.raise (ne_ethReg_ethErr (by decide)) (ne_ethReg_ethErr (by decide)) 0x0ED).set
  · exact (Dev.latched_raise_pending herr.canonical (by decide) (by decide) (by decide)).set
  · exact (congrArg (Option.map Pause.until_) hpause).trans (congrArg some (p.bark_until link prio))

end Sys2Proof.Machine
end

section
/-! PROOFS. The generation of a livery (R215) and the checks that a request meets at it: STALE_GENERATION (R73 step 8) for another
generation than the livery's, and BUSY_FROZEN (R73 step 9, R219), a different status, for the livery's own. -/

namespace Sys2Proof.Machine

/-! ## The advance of a generation (R215) -/

theorem nextGeneration_of_lt {g : Nat} (h : g < 65535) : nextGeneration g = g + 1 := if_neg h.ne

theorem nextGeneration_last : nextGeneration 65535 = 1 := if_pos rfl

/-- An advance keeps a generation within 1 to 65,535. -/
theorem nextGeneration_bounds {g : Nat} (h : g ≤ 65535) : 1 ≤ nextGeneration g ∧ nextGeneration g ≤ 65535 := by
  rcases h.lt_or_eq with hlt | rfl
  · rw [nextGeneration_of_lt hlt]
    omega
  · rw [nextGeneration_last]
    decide

/-! ## The checks of generation and state (R73 steps 8 and 9) -/

/-- Check 8: a request that names a livery by another generation fails with STALE_GENERATION. -/
theorem Dev.stateFault_of_stale {d : Dev} {op generation n : Nat} (hop : op / 256 ≠ 0) (hg : generation ≠ d.generation n) :
    d.stateFault op generation n = some (0x8005, 0, 3) := if_pos ⟨hop, hg⟩

/-- Check 9: a request that names a livery by its own generation can fail with BUSY_FROZEN alone. -/
theorem Dev.status_of_stateFault_current {d : Dev} {op n : Nat} {f : Nat × Nat × Nat} (hf : d.stateFault op (d.generation n) n = some f) :
    f.1 = 0x8006 := by
  rw [Dev.stateFault, if_neg (fun h => h.2 rfl)] at hf
  split at hf
  case isTrue => cases hf
  case isFalse => split at hf <;> cases hf <;> rfl

/-- A request outside group 0x00 fails with STALE_GENERATION exactly when its generation is not its livery's. -/
theorem Dev.stateFault_stale_iff (d : Dev) {op : Nat} (generation n : Nat) (hop : op / 256 ≠ 0) :
    (∃ k, d.stateFault op generation n = some (0x8005, 0, k)) ↔ generation ≠ d.generation n := by
  constructor
  · rintro ⟨k, hk⟩ rfl
    have hstatus : 0x8005 = 0x8006 := Dev.status_of_stateFault_current hk
    exact absurd hstatus (by decide)
  · exact fun hg => ⟨3, Dev.stateFault_of_stale hop hg⟩

/-- Settles O50: the advance by its two cases, and the two checks told apart by their status. -/
theorem generationsAdvance : Obligations.GenerationsAdvance :=
  ⟨fun _ _ => nextGeneration_of_lt, nextGeneration_last, fun _ _ => nextGeneration_bounds,
    fun d _ generation n => d.stateFault_stale_iff generation n⟩

end Sys2Proof.Machine
end

section
/-! PROOFS. The home copies of a position of the Blotter (R292): the live members in ascending order, the member that takes each copy, and
why three copies that follow one another in that order meet three members. -/

namespace Sys2Proof.Machine

/-! ## The live members -/

/-- The live members stand in ascending member number, each once. -/
theorem Dev.liveMembers_pairwise_lt (d : Dev) : d.liveMembers.Pairwise (· < ·) := List.pairwise_lt_range.filter d.isLive

theorem Dev.liveMembers_nodup (d : Dev) : d.liveMembers.Nodup := d.liveMembers_pairwise_lt.nodup

theorem Dev.mem_liveMembers (d : Dev) (m : Nat) : m ∈ d.liveMembers ↔ m < d.members ∧ d.isLive m = true := by
  rw [Dev.liveMembers, List.mem_filter, List.mem_range]

/-! ## The members of a position's copies -/

/-- The member that the copy rule of R292 gives copy `c` of position `h`. -/
def Dev.copyMember (d : Dev) (h c : Nat) : Nat := d.liveMembers.getD ((3 * h + c) % d.liveMembers.length) 0

/-- With three live members or more a position has all three copies. -/
theorem Dev.copyMembers_eq_map (d : Dev) (h : Nat) (hn : 3 ≤ d.liveMembers.length) :
    d.copyMembers h = (List.range 3).map (d.copyMember h) := by
  simp only [Dev.copyMembers, min_eq_left hn, max_eq_left (show 1 ≤ d.liveMembers.length by omega)]
  rfl

/-- Copies whose numbers are below the number of live members go to distinct members: their offsets are distinct modulo it. -/
theorem Dev.copyMember_inj {d : Dev} {h c c' : Nat} (hc : c < d.liveMembers.length) (hc' : c' < d.liveMembers.length)
    (heq : d.copyMember h c = d.copyMember h c') : c = c' := by
  have hpos : 0 < d.liveMembers.length := by omega
  rw [Dev.copyMember, Dev.copyMember, List.getD_eq_getElem _ _ (Nat.mod_lt _ hpos), List.getD_eq_getElem _ _ (Nat.mod_lt _ hpos)] at heq
  have hmod : 3 * h + c ≡ 3 * h + c' [MOD d.liveMembers.length] := d.liveMembers_nodup.getElem_inj_iff.mp heq
  exact hmod.add_left_cancel'.eq_of_lt_of_lt hc hc'

/-- The three home copies lie on distinct members (R292). -/
theorem Dev.copyMembers_nodup (d : Dev) (h : Nat) (hn : 3 ≤ d.liveMembers.length) : (d.copyMembers h).Nodup := by
  rw [d.copyMembers_eq_map h hn]
  refine List.nodup_range.map_on fun c hc c' hc' => Dev.copyMember_inj ?_ ?_
  · exact (List.mem_range.mp hc).trans_le hn
  · exact (List.mem_range.mp hc').trans_le hn

/-- A position that is opened takes the head's number and the members of that moment, and each of them gets a write. -/
theorem Dev.openPosition_eq (d : Dev) (payload : Bool) :
    d.openPosition payload =
      ((d.onBlt fun b => { b with head := b.head + 1, positions := b.positions ++ [⟨b.head, payload, d.copyMembers b.head, [], d.q⟩] }).forEach
        (d.copyMembers d.blt.head) (fun e m => e.writeHome d.blt.head m), d.blt.head) := rfl

/-- Settles O53: the live members ascend, and three offsets smaller than their number are distinct modulo it. -/
theorem copiesOnDistinctMembers : Obligations.CopiesOnDistinctMembers :=
  fun d h hn => ⟨d.liveMembers_pairwise_lt, d.mem_liveMembers, d.copyMembers_eq_map h hn, d.copyMembers_nodup h hn, d.openPosition_eq⟩

end Sys2Proof.Machine
end

section
/-! PROOFS. Steps and the queue: every meaning is one of the frames of Laws/Run.lean, so it answers a next state exactly for the commands that
`Instr.wf` admits, and it changes the module alone; with it, what a step does with the queue, and the state that reset leaves. -/

namespace Sys2Proof.Machine

/-! ## What a command answers -/

/-- What every meaning answers once its frame is unfolded: a command that its check `ok` admits makes the module `d`. -/
abbrev State.answer (s : State) (ok : Bool) (d : Dev) : Host.Outcome State Fault Refusal :=
  if ok then .next { s with toDev := d } else .fault .noSuchCommand

theorem State.answer_served (s : State) (ok : Bool) (d : Dev) :
    (ok = false → s.answer ok d = .fault .noSuchCommand) ∧ (ok = true → ∃ e, s.answer ok d = .next (s.becomes e)) :=
  ⟨fun h => if_neg (by simp [h]), fun h => ⟨d, if_pos h⟩⟩

/-- Settles O40: each meaning unfolds to such an answer with the check of `Instr.wf`. -/
theorem everyCommandIsServed : Obligations.EveryCommandIsServed := by
  intro c s
  cases c <;> exact State.answer_served s _ _

/-! ## What a step does with the queue -/

/-- Settles O38: the front command is the one that a step runs, by definition. -/
theorem stepRunsFront : Obligations.StepRunsFront := fun _ _ _ => rfl

/-- Settles O39: on an empty queue a step is `Dev.idle`. -/
theorem emptyQueuePassesTime : Obligations.EmptyQueuePassesTime := fun _ => rfl

/-- Settles O41: on an empty queue time passes, and a front command that can reach the module is served and leaves the rest waiting. -/
theorem queueStaysServed : Obligations.QueueStaysServed := by
  rintro ⟨d, queue⟩ hs
  cases queue with
  | nil => exact ⟨_, emptyQueuePassesTime d, rfl, hs⟩
  | cons c rest =>
    have hwf : c.wf = true ∧ ∀ x ∈ rest, x.wf = true := List.forall_mem_cons.mp hs
    obtain ⟨e, he⟩ := (everyCommandIsServed c ⟨d, rest⟩).2 hwf.1
    exact ⟨_, (stepRunsFront c rest d).trans he, rfl, hwf.2⟩

/-! ## Reset -/

/-- Settles O42: reset lists no register, counter or byte, so each reads as its table gives it. -/
theorem resetState : Obligations.ResetState :=
  ⟨rfl, fun _ h => (List.not_mem_nil h).elim, rfl, rfl, fun _ => ⟨rfl, rfl⟩, rfl, fun _ _ _ => rfl, fun _ => rfl, by decide +kernel⟩

end Sys2Proof.Machine
end

section
/-! PROOFS. Operands and numbers: value fields and their clamps (R85, R86), step cookies (R91) and Inkwell keys (R162). -/

namespace Sys2Proof.Machine

/-! ## Value fields (R85, R86) -/

section
variable (p : List Byte) (off bt width : Nat) {lo hi : Nat}

theorem clampParam_of_lt (h : paramBits p off bt width < lo) :
    clampParam p off bt width lo hi = (lo, [⟨off, bt, width, 1, paramBits p off bt width, lo⟩]) := if_pos h

theorem clampParam_of_mem (hlo : lo ≤ paramBits p off bt width) (hhi : paramBits p off bt width ≤ hi) :
    clampParam p off bt width lo hi = (paramBits p off bt width, []) :=
  (if_neg (not_lt.mpr hlo)).trans (if_neg (not_lt.mpr hhi))

theorem clampParam_of_gt (hle : lo ≤ hi) (h : hi < paramBits p off bt width) :
    clampParam p off bt width lo hi = (hi, [⟨off, bt, width, 2, paramBits p off bt width, hi⟩]) :=
  (if_neg (not_lt.mpr (hle.trans h.le))).trans (if_pos h)

theorem clampParam_bounds (hle : lo ≤ hi) : lo ≤ (clampParam p off bt width lo hi).1 ∧ (clampParam p off bt width lo hi).1 ≤ hi := by
  rcases lt_or_ge (paramBits p off bt width) lo with hlo | hlo
  · rw [clampParam_of_lt p off bt width hlo]
    exact ⟨le_rfl, hle⟩
  rcases lt_or_ge hi (paramBits p off bt width) with hhi | hhi
  · rw [clampParam_of_gt p off bt width hle hhi]
    exact ⟨hle, le_rfl⟩
  · rw [clampParam_of_mem p off bt width hlo hhi]
    exact ⟨hlo, hhi⟩

end

/-- Settles O46: below, within and above its range a field is clamped as one of three equations says. -/
theorem fieldsAreClamped : Obligations.FieldsAreClamped := fun p off bt width _ _ hle =>
  have hbounds := clampParam_bounds p off bt width hle
  ⟨hbounds.1, hbounds.2, clampParam_of_mem p off bt width, clampParam_of_lt p off bt width, clampParam_of_gt p off bt width hle⟩

/-! ## Cookies and keys (R91, R162) -/

/-- The fields of a cookie do not run into each other. -/
theorem LongOp.cookie_fields (l : LongOp) (h : l.slot < 256) :
    l.cookie < 2 ^ 32 ∧ bits l.cookie 24 8 = l.slot ∧ bits l.cookie 16 8 = l.use % 256 ∧ bits l.cookie 0 16 = l.step % 65536 := by
  simp only [LongOp.cookie, bits]
  omega

/-- The index and the tag of a 32-bit key are its upper 24 bits and its low byte. -/
theorem bits_of_key {key : Nat} (h : key < 2 ^ 32) : bits key 8 24 = key / 256 ∧ bits key 0 8 = key % 256 := by
  simp only [bits]
  omega

theorem Dev.inkAt_eq_some_iff (d : Dev) (key : Nat) (k : Inkwell) :
    d.inkAt key = some k ↔ d.inkOf (key / 256) = some k ∧ d.tagOf (key / 256) = key % 256 := by
  rw [Dev.inkAt]
  split <;> simp [*]

/-- Settles O47: the parts of a cookie and of a key are read back from their fields. -/
theorem cookiesAndKeys : Obligations.CookiesAndKeys := by
  refine ⟨LongOp.cookie_fields, fun d key k h => ?_⟩
  rw [(bits_of_key h).1, (bits_of_key h).2]
  exact d.inkAt_eq_some_iff key k

end Sys2Proof.Machine
end

section
/-! PROOFS. The latency monitors: the bin that a sample falls into and what it does to a monitor (R455), and what the monitor registers copy and
clear (R456). -/

namespace Sys2Proof.Machine

/-! ## The bins (R455) -/

/-- With fuel for every bit, `log2` is the library's binary logarithm. -/
theorem log2_eq_log {fuel n : Nat} (h : n < 2 ^ (fuel + 1)) : log2 fuel n = Nat.log 2 n := by
  induction fuel generalizing n with
  | zero => exact (Nat.log_of_lt h).symm
  | succ fuel ih =>
    rw [log2]
    split
    case isTrue hn => exact (Nat.log_of_lt hn).symm
    case isFalse hn =>
      have hhalf : n / 2 < 2 ^ (fuel + 1) := by omega
      rw [ih hhalf, Nat.log_of_one_lt_of_le (by decide) (not_lt.mp hn), Nat.add_comm]

/-- The bin of a sample: 0 for 0, else one more than its binary logarithm, at most 31. -/
def sampleBin (v : Nat) : Nat := if v = 0 then 0 else Nat.min 31 (log2 33 v + 1)

/-- Bins 1 to 30 take the samples from `2 ^ (k - 1)` to below `2 ^ k`, and bin 31 those from `2 ^ 30` on. -/
theorem sampleBin_eq {k v : Nat} (hv : v ≤ 0xFFFFFFFF) (hk : 1 ≤ k) (hk' : k ≤ 31) (hlo : 2 ^ (k - 1) ≤ v) (hhi : v < 2 ^ k ∨ k = 31) :
    sampleBin v = k := by
  have hpos : v ≠ 0 := (Nat.two_pow_pos (k - 1)).trans_le hlo |>.ne'
  have hlog : log2 33 v = Nat.log 2 v := log2_eq_log (by omega)
  have hle : k - 1 ≤ Nat.log 2 v := Nat.le_log_of_pow_le (by decide) hlo
  rw [sampleBin, if_neg hpos, hlog]
  rcases hhi with hhi | rfl
  · have hlt : Nat.log 2 v < k := Nat.log_lt_of_lt_pow hpos hhi
    rw [show Nat.log 2 v + 1 = k by omega]
    exact min_eq_right hk'
  · exact min_eq_left (by omega)

/-- A sample of at most 32 bits counts in its bin, and in the monitor's minimum, maximum, count and sum. -/
theorem Monitor.sample_eq (m : Monitor) {v : Nat} (hv : v ≤ 0xFFFFFFFF) :
    (m.sample v).1 =
      { min := Nat.min m.min v, max := Nat.max m.max v, count := Nat.min (m.count + 1) (2 ^ 64 - 1), sum := Nat.min (m.sum + v) (2 ^ 64 - 1),
        bins := sput (fun _ => 0) m.bins (sampleBin v) (Nat.min (sget (fun _ => 0) m.bins (sampleBin v) + 1) 0xFFFFFFFF) } := by
  have hmin : Nat.min v 0xFFFFFFFF = v := min_eq_left hv
  simp only [Monitor.sample, hmin]
  rfl

theorem Monitor.sget_sample_bins_same (m : Monitor) {v : Nat} (hv : v ≤ 0xFFFFFFFF) (hb : swf (fun _ => 0) m.bins = true) :
    sget (fun _ => 0) (m.sample v).1.bins (sampleBin v) = Nat.min (sget (fun _ => 0) m.bins (sampleBin v) + 1) 0xFFFFFFFF := by
  rw [m.sample_eq hv]
  exact sget_sput_same _ _ _ _ hb

theorem Monitor.sget_sample_bins_other (m : Monitor) {v j : Nat} (hv : v ≤ 0xFFFFFFFF) (hj : j ≠ sampleBin v) :
    sget (fun _ => 0) (m.sample v).1.bins j = sget (fun _ => 0) m.bins j := by
  rw [m.sample_eq hv]
  exact sget_sput_other _ _ _ _ _ hj

/-- Settles O57: the sample's bin is the one that its clause names, and no other bin counts it. -/
theorem monitorTakesSample : Obligations.MonitorTakesSample := by
  refine ⟨fun m v hv hb => ?_, rfl, rfl, rfl, rfl, fun _ => rfl⟩
  have hsame := m.sget_sample_bins_same hv hb
  have hother := fun j => m.sget_sample_bins_other (j := j) hv
  refine ⟨congrArg Monitor.min (m.sample_eq hv), congrArg Monitor.max (m.sample_eq hv), congrArg Monitor.count (m.sample_eq hv),
    congrArg Monitor.sum (m.sample_eq hv), ?_, fun k hk hk' hrange => ?_⟩
  · rintro rfl
    exact hsame
  · rw [sampleBin_eq hv hk hk' hrange.1 hrange.2] at hsame hother
    exact ⟨hsame, hother⟩

/-! ## The monitor registers (R456) -/

theorem Dev.monitor_clearMonitor_same (d : Dev) (i : Nat) (h : swf monitorDflt d.lmon.mons = true) :
    (d.clearMonitor i).monitor i = Monitor.cleared := sget_sput_same _ _ _ _ h

theorem Dev.monitor_clearMonitor_other (d : Dev) {i j : Nat} (h : j ≠ i) : (d.clearMonitor i).monitor j = d.monitor j :=
  sget_sput_other _ _ _ _ _ h

/-- A clear changes the monitors alone. -/
theorem Dev.clearMonitor_frame (d : Dev) (i : Nat) : d.clearMonitor i = { d with lmon := (d.clearMonitor i).lmon } := rfl

/-- Settles O58: each row is an update of the monitors, of their read registers, or of a register. -/
theorem monitorRegisterRows : Obligations.MonitorRegisterRows := by
  intro s m v hs
  refine ⟨⟨_, rfl, rfl, fun _ => rfl, rfl⟩, ⟨_, rfl, ?_, ?_, rfl⟩, ⟨_, rfl, fun _ => rfl, rfl⟩, ⟨_, rfl, ?_, ?_, rfl⟩⟩
  · exact s.monitor_clearMonitor_same _ hs
  · exact fun j => s.monitor_clearMonitor_other
  · exact Dev.monitor_clearMonitor_same (s.setRaw _ _) _ hs
  · exact fun j => Dev.monitor_clearMonitor_other (s.setRaw _ _)

end Sys2Proof.Machine
end

section
/-! PROOFS. Requests as bytes (R6, R64): little-endian fields are read back where they stand, and so is every field of a request's header. -/

namespace Sys2Proof.Machine

/-! ## Little-endian fields (R6) -/

@[simp] theorem length_leBytes (k n : Nat) : (leBytes k n).length = k := by
  induction k generalizing n with
  | zero => rfl
  | succ k ih => simp [leBytes, ih]

theorem leNat_leBytes {k n : Nat} (h : n < 256 ^ k) : leNat (leBytes k n) = n := by
  induction k generalizing n with
  | zero => simp at h; simp [h, leBytes, leNat]
  | succ k ih =>
    have hq : n / 256 < 256 ^ k := Nat.div_lt_of_lt_mul (by rwa [Nat.pow_succ'] at h)
    rw [leBytes, leNat, ih hq, BitVec.toNat_ofNat]
    omega

/-- A field beyond a first byte is a field of what follows. -/
theorem fieldAt_cons (x : Byte) (r : List Byte) {off : Nat} (k : Nat) (h : 1 ≤ off) : fieldAt (x :: r) off k = fieldAt r (off - 1) k := by
  obtain ⟨off, rfl⟩ := Nat.exists_eq_add_of_le' h
  rfl

/-- A field beyond the bytes of a number is a field of what follows. -/
theorem fieldAt_append (j n : Nat) (r : List Byte) {off : Nat} (k : Nat) (h : j ≤ off) :
    fieldAt (leBytes j n ++ r) off k = fieldAt r (off - j) k := by
  rw [fieldAt, fieldAt, List.drop_append, List.drop_of_length_le (by simpa using h), length_leBytes, List.nil_append]

/-- A number that fits its bytes is read back from where they stand. -/
theorem fieldAt_leBytes (r : List Byte) {k n : Nat} (h : n < 256 ^ k) : fieldAt (leBytes k n ++ r) 0 k = n := by
  rw [fieldAt, List.drop_zero, List.take_left' (length_leBytes k n), leNat_leBytes h]

theorem length_fit (k : Nat) (l : List Byte) : (fit k l).length = k := by
  simp [fit]

/-! ## The header of a request (R64) -/

/-- The 28 bytes of a request's header before its CRC. -/
def packetHead (op : Nat) (p : Packet) : List Byte :=
  [p.version, p.flags] ++ leBytes 2 op ++ leBytes 4 p.tag ++ leBytes 3 p.pid ++ leBytes 1 p.livery ++ leBytes 2 p.generation
    ++ leBytes 2 p.plen ++ leBytes 8 p.due ++ leBytes 4 p.reserved

theorem length_packetHead (op : Nat) (p : Packet) : (packetHead op p).length = 28 := by simp [packetHead]

theorem packetBytes_eq (op : Nat) (p : Packet) : packetBytes op p = packetHead op p ++ (leBytes 4 0 ++ fit (8 * p.plen) p.params) := by
  simp [packetBytes, packetHead]

/-- The bytes of a request on the wire: its header with the CRC that it carries, and its parameter area. -/
def packetWire (op : Nat) (p : Packet) : List Byte := packetHead op p ++ (leBytes 4 p.crc.toNat ++ fit (8 * p.plen) p.params)

theorem packetWire_eq (op : Nat) (p : Packet) :
    (packetBytes op p).take 28 ++ leBytes 4 p.crc.toNat ++ (packetBytes op p).drop 32 = packetWire op p := by
  have hdrop : (packetBytes op p).drop 32 = fit (8 * p.plen) p.params := by
    rw [packetBytes_eq, ← List.append_assoc, List.drop_left' (by simp [length_packetHead])]
  rw [hdrop, packetBytes_eq, List.take_left' (length_packetHead op p), packetWire, List.append_assoc]

theorem length_packetWire (op : Nat) (p : Packet) : (packetWire op p).length = 32 + 8 * p.plen := by
  simp [packetWire, length_packetHead, length_fit]
  omega

theorem drop_packetWire (op : Nat) (p : Packet) : (packetWire op p).drop 32 = fit (8 * p.plen) p.params := by
  rw [packetWire, ← List.append_assoc, List.drop_left' (by simp [length_packetHead])]

/-- Each number of the header stands at its offset of R64. -/
theorem fieldAt_packetWire {op : Nat} {p : Packet} (hop : op < 65536) (hp : p.wf = true) :
    fieldAt (packetWire op p) 2 2 = op ∧ fieldAt (packetWire op p) 4 4 = p.tag ∧ fieldAt (packetWire op p) 8 3 = p.pid ∧
    fieldAt (packetWire op p) 11 1 = p.livery ∧ fieldAt (packetWire op p) 12 2 = p.generation ∧ fieldAt (packetWire op p) 14 2 = p.plen ∧
    fieldAt (packetWire op p) 16 8 = p.due ∧ fieldAt (packetWire op p) 24 4 = p.reserved ∧ fieldAt (packetWire op p) 28 4 = p.crc.toNat := by
  simp only [Packet.wf, Bool.and_eq_true, decide_eq_true_eq] at hp
  obtain ⟨⟨⟨⟨⟨⟨⟨⟨⟨-, -⟩, htag⟩, hpid⟩, hlivery⟩, hgeneration⟩, hplen⟩, hdue⟩, hreserved⟩, -⟩ := hp
  have hcrc : p.crc.toNat < 2 ^ 32 := p.crc.isLt
  simp (disch := omega) only [packetWire, packetHead, List.append_assoc, List.cons_append, List.nil_append, fieldAt_cons, fieldAt_append,
    fieldAt_leBytes, Nat.reduceSub, and_self]

/-- Settles O43: the wire's bytes give each field of the header at its offset, and the parameter area after them. -/
theorem requestBytesReadBack : Obligations.RequestBytesReadBack := by
  intro op p hop hp
  rw [packetWire_eq]
  refine ⟨length_packetWire op p, ?_⟩
  obtain ⟨h2, h4, h8, h11, h12, h14, h16, h24, h28⟩ := fieldAt_packetWire hop hp
  rw [packetOf, h2, h4, h8, h11, h12, h14, h16, h24, h28, drop_packetWire, List.take_of_length_le (length_fit _ _).le,
    BitVec.ofNat_toNat, BitVec.setWidth_eq]
  rfl

end Sys2Proof.Machine
end

section
/-! PROOFS. The layout table (R238, R239): every row of a period is a permutation of the members, the straddle repair keeps the stripe that two
rows share on distinct members, and so the strips of every physical stripe lie on distinct members. -/

namespace Sys2Proof.Machine

/-! ## Exchanges -/

theorem swapAt_eq_swap (a : Array Nat) {i k : Nat} (hi : i < a.size) (hk : k < a.size) : swapAt a i k = a.swap i k := by
  simp [swapAt, Array.swap, Array.setIfInBounds, hi, hk]

theorem swapAt_perm (a : Array Nat) {i k : Nat} (hi : i < a.size) (hk : k < a.size) : (swapAt a i k).toList.Perm a.toList := by
  rw [swapAt_eq_swap a hi hk]
  exact Array.perm_iff_toList_perm.mp (Array.swap_perm hi hk)

theorem getD_swapAt_left (a : Array Nat) {i k : Nat} (hi : i < a.size) (hk : k < a.size) : (swapAt a i k).getD i 0 = a.getD k 0 := by
  simp [swapAt_eq_swap a hi hk, hi, hk]

theorem getD_swapAt_other (a : Array Nat) {i k j : Nat} (hi : j ≠ i) (hk : j ≠ k) : (swapAt a i k).getD j 0 = a.getD j 0 := by
  simp [swapAt, hi.symm, hk.symm]

/-! ## Rows -/

/-- A row lists every member once. -/
abbrev RowOf (n : Nat) (a : Array Nat) : Prop := a.toList.Perm (List.range n)

theorem RowOf.size_eq {n : Nat} {a : Array Nat} (h : RowOf n a) : a.size = n := by
  simpa using h.length_eq

theorem RowOf.swapAt {n : Nat} {a : Array Nat} (h : RowOf n a) {i k : Nat} (hi : i < n) (hk : k < n) : RowOf n (swapAt a i k) :=
  (swapAt_perm a (h.size_eq ▸ hi) (h.size_eq ▸ hk)).trans h

/-- Distinct columns of a row hold distinct members. -/
theorem RowOf.getD_inj {n : Nat} {a : Array Nat} (h : RowOf n a) {c c' : Nat} (hc : c < n) (hc' : c' < n) (heq : a.getD c 0 = a.getD c' 0) :
    c = c' := by
  have hnd : a.toList.Nodup := h.nodup_iff.mpr List.nodup_range
  have hsize : a.toList.length = n := h.size_eq
  refine (List.Nodup.getElem_inj_iff hnd (hi := hsize ▸ hc) (hj := hsize ▸ hc')).mp ?_
  simpa [h.size_eq, hc, hc'] using heq

/-- The member at a column from `n - q` on is one of the last `q` of its row. -/
theorem RowOf.getD_mem_drop {n : Nat} {a : Array Nat} (h : RowOf n a) {k c : Nat} (hk : k ≤ c) (hc : c < n) : a.getD c 0 ∈ a.toList.drop k := by
  have hsize := h.size_eq
  rw [List.mem_drop_iff_getElem]
  refine ⟨c - k, by simp; omega, ?_⟩
  simp [Nat.add_sub_cancel' hk, hsize, hc]

/-! ## A drawn row -/

theorem below_lt {n : Nat} (hn : 0 < n) (fuel s : Nat) : (below n fuel s).1 < n := by
  induction fuel generalizing s with
  | zero => exact hn
  | succ fuel ih =>
    simp only [below]
    split
    · exact Nat.mod_lt _ hn
    · exact ih _

/-- Fisher-Yates exchanges entries of the members in their order. -/
theorem drawPerm_rowOf (n s : Nat) : RowOf n (drawPerm n s).1 := by
  refine List.foldlRecOn (motive := fun p : Array Nat × Nat => RowOf n p.1) _ _ (by simp [RowOf]) fun p hp h hh => ?_
  have hlt : h < n - 1 := List.mem_range.mp hh
  have hbelow := below_lt (n := n - 1 - h + 1) (by omega) 256 p.2
  exact hp.swapAt (by omega) (by omega)

/-! ## The straddle repair -/

/-- One step of the repair: a member of the straddling stripe leaves place `x` for one behind place `p`. -/
def repairStep (prev : List Nat) (p n : Nat) (a : Array Nat) (x : Nat) : Array Nat :=
  if prev.contains (a.getD x 0) then
    match (List.range' p (n - p)).find? fun y => !(prev.contains (a.getD y 0)) with
    | some y => swapAt a x y
    | none => a
  else a

theorem repairRow_eq (prev : List Nat) (p n : Nat) (perm : Array Nat) : repairRow prev p n perm = (List.range p).foldl (repairStep prev p n) perm := rfl

/-- A member of the stripe among the first `p` leaves fewer of its members behind place `p` than there are places. -/
theorem exists_place {prev : List Nat} {p n x : Nat} {a : Array Nat} (h : RowOf n a) (hlen : prev.length ≤ n - p) (hx : x < p) (hp : p ≤ n)
    (hmem : a.getD x 0 ∈ prev) : ∃ y ∈ List.range' p (n - p), a.getD y 0 ∉ prev := by
  by_contra! hall
  have hlt : ∀ y ∈ x :: List.range' p (n - p), y < n := by
    simp only [List.mem_cons, List.mem_range'_1]
    omega
  have hx' : x ∉ List.range' p (n - p) := by
    simp only [List.mem_range'_1]
    omega
  have hnd : ((x :: List.range' p (n - p)).map fun y => a.getD y 0).Nodup :=
    (List.nodup_cons.mpr ⟨hx', List.nodup_range'⟩).map_on fun y hy z hz => h.getD_inj (hlt y hy) (hlt z hz)
  have hsub : ((x :: List.range' p (n - p)).map fun y => a.getD y 0) ⊆ prev := by
    rw [List.map_cons]
    exact List.cons_subset.mpr ⟨hmem, List.forall_mem_map.mpr hall⟩
  have hle := (hnd.subperm hsub).length_le
  simp at hle
  omega

theorem repairStep_spec {prev : List Nat} {p n x : Nat} {a : Array Nat} (h : RowOf n a) (hlen : prev.length ≤ n - p) (hx : x < p) (hp : p ≤ n) :
    RowOf n (repairStep prev p n a x) ∧ (repairStep prev p n a x).getD x 0 ∉ prev ∧
    ∀ j, j < p → j ≠ x → (repairStep prev p n a x).getD j 0 = a.getD j 0 := by
  rw [repairStep]
  split
  case isFalse hout => exact ⟨h, by simpa using hout, fun _ _ _ => rfl⟩
  case isTrue hmem =>
    obtain ⟨z, hz, hzout⟩ := exists_place h hlen hx hp (by simpa using hmem)
    obtain ⟨y, hy⟩ : ∃ y, (List.range' p (n - p)).find? (fun y => !(prev.contains (a.getD y 0))) = some y :=
      Option.isSome_iff_exists.mp (List.find?_isSome.mpr ⟨z, hz, by simpa using hzout⟩)
    have hyout : a.getD y 0 ∉ prev := by simpa using List.find?_some hy
    have hyin := List.mem_range'_1.mp (List.mem_of_find?_eq_some hy)
    have hxn : x < n := by omega
    have hyn : y < n := by omega
    rw [hy]
    refine ⟨h.swapAt hxn hyn, ?_, fun j hj hjx => getD_swapAt_other a hjx (by omega)⟩
    rwa [getD_swapAt_left a (h.size_eq ▸ hxn) (h.size_eq ▸ hyn)]

/-- The repair keeps the row a row, and no member of the straddling stripe is left among its first `p`. -/
theorem repairRow_spec {prev : List Nat} {p n : Nat} {a : Array Nat} (h : RowOf n a) (hlen : prev.length ≤ n - p) (hp : p ≤ n) :
    RowOf n (repairRow prev p n a) ∧ ∀ x, x < p → (repairRow prev p n a).getD x 0 ∉ prev := by
  rw [repairRow_eq]
  suffices hk : ∀ k, k ≤ p → RowOf n ((List.range k).foldl (repairStep prev p n) a) ∧
      ∀ x, x < k → ((List.range k).foldl (repairStep prev p n) a).getD x 0 ∉ prev from hk p le_rfl
  intro k
  induction k with
  | zero => exact fun _ => ⟨h, fun x hx => absurd hx (Nat.not_lt_zero x)⟩
  | succ k ih =>
    intro hk
    obtain ⟨hrow, hout⟩ := ih (by omega)
    obtain ⟨hrow', hnew, hkeep⟩ := repairStep_spec (x := k) hrow hlen (by omega) hp
    rw [List.range_succ, List.foldl_append]
    refine ⟨hrow', fun x hx => ?_⟩
    rcases Nat.lt_succ_iff_lt_or_eq.mp hx with hlt | rfl
    · exact (hkeep x (by omega) hlt.ne).symm ▸ hout x hlt
    · exact hnew

/-! ## The rows of a period -/

/-- The places of row `r` that a stripe begun in the row before it has filled there: none when a stripe ends with that row. -/
abbrev carried (n w r : Nat) : Nat := r * n % w

/-- The rows list every member once each, and the stripe that straddles two rows meets no member twice. -/
structure PeriodRows (n w : Nat) (rows : List (Array Nat)) : Prop where
  row : ∀ a ∈ rows, RowOf n a
  apart : ∀ r, r + 1 < rows.length → 0 < carried n w (r + 1) → ∀ x, x < w - carried n w (r + 1) →
    (rows.getD (r + 1) #[]).getD x 0 ∉ (rows.getD r #[]).toList.drop (n - carried n w (r + 1))

theorem PeriodRows.concat {n w : Nat} {rows : List (Array Nat)} {row : Array Nat} (h : PeriodRows n w rows) (hrow : RowOf n row)
    (hapart : ∀ r, rows.length = r + 1 → 0 < carried n w (r + 1) → ∀ x, x < w - carried n w (r + 1) →
      row.getD x 0 ∉ (rows.getD r #[]).toList.drop (n - carried n w (r + 1))) : PeriodRows n w (rows ++ [row]) := by
  refine ⟨fun a ha => ?_, fun r hr hq x hx => ?_⟩
  · rcases List.mem_append.mp ha with ha | ha
    · exact h.row a ha
    · exact List.mem_singleton.mp ha ▸ hrow
  · rw [List.length_append, List.length_singleton] at hr
    rw [List.getD_append _ _ _ _ (show r < rows.length by omega)]
    rcases Nat.lt_or_ge (r + 1) rows.length with hlt | hge
    · rw [List.getD_append _ _ _ _ hlt]
      exact h.apart r hlt hq x hx
    · have hlast : rows.length = r + 1 := by omega
      rw [List.getD_append_right _ _ _ _ hge, hlast, Nat.sub_self]
      exact hapart r hlast hq x hx

/-- Row `r` of a period, which follows `rows`: drawn by the generator in state `s`, and repaired when a stripe straddles into it. -/
def nextRow (n w : Nat) (rows : List (Array Nat)) (s r : Nat) : Array Nat :=
  let prev := ((rows.getLast?.map Array.toList).getD []).drop (n - carried n w r)
  if 0 < r ∧ 0 < carried n w r then repairRow prev (w - carried n w r) n (drawPerm n s).1 else (drawPerm n s).1

theorem makePeriod_eq (n w s : Nat) :
    makePeriod n w s = (List.range w).foldl (fun acc r => (acc.1 ++ [nextRow n w acc.1 acc.2 r], (drawPerm n acc.2).2)) ([], s) := rfl

theorem PeriodRows.nextRow {n w r : Nat} {rows : List (Array Nat)} (h : PeriodRows n w rows) (hw : 1 ≤ w) (hwn : w ≤ n) (s : Nat)
    (hlen : rows.length = r) : PeriodRows n w (rows ++ [nextRow n w rows s r]) := by
  have hq : carried n w r < w := Nat.mod_lt _ hw
  have hdraw := drawPerm_rowOf n s
  by_cases hstraddle : 0 < r ∧ 0 < carried n w r
  case neg =>
    rw [Machine.nextRow, if_neg hstraddle]
    refine h.concat hdraw fun k hk hcarry => absurd ⟨?_, ?_⟩ hstraddle
    · omega
    · rwa [hlen.symm.trans hk]
  case pos =>
    obtain ⟨k, rfl⟩ := Nat.exists_eq_add_of_lt hstraddle.1
    rw [Nat.zero_add] at *
    have hk : k < rows.length := by omega
    have hlast : (rows.getLast?.map Array.toList).getD [] = (rows.getD k #[]).toList := by
      simp [List.getLast?_eq_getElem?, hlen]
    have hprev := h.row _ (List.getElem_mem hk)
    have hlength : ((rows.getD k #[]).toList.drop (n - carried n w (k + 1))).length = carried n w (k + 1) := by
      rw [List.getD_eq_getElem _ _ hk, List.length_drop, Array.length_toList, hprev.size_eq]
      omega
    rw [Machine.nextRow, if_pos hstraddle, hlast]
    obtain ⟨hrow, hout⟩ := repairRow_spec (prev := (rows.getD k #[]).toList.drop (n - carried n w (k + 1))) (p := w - carried n w (k + 1)) hdraw
      (by omega) (by omega)
    refine h.concat hrow fun r hr _ x hx => ?_
    obtain rfl : r = k := by omega
    exact hout x hx

/-- A period has W rows. -/
theorem makePeriod_rows {n w : Nat} (s : Nat) (hw : 1 ≤ w) (hwn : w ≤ n) :
    (makePeriod n w s).1.length = w ∧ PeriodRows n w (makePeriod n w s).1 := by
  rw [makePeriod_eq]
  generalize hstep : (fun (acc : List (Array Nat) × Nat) r => (acc.1 ++ [nextRow n w acc.1 acc.2 r], (drawPerm n acc.2).2)) = step
  suffices hk : ∀ k, ((List.range k).foldl step ([], s)).1.length = k ∧ PeriodRows n w ((List.range k).foldl step ([], s)).1 from hk w
  intro k
  induction k with
  | zero => exact ⟨rfl, by simp, by simp⟩
  | succ k ih =>
    rw [List.range_succ, List.foldl_append, ← hstep, List.foldl_cons, List.foldl_nil, hstep]
    exact ⟨by simp [ih.1], ih.2.nextRow hw hwn _ ih.1⟩

/-! ## The stripes of a period -/

/-- The member at place `s` of the rows laid end to end. -/
abbrev placeMember (n : Nat) (rows : List (Array Nat)) (s : Nat) : Nat := (rows.getD (s / n) #[]).getD (s % n) 0

/-- The strips of stripe `j` lie on distinct members: those in one row are entries of a permutation, and those behind the end of a row avoid the
members before it. -/
theorem PeriodRows.stripe_ne {n w : Nat} {rows : List (Array Nat)} (h : PeriodRows n w rows) (hlen : rows.length = w) (hwn : w ≤ n)
    {j i i' : Nat} (hj : j < n) (hi : i < i') (hi' : i' < w) : placeMember n rows (j * w + i) ≠ placeMember n rows (j * w + i') := by
  have hn : 0 < n := by omega
  generalize hs : j * w + i = s
  generalize hs' : j * w + i' = s'
  have htop : s' < w * n := by
    have : (j + 1) * w ≤ n * w := Nat.mul_le_mul_right w hj
    rw [Nat.mul_comm w n]
    linarith
  have hrow : s' / n < rows.length := hlen.symm ▸ Nat.div_lt_of_lt_mul (by rwa [Nat.mul_comm])
  have hdm := Nat.div_add_mod' s n
  have hdm' := Nat.div_add_mod' s' n
  have hc := Nat.mod_lt s hn
  have hc' := Nat.mod_lt s' hn
  have hle : s / n ≤ s' / n := Nat.div_le_div_right (by omega)
  have hnext : s' / n ≤ s / n + 1 := by
    rw [← Nat.add_div_right s hn]
    exact Nat.div_le_div_right (by omega)
  have hget : ∀ r, r < rows.length → RowOf n (rows.getD r #[]) := fun r hr => by
    rw [List.getD_eq_getElem _ _ hr]
    exact h.row _ (List.getElem_mem hr)
  rcases hle.eq_or_lt with heq | hlt
  · intro hsame
    rw [placeMember, placeMember, ← heq] at hsame
    have := (hget _ (heq ▸ hrow)).getD_inj hc hc' hsame
    rw [← heq] at hdm'
    omega
  · obtain heq : s' / n = s / n + 1 := by omega
    rw [heq] at hdm'
    have hend : (s / n + 1) * n = s / n * n + n := Nat.succ_mul _ _
    obtain ⟨q, hq⟩ := Nat.exists_eq_add_of_le (show j * w ≤ (s / n + 1) * n by omega)
    have hcarry : carried n w (s / n + 1) = q := by
      rw [carried, hq, Nat.mul_add_mod', Nat.mod_eq_of_lt (by omega)]
    have hout := h.apart (s / n) (heq ▸ hrow) (hcarry ▸ by omega) (s' % n) (hcarry ▸ by omega)
    have hin : (rows.getD (s / n) #[]).getD (s % n) 0 ∈ (rows.getD (s / n) #[]).toList.drop (n - carried n w (s / n + 1)) :=
      (hget _ (by omega)).getD_mem_drop (hcarry ▸ by omega) hc
    intro hsame
    rw [placeMember, placeMember, heq] at hsame
    exact hout (hsame ▸ hin)

/-! ## The table -/

/-- The best candidate so far, with its pair counts and their key. -/
abbrev Candidate := List (Array Nat) × (Nat × Nat) × Array Nat

/-- There is a best candidate, and it is a period that `makePeriod` drew. -/
abbrev Drawn (n w : Nat) (b : Option Candidate) : Prop := ∃ x s, b = some x ∧ x.1 = (makePeriod n w s).1

/-- When each of eight candidates leaves a drawn one as the best, the best of them is drawn. -/
theorem drawn_of_foldl {n w : Nat} {step : Option Candidate × Nat → Nat → Option Candidate × Nat}
    (hstep : ∀ acc k, acc.1 = none ∨ Drawn n w acc.1 → Drawn n w (step acc k).1) {s : Nat} {b : Option Candidate}
    (hb : ((List.range 8).foldl step (none, s)).1 = b) : Drawn n w b := by
  rw [← hb, show List.range 8 = 0 :: List.range' 1 7 from rfl, List.foldl_cons]
  refine List.foldlRecOn (motive := fun acc : _ × Nat => Drawn n w acc.1) _ _ (hstep _ 0 (.inl rfl)) fun acc hacc k _ => ?_
  exact hstep acc k (.inr hacc)

/-- Every period of the table is one that `makePeriod` drew. -/
theorem drawPeriod_table (n w : Nat) (t : TableDraw) : ∃ s, (drawPeriod n w t).table = t.table ++ [(makePeriod n w s).1] := by
  unfold drawPeriod
  dsimp only
  split
  all_goals
    rename_i hbest
    obtain ⟨x, s, hx, hs⟩ := drawn_of_foldl (n := n) (w := w) (fun acc k hacc => by
      obtain ⟨best, u⟩ := acc
      rcases hacc with hacc | ⟨x, s, hacc, hx⟩
      · obtain rfl : best = none := hacc
        exact ⟨_, u, rfl, rfl⟩
      · obtain rfl : best = some x := hacc
        dsimp only
        split
        · exact ⟨_, u, rfl, rfl⟩
        · exact ⟨x, s, rfl, hx⟩) hbest
    cases hx
  exact ⟨s, by rw [hs]⟩

theorem layoutPeriods_spec (seed n w k : Nat) :
    (layoutPeriods seed n w k).length = k ∧ ∀ rows ∈ layoutPeriods seed n w k, ∃ s, rows = (makePeriod n w s).1 := by
  rw [layoutPeriods]
  induction k with
  | zero => exact ⟨rfl, by simp⟩
  | succ k ih =>
    rw [List.range_succ, List.foldl_append, List.foldl_cons, List.foldl_nil]
    obtain ⟨s, hs⟩ := drawPeriod_table n w ((List.range k).foldl (fun t _ => drawPeriod n w t) ⟨[], Array.replicate (n * n) 0, seed⟩)
    rw [hs]
    refine ⟨by simp [ih.1], fun rows hrows => ?_⟩
    rcases List.mem_append.mp hrows with hrows | hrows
    · exact ih.2 rows hrows
    · exact ⟨s, List.mem_singleton.mp hrows⟩

/-- The strips of a stripe are the places of one stripe of one period. -/
theorem ArrayGeo.stripeMembers_eq (g : ArrayGeo) (table : List (List (Array Nat))) (p : Nat) (hn : 1 ≤ g.n) :
    ({ g with table := table } : ArrayGeo).stripeMembers p =
      (List.range g.w).map fun i => placeMember g.n (table.getD (p / g.n % 64) []) (p % g.n * g.w + i) := by
  simp only [ArrayGeo.stripeMembers, ArrayGeo.home, ArrayGeo.member, ArrayGeo.w, max_eq_left hn]

/-- A stripe whose period of the table is well drawn has its strips on distinct members. -/
theorem ArrayGeo.stripeMembers_nodup (g : ArrayGeo) (table : List (List (Array Nat))) (p : Nat) (hw : 1 ≤ g.w) (hwn : g.w ≤ g.n)
    (hlen : (table.getD (p / g.n % 64) []).length = g.w) (hrows : PeriodRows g.n g.w (table.getD (p / g.n % 64) [])) :
    (({ g with table := table } : ArrayGeo).stripeMembers p).Nodup := by
  have hn : 1 ≤ g.n := hw.trans hwn
  have hne := fun i i' => hrows.stripe_ne (j := p % g.n) (i := i) (i' := i') hlen hwn (Nat.mod_lt _ hn)
  rw [g.stripeMembers_eq table p hn]
  refine List.nodup_range.map_on fun i hi i' hi' heq => ?_
  rcases lt_trichotomy i i' with hlt | rfl | hgt
  · exact absurd heq (hne i i' hlt (List.mem_range.mp hi'))
  · rfl
  · exact absurd heq.symm (hne i' i hgt (List.mem_range.mp hi))

/-- A period below the number of those in the table is a drawn one. -/
theorem layoutPeriods_getD {seed n w k t : Nat} (ht : t < k) : ∃ s, (layoutPeriods seed n w k).getD t [] = (makePeriod n w s).1 := by
  obtain ⟨hlen, htable⟩ := layoutPeriods_spec seed n w k
  rw [List.getD_eq_getElem _ _ (hlen.symm ▸ ht)]
  exact htable _ (List.getElem_mem _)

/-- Settles O51: the rows of `makePeriod`, and the table that is made of them. -/
theorem stripsOnDistinctMembers : Obligations.StripsOnDistinctMembers := by
  refine ⟨fun n w seed hw hwn => ?_, fun g p hw hwn hp => ?_⟩
  · obtain ⟨hlen, hrows⟩ := makePeriod_rows seed hw hwn
    exact ⟨hlen, hrows.row⟩
  · obtain ⟨s, hs⟩ := layoutPeriods_getD (seed := g.seed) (n := g.n) (w := g.w) hp
    obtain ⟨hlen, hrows⟩ := makePeriod_rows s hw hwn
    rw [← hs] at hlen hrows
    exact g.stripeMembers_nodup _ p hw hwn hlen hrows

end Sys2Proof.Machine
end

section
/-! PROOFS. The parity field (R241): multiplication is additive in both factors, so that a law of it holds everywhere once it holds at the eight
powers of two, and every weight other than zero has its inverse. -/

namespace Sys2Proof.Machine

/-! ## Additive functions of a byte -/

/-- A power of two that is added to something smaller is a bit that is set in it. -/
theorem two_pow_add_eq_xor {k y : Nat} (h : y < 2 ^ k) : 2 ^ k + y = 2 ^ k ^^^ y := by
  have hor : 2 ^ k + y = 2 ^ k ||| y := by simpa using Nat.two_pow_add_eq_or_of_lt h 1
  rw [hor]
  refine Nat.eq_of_testBit_eq fun i => ?_
  rw [Nat.testBit_or, Nat.testBit_xor, Nat.testBit_two_pow]
  by_cases hi : k = i
  · subst hi
    simp [Nat.testBit_lt_two_pow h]
  · simp [hi]

/-- Two functions of a byte that turn sums into sums are equal when they agree at the powers of two. -/
theorem eq_of_eq_two_pow {f g : Nat → Nat} (hf : ∀ a b, a < 256 → b < 256 → f (a ^^^ b) = f a ^^^ f b)
    (hg : ∀ a b, a < 256 → b < 256 → g (a ^^^ b) = g a ^^^ g b) (h : ∀ i < 8, f (2 ^ i) = g (2 ^ i)) {x : Nat} (hx : x < 256) : f x = g x := by
  suffices hk : ∀ k ≤ 8, ∀ x < 2 ^ k, f x = g x from hk 8 le_rfl x hx
  intro k
  induction k with
  | zero =>
    intro _ x hx
    obtain rfl : x = 0 := by omega
    have h0 : f 0 = f 0 ^^^ f 0 := hf 0 0 (by decide) (by decide)
    have h0' : g 0 = g 0 ^^^ g 0 := hg 0 0 (by decide) (by decide)
    rw [h0, h0', Nat.xor_self, Nat.xor_self]
  | succ k ih =>
    intro hk x hx
    have hpow : 2 ^ k < 256 := (Nat.pow_lt_pow_right (by decide) (by omega)).trans_eq (show 2 ^ 8 = 256 from rfl)
    rcases Nat.lt_or_ge x (2 ^ k) with hlt | hge
    · exact ih (by omega) x hlt
    · obtain ⟨y, rfl⟩ := Nat.exists_eq_add_of_le hge
      have hy : y < 2 ^ k := by rw [Nat.pow_succ] at hx; omega
      rw [two_pow_add_eq_xor hy, hf _ _ hpow (by omega), hg _ _ hpow (by omega), h k (by omega), ih (by omega) y hy]

/-! ## Doubling -/

theorem gfDouble_lt {a : Nat} (h : a < 256) : gfDouble 0x11D a < 256 := by
  revert a
  decide +kernel

theorem gfDouble_eq {a : Nat} (h : a < 256) : gfDouble 0x11D a = 2 * a ^^^ (if a.testBit 7 then 0x11D else 0) := by
  have hbit : a.testBit 7 = decide (128 ≤ a) := by
    rw [Nat.testBit_eq_decide_div_mod_eq]
    congr 1
    simp only [eq_iff_iff]
    omega
  rw [gfDouble, hbit]
  by_cases ha : a < 128
  · simp [ha, not_le.mpr ha]
  · simp [ha, not_lt.mp ha]

theorem gfDouble_xor {a b : Nat} (ha : a < 256) (hb : b < 256) : gfDouble 0x11D (a ^^^ b) = gfDouble 0x11D a ^^^ gfDouble 0x11D b := by
  have hab : a ^^^ b < 256 := Nat.xor_lt_two_pow (n := 8) ha hb
  have htwo : 2 * (a ^^^ b) = 2 * a ^^^ 2 * b := by
    simpa [Nat.shiftLeft_eq, Nat.mul_comm] using Nat.shiftLeft_xor_distrib (a := a) (b := b) (i := 1)
  rw [gfDouble_eq ha, gfDouble_eq hb, gfDouble_eq hab, Nat.testBit_xor, htwo]
  cases a.testBit 7 <;> cases b.testBit 7 <;> simp [Nat.xor_assoc, Nat.xor_left_comm, Nat.xor_comm]

/-- `a` doubled `k` times. -/
def gfDoubled (a k : Nat) : Nat := (List.range k).foldl (fun x _ => gfDouble 0x11D x) a

theorem gfDoubled_succ (a k : Nat) : gfDoubled a (k + 1) = gfDouble 0x11D (gfDoubled a k) := by
  rw [gfDoubled, List.range_succ, List.foldl_append]
  rfl

theorem gfDoubled_lt {a : Nat} (h : a < 256) (k : Nat) : gfDoubled a k < 256 := by
  induction k with
  | zero => exact h
  | succ k ih => exact gfDoubled_succ a k ▸ gfDouble_lt ih

theorem gfDoubled_xor {a b : Nat} (ha : a < 256) (hb : b < 256) (k : Nat) : gfDoubled (a ^^^ b) k = gfDoubled a k ^^^ gfDoubled b k := by
  induction k with
  | zero => rfl
  | succ k ih => rw [gfDoubled_succ, gfDoubled_succ, gfDoubled_succ, ih, gfDouble_xor (gfDoubled_lt ha k) (gfDoubled_lt hb k)]

/-! ## Multiplication -/

theorem gfMulAux_succ (a b k : Nat) :
    gfMulAux 0x11D a b (k + 1) = (if b.testBit (7 - k) then gfDoubled a (7 - k) else 0) ^^^ gfMulAux 0x11D a b k := by
  rw [gfMulAux, bit_eq_testBit]
  rfl

theorem pMul_lt {a : Nat} (h : a < 256) (b : Nat) : pMul a b < 256 := by
  suffices hk : ∀ k, gfMulAux 0x11D a b k < 256 from hk 8
  intro k
  induction k with
  | zero => exact show 0 < 256 by decide
  | succ k ih =>
    rw [gfMulAux_succ]
    refine Nat.xor_lt_two_pow (n := 8) ?_ ih
    split
    · exact gfDoubled_lt h _
    · decide

theorem pMul_xor_right (a b c : Nat) : pMul a (b ^^^ c) = pMul a b ^^^ pMul a c := by
  suffices hk : ∀ k, gfMulAux 0x11D a (b ^^^ c) k = gfMulAux 0x11D a b k ^^^ gfMulAux 0x11D a c k from hk 8
  intro k
  induction k with
  | zero => simp [gfMulAux]
  | succ k ih =>
    rw [gfMulAux_succ, gfMulAux_succ, gfMulAux_succ, ih, Nat.testBit_xor]
    cases b.testBit (7 - k) <;> cases c.testBit (7 - k) <;> simp [Nat.xor_assoc, Nat.xor_left_comm]

theorem pMul_xor_left {a b : Nat} (ha : a < 256) (hb : b < 256) (c : Nat) : pMul (a ^^^ b) c = pMul a c ^^^ pMul b c := by
  suffices hk : ∀ k, gfMulAux 0x11D (a ^^^ b) c k = gfMulAux 0x11D a c k ^^^ gfMulAux 0x11D b c k from hk 8
  intro k
  induction k with
  | zero => simp [gfMulAux]
  | succ k ih =>
    rw [gfMulAux_succ, gfMulAux_succ, gfMulAux_succ, ih, gfDoubled_xor ha hb]
    cases c.testBit (7 - k) <;> simp [Nat.xor_assoc, Nat.xor_left_comm]

theorem pMul_assoc {a b c : Nat} (ha : a < 256) (hb : b < 256) (hc : c < 256) : pMul (pMul a b) c = pMul a (pMul b c) := by
  have hbasis : ∀ i < 8, ∀ j < 8, ∀ k < 8, pMul (pMul (2 ^ i) (2 ^ j)) (2 ^ k) = pMul (2 ^ i) (pMul (2 ^ j) (2 ^ k)) := by decide +kernel
  have hpow : ∀ i < 8, 2 ^ i < 256 := by decide
  refine eq_of_eq_two_pow (f := fun c => pMul (pMul a b) c) (g := fun c => pMul a (pMul b c)) (fun _ _ _ _ => ?_) (fun _ _ _ _ => ?_) (fun k hk => ?_) hc
  · exact pMul_xor_right _ _ _
  · simp only [pMul_xor_right]
  refine eq_of_eq_two_pow (f := fun b => pMul (pMul a b) (2 ^ k)) (g := fun b => pMul a (pMul b (2 ^ k))) (fun _ _ _ _ => ?_) (fun x y hx hy => ?_)
    (fun j hj => ?_) hb
  · simp only [pMul_xor_right, pMul_xor_left (pMul_lt ha _) (pMul_lt ha _)]
  · simp only [pMul_xor_left hx hy, pMul_xor_right]
  refine eq_of_eq_two_pow (f := fun a => pMul (pMul a (2 ^ j)) (2 ^ k)) (g := fun a => pMul a (pMul (2 ^ j) (2 ^ k))) (fun x y hx hy => ?_)
    (fun x y hx hy => ?_) (fun i hi => hbasis i hi j hj k hk) ha
  · simp only [pMul_xor_left hx hy, pMul_xor_left (pMul_lt hx _) (pMul_lt hy _)]
  · exact pMul_xor_left hx hy _

theorem pMul_one_left {a : Nat} (h : a < 256) : pMul 1 a = a := by
  revert a
  decide +kernel

theorem pMul_one_right {a : Nat} (h : a < 256) : pMul a 1 = a := by
  revert a
  decide +kernel

/-! ## Powers and inverses -/

theorem gfPow_succ (a n : Nat) : gfPow 0x11D a (n + 1) = pMul (gfPow 0x11D a n) a := by
  rw [gfPow, List.range_succ, List.foldl_append]
  rfl

theorem gfPow_lt {a : Nat} (n : Nat) : gfPow 0x11D a n < 256 := by
  induction n with
  | zero => exact show 1 < 256 by decide
  | succ n ih => exact gfPow_succ a n ▸ pMul_lt ih a

theorem gfPow_add {a : Nat} (h : a < 256) (m n : Nat) : gfPow 0x11D a (m + n) = pMul (gfPow 0x11D a m) (gfPow 0x11D a n) := by
  induction n with
  | zero => exact (pMul_one_right (gfPow_lt m)).symm
  | succ n ih => rw [← Nat.add_assoc, gfPow_succ, gfPow_succ, ih, pMul_assoc (gfPow_lt m) (gfPow_lt n) h]

theorem gfPow_one {a : Nat} (h : a < 256) : gfPow 0x11D a 1 = a := (gfPow_succ a 0).trans (pMul_one_left h)

/-- The 255th power by repeated squaring: `a` to the 3rd, 15th, 240th and 255th. -/
def gfOrder (a : Nat) : Nat :=
  let sq (x : Nat) : Nat := pMul x x
  let a3 := pMul (sq a) a
  let a15 := pMul (sq (sq a3)) a3
  pMul (sq (sq (sq (sq a15)))) a15

theorem gfPow_255 {a : Nat} (h : a < 256) : gfPow 0x11D a 255 = gfOrder a := by
  have hsq := fun n => gfPow_add h n n
  have h3 : gfPow 0x11D a 3 = pMul (pMul a a) a := by rw [gfPow_succ, gfPow_succ, gfPow_one h]
  have h15 : gfPow 0x11D a 15 = pMul (gfPow 0x11D a 12) (gfPow 0x11D a 3) := gfPow_add h 12 3
  have h255 : gfPow 0x11D a 255 = pMul (gfPow 0x11D a 240) (gfPow 0x11D a 15) := gfPow_add h 240 15
  rw [h255, hsq 120, hsq 60, hsq 30, hsq 15, h15, hsq 6, hsq 3, h3]
  rfl

/-- Every byte but zero is a 255th root of one. -/
theorem gfOrder_eq_one {a : Nat} (h : a < 256) (h0 : a ≠ 0) : gfOrder a = 1 := by
  revert a
  decide +kernel

theorem pMul_gfInv {w : Nat} (h : w < 256) (h0 : w ≠ 0) : pMul (gfInv 0x11D w) w = 1 := by
  rw [gfInv, if_neg h0, ← gfPow_succ, gfPow_255 h, gfOrder_eq_one h h0]

theorem gfInv_lt (w : Nat) : gfInv 0x11D w < 256 := by
  rw [gfInv]
  split
  · decide
  · exact gfPow_lt 254

/-! ## Weights (R241) -/

theorem pWeight_lt (i : Nat) : pWeight i < 256 := gfPow_lt i

/-- The weights of the strips of a stripe are distinct and none is zero. -/
theorem pWeight_spec : (∀ i < 30, pWeight i ≠ 0) ∧ ∀ i < 30, ∀ j < i, pWeight i ^^^ pWeight j ≠ 0 := by decide +kernel

end Sys2Proof.Machine
end

section
/-! PROOFS. The parity of a row (R241, R242): blocks form a group under the bytewise sum, on which weights act additively and invertibly; so one
or two lost strips are the solutions of the equations for P and Q. -/

namespace Sys2Proof.Machine

/-! ## Blocks -/

/-- A block of 4,096 bytes (R241). -/
abbrev IsBlock (b : List Byte) : Prop := b.length = 4096

theorem isBlock_zeroBlock : IsBlock zeroBlock := List.length_replicate

theorem getElem_zeroBlock {i : Nat} (h : i < zeroBlock.length) : zeroBlock[i] = 0#8 := List.getElem_replicate h

theorem fit_of_length {k : Nat} {l : List Byte} (h : l.length = k) : fit k l = l := by
  rw [fit, List.take_left' h]

/-- The sum of two blocks is taken byte by byte. -/
theorem xorBytes_eq {a b : List Byte} (ha : IsBlock a) (hb : IsBlock b) : xorBytes a b = List.zipWith (fun x y => x ^^^ y) a b := by
  rw [xorBytes, ha, hb, max_self, fit_of_length ha, fit_of_length hb]

theorem isBlock_xorBytes {a b : List Byte} (ha : IsBlock a) (hb : IsBlock b) : IsBlock (xorBytes a b) := by
  rw [xorBytes_eq ha hb, IsBlock, List.length_zipWith, ha, hb, min_self]

theorem xorBytes_comm {a b : List Byte} (ha : IsBlock a) (hb : IsBlock b) : xorBytes a b = xorBytes b a := by
  rw [xorBytes_eq ha hb, xorBytes_eq hb ha]
  exact List.zipWith_comm_of_comm BitVec.xor_comm

theorem xorBytes_assoc {a b c : List Byte} (ha : IsBlock a) (hb : IsBlock b) (hc : IsBlock c) :
    xorBytes (xorBytes a b) c = xorBytes a (xorBytes b c) := by
  rw [xorBytes_eq (isBlock_xorBytes ha hb) hc, xorBytes_eq ha (isBlock_xorBytes hb hc), xorBytes_eq ha hb, xorBytes_eq hb hc]
  refine List.ext_getElem (by simp [Nat.min_assoc]) fun i _ _ => ?_
  simp [BitVec.xor_assoc]

theorem xorBytes_self {a : List Byte} (ha : IsBlock a) : xorBytes a a = zeroBlock := by
  rw [xorBytes_eq ha ha]
  refine List.ext_getElem (by rw [List.length_zipWith, min_self, ha, isBlock_zeroBlock]) fun i _ _ => ?_
  rw [List.getElem_zipWith, getElem_zeroBlock, BitVec.xor_self]

theorem xorBytes_zero {a : List Byte} (ha : IsBlock a) : xorBytes a zeroBlock = a := by
  rw [xorBytes_eq ha isBlock_zeroBlock]
  refine List.ext_getElem (by rw [List.length_zipWith, ha, isBlock_zeroBlock, min_self]) fun i _ _ => ?_
  rw [List.getElem_zipWith, getElem_zeroBlock, BitVec.xor_zero]

theorem zero_xorBytes {a : List Byte} (ha : IsBlock a) : xorBytes zeroBlock a = a :=
  (xorBytes_comm isBlock_zeroBlock ha).trans (xorBytes_zero ha)

/-- A summand is found again by adding the other once more. -/
theorem xorBytes_cancel {a b : List Byte} (ha : IsBlock a) (hb : IsBlock b) : xorBytes (xorBytes a b) b = a := by
  rw [xorBytes_assoc ha hb hb, xorBytes_self hb, xorBytes_zero ha]

/-! ## Weights -/

theorem isBlock_scaleBytes (w : Nat) {a : List Byte} (ha : IsBlock a) : IsBlock (scaleBytes w a) := (List.length_map _).trans ha

theorem scaleBytes_xorBytes (w : Nat) {a b : List Byte} (ha : IsBlock a) (hb : IsBlock b) :
    scaleBytes w (xorBytes a b) = xorBytes (scaleBytes w a) (scaleBytes w b) := by
  rw [xorBytes_eq ha hb, xorBytes_eq (isBlock_scaleBytes w ha) (isBlock_scaleBytes w hb)]
  refine List.ext_getElem (by simp [scaleBytes]) fun i _ _ => ?_
  simp [scaleBytes, pMul_xor_right, BitVec.ofNat_xor]

theorem scaleBytes_xor {u v : Nat} (hu : u < 256) (hv : v < 256) {a : List Byte} (ha : IsBlock a) :
    scaleBytes (u ^^^ v) a = xorBytes (scaleBytes u a) (scaleBytes v a) := by
  rw [xorBytes_eq (isBlock_scaleBytes u ha) (isBlock_scaleBytes v ha)]
  refine List.ext_getElem (by simp [scaleBytes]) fun i _ _ => ?_
  simp [scaleBytes, pMul_xor_left hu hv, BitVec.ofNat_xor]

theorem scaleBytes_zeroBlock (w : Nat) : scaleBytes w zeroBlock = zeroBlock := by
  have hzero : pMul w 0 = 0 := by simpa using pMul_xor_right w 0 0
  have hbyte : BitVec.ofNat 8 (pMul w (0 : Byte).toNat) = 0 := congrArg (BitVec.ofNat 8) hzero
  rw [scaleBytes, zeroBlock, List.map_replicate, hbyte]

/-- A weight other than zero is undone. -/
theorem unscaleBytes_scaleBytes {w : Nat} (hw : w < 256) (h0 : w ≠ 0) (a : List Byte) : unscaleBytes w (scaleBytes w a) = a := by
  have hbyte : ∀ x : Byte, BitVec.ofNat 8 (pMul (gfInv 0x11D w) (BitVec.ofNat 8 (pMul w x.toNat)).toNat) = x := fun x => by
    rw [BitVec.toNat_ofNat, Nat.mod_eq_of_lt (pMul_lt hw _), ← pMul_assoc (gfInv_lt w) hw x.isLt, pMul_gfInv hw h0, pMul_one_left x.isLt,
      BitVec.ofNat_toNat, BitVec.setWidth_eq]
  rw [unscaleBytes, scaleBytes, scaleBytes, List.map_map]
  exact (List.map_congr_left fun x _ => hbyte x).trans (List.map_id _)

/-! ## The sum of a row -/

/-- Every entry is a block. -/
abbrev AllBlocks (l : List (List Byte)) : Prop := ∀ b ∈ l, IsBlock b

theorem isBlock_sumBlocks {l : List (List Byte)} (h : AllBlocks l) : IsBlock (sumBlocks l) :=
  List.foldlRecOn _ _ isBlock_zeroBlock fun _ ha b hb => isBlock_xorBytes ha (h b hb)

theorem foldl_xorBytes {l : List (List Byte)} (h : AllBlocks l) {a : List Byte} (ha : IsBlock a) : l.foldl xorBytes a = xorBytes a (sumBlocks l) := by
  induction l generalizing a with
  | nil => exact (xorBytes_zero ha).symm
  | cons b l ih =>
    have hb : IsBlock b := h b List.mem_cons_self
    have hl : AllBlocks l := fun x hx => h x (List.mem_cons_of_mem b hx)
    rw [sumBlocks, List.foldl_cons, List.foldl_cons, ih hl (isBlock_xorBytes ha hb), zero_xorBytes hb, ih hl hb,
      xorBytes_assoc ha hb (isBlock_sumBlocks hl)]

theorem sumBlocks_cons {l : List (List Byte)} {b : List Byte} (hb : IsBlock b) (h : AllBlocks l) : sumBlocks (b :: l) = xorBytes b (sumBlocks l) := by
  rw [sumBlocks, List.foldl_cons, zero_xorBytes hb, foldl_xorBytes h hb]

/-- A block that is taken out of a sum and added again. -/
theorem sumBlocks_set {l : List (List Byte)} (h : AllBlocks l) {x : Nat} (hx : x < l.length) :
    sumBlocks l = xorBytes l[x] (sumBlocks (l.set x zeroBlock)) := by
  induction l generalizing x with
  | nil => exact absurd hx (Nat.not_lt_zero x)
  | cons b l ih =>
    have hb : IsBlock b := h b List.mem_cons_self
    have hl : AllBlocks l := fun x hx => h x (List.mem_cons_of_mem b hx)
    have hset : ∀ x, AllBlocks (l.set x zeroBlock) := fun x c hc => (List.mem_or_eq_of_mem_set hc).elim (hl c) fun e => e ▸ isBlock_zeroBlock
    cases x with
    | zero =>
      rw [List.getElem_cons_zero, List.set_cons_zero, sumBlocks_cons hb hl, sumBlocks_cons isBlock_zeroBlock hl, zero_xorBytes (isBlock_sumBlocks hl)]
    | succ x =>
      have hx' : x < l.length := Nat.lt_of_succ_lt_succ hx
      have hlx : IsBlock l[x] := hl _ (List.getElem_mem hx')
      rw [List.getElem_cons_succ, List.set_cons_succ, sumBlocks_cons hb hl, sumBlocks_cons hb (hset x), ih hl hx',
        ← xorBytes_assoc hb hlx (isBlock_sumBlocks (hset x)), xorBytes_comm hb hlx, xorBytes_assoc hlx hb (isBlock_sumBlocks (hset x))]

/-! ## P and Q (R241) -/

theorem allBlocks_set {l : List (List Byte)} (h : AllBlocks l) (x : Nat) {b : List Byte} (hb : IsBlock b) : AllBlocks (l.set x b) :=
  fun c hc => (List.mem_or_eq_of_mem_set hc).elim (h c) fun e => e ▸ hb

/-- The weighted strips whose sum is Q. -/
abbrev weighted (data : List (List Byte)) : List (List Byte) := (List.range data.length).map fun i => scaleBytes (pWeight i) (data.getD i [])

theorem getElem_weighted {data : List (List Byte)} {i : Nat} (h : i < data.length) (h' : i < (weighted data).length) :
    (weighted data)[i] = scaleBytes (pWeight i) data[i] := by
  simp [h]

theorem allBlocks_weighted {data : List (List Byte)} (h : AllBlocks data) : AllBlocks (weighted data) := by
  refine List.forall_mem_map.mpr fun i hi => ?_
  rw [List.getD_eq_getElem _ _ (List.mem_range.mp hi)]
  exact isBlock_scaleBytes _ (h _ (List.getElem_mem _))

theorem weighted_set (data : List (List Byte)) (x : Nat) : weighted (data.set x zeroBlock) = (weighted data).set x zeroBlock := by
  refine List.ext_getElem (by simp) fun i h _ => ?_
  have hi : i < data.length := by simpa using h
  rw [getElem_weighted (by simpa using hi), List.getElem_set, List.getElem_set]
  split
  · exact scaleBytes_zeroBlock _
  · rw [getElem_weighted hi]

section
variable {data : List (List Byte)} (h : AllBlocks data) {x : Nat} (hx : x < data.length)
include h hx

theorem parityP_set : parityP data = xorBytes data[x] (parityP (data.set x zeroBlock)) := sumBlocks_set h hx

theorem parityQ_set : parityQ data = xorBytes (scaleBytes (pWeight x) data[x]) (parityQ (data.set x zeroBlock)) := by
  have hx' : x < (weighted data).length := by simpa using hx
  have hset := sumBlocks_set (allBlocks_weighted h) hx'
  rwa [getElem_weighted hx, ← weighted_set] at hset

end

theorem isBlock_parityP {data : List (List Byte)} (h : AllBlocks data) : IsBlock (parityP data) := isBlock_sumBlocks h

theorem isBlock_parityQ {data : List (List Byte)} (h : AllBlocks data) : IsBlock (parityQ data) := isBlock_sumBlocks (allBlocks_weighted h)

/-- What P lacks of the strips that are known is the lost strip. -/
theorem parityP_lost {data : List (List Byte)} (h : AllBlocks data) {x : Nat} (hx : x < data.length) :
    xorBytes (parityP data) (parityP (data.set x zeroBlock)) = data[x] := by
  rw [parityP_set h hx]
  exact xorBytes_cancel (h _ (List.getElem_mem hx)) (isBlock_parityP (allBlocks_set h x isBlock_zeroBlock))

theorem parityQ_lost {data : List (List Byte)} (h : AllBlocks data) {x : Nat} (hx : x < data.length) :
    xorBytes (parityQ data) (parityQ (data.set x zeroBlock)) = scaleBytes (pWeight x) data[x] := by
  rw [parityQ_set h hx]
  exact xorBytes_cancel (isBlock_scaleBytes _ (h _ (List.getElem_mem hx))) (isBlock_parityQ (allBlocks_set h x isBlock_zeroBlock))

section
variable {data : List (List Byte)} (h : AllBlocks data) {x y : Nat} (hxy : x < y) (hy : y < data.length)
include h hxy hy

theorem parityP_lost_two :
    xorBytes (parityP data) (parityP ((data.set x zeroBlock).set y zeroBlock)) = xorBytes (data[x]'(hxy.trans hy)) data[y] := by
  have hset := allBlocks_set h x isBlock_zeroBlock
  have hbx := h _ (List.getElem_mem (hxy.trans hy))
  have hby := h _ (List.getElem_mem hy)
  rw [parityP_set h (hxy.trans hy), parityP_set hset (x := y) (by simpa using hy), List.getElem_set_ne hxy.ne, 
    ← xorBytes_assoc hbx hby (isBlock_parityP (allBlocks_set hset y isBlock_zeroBlock))]
  exact xorBytes_cancel (isBlock_xorBytes hbx hby) (isBlock_parityP (allBlocks_set hset y isBlock_zeroBlock))

theorem parityQ_lost_two :
    xorBytes (parityQ data) (parityQ ((data.set x zeroBlock).set y zeroBlock)) =
      xorBytes (scaleBytes (pWeight x) (data[x]'(hxy.trans hy))) (scaleBytes (pWeight y) data[y]) := by
  have hset := allBlocks_set h x isBlock_zeroBlock
  have hbx := isBlock_scaleBytes (pWeight x) (h _ (List.getElem_mem (hxy.trans hy)))
  have hby := isBlock_scaleBytes (pWeight y) (h _ (List.getElem_mem hy))
  rw [parityQ_set h (hxy.trans hy), parityQ_set hset (x := y) (by simpa using hy), List.getElem_set_ne hxy.ne, 
    ← xorBytes_assoc hbx hby (isBlock_parityQ (allBlocks_set hset y isBlock_zeroBlock))]
  exact xorBytes_cancel (isBlock_xorBytes hbx hby) (isBlock_parityQ (allBlocks_set hset y isBlock_zeroBlock))

end

/-- Of two unknown strips the first is the quotient of `wy · P + Q` and `wx + wy`. -/
theorem solve_two {u v : Nat} (hu : u < 256) (hv : v < 256) (huv : u ^^^ v ≠ 0) {a b : List Byte} (ha : IsBlock a) (hb : IsBlock b) :
    unscaleBytes (u ^^^ v) (xorBytes (scaleBytes v (xorBytes a b)) (xorBytes (scaleBytes u a) (scaleBytes v b))) = a := by
  have hua := isBlock_scaleBytes u ha
  have hva := isBlock_scaleBytes v ha
  have hvb := isBlock_scaleBytes v hb
  have hsum : xorBytes (scaleBytes v (xorBytes a b)) (xorBytes (scaleBytes u a) (scaleBytes v b)) = scaleBytes (u ^^^ v) a := by
    rw [scaleBytes_xorBytes v ha hb, scaleBytes_xor hu hv ha, xorBytes_comm hua hvb, ← xorBytes_assoc (isBlock_xorBytes hva hvb) hvb hua,
      xorBytes_cancel hva hvb, xorBytes_comm hva hua]
  rw [hsum, unscaleBytes_scaleBytes (Nat.xor_lt_two_pow (n := 8) hu hv) huv]

/-! ## Rows with lost strips (R242) -/

/-- The strips of a row that are not known, in ascending order. -/
abbrev missing (fill : Nat) (have_ : Nat → Option (List Byte)) : List Nat := (List.range fill).filter fun i => (have_ i).isNone

/-- What is known of a row, with zeros for the strips that are not. -/
abbrev knownRow (fill : Nat) (have_ : Nat → Option (List Byte)) : List (List Byte) := (List.range fill).map fun i => (have_ i).getD zeroBlock

/-- Ascending strips are the missing ones when they have the same members. -/
theorem missing_eq {fill : Nat} {have_ : Nat → Option (List Byte)} {l : List Nat} (hl : l.Pairwise (· < ·))
    (h : ∀ i, i ∈ l ↔ i < fill ∧ have_ i = none) : missing fill have_ = l := by
  refine List.Pairwise.eq_of_mem_iff (List.pairwise_lt_range.filter _) hl fun i => ?_
  rw [List.mem_filter, List.mem_range, Option.isNone_iff_eq_none, h]

section
variable {data : List (List Byte)} (h : AllBlocks data) {dp : Nat} {have_ : Nat → Option (List Byte)}
include h

/-- With one strip lost, P or else Q gives it. -/
theorem solveRow_one {x : Nat} (hx : x < data.length) (hlost : have_ x = none) (hkept : ∀ i (_ : i < data.length), i ≠ x → have_ i = some data[i])
    (hparity : have_ dp = some (parityP data) ∨ (have_ dp = none ∧ have_ (dp + 1) = some (parityQ data) ∧ pWeight x ≠ 0)) :
    solveRow data.length dp have_ = some data := by
  have hmissing : missing data.length have_ = [x] := missing_eq (List.pairwise_singleton _ _) fun i => by
    by_cases hi : i = x
    · simp [hi, hx, hlost]
    · simpa [hi] using fun hlt => by simp [hkept i hlt hi]
  have hknown : knownRow data.length have_ = data.set x zeroBlock := by
    refine List.ext_getElem (by simp) fun i hi _ => ?_
    have hlt : i < data.length := by simpa using hi
    by_cases hix : i = x
    · subst hix
      simp [hlost]
    · simp [hkept i hlt hix, List.getElem_set_ne (Ne.symm hix)]
  rw [solveRow]
  simp only [hmissing, hknown]
  rcases hparity with hp | ⟨hp, hq, hw⟩
  · simp [hp, parityP_lost h hx]
  · simp [hp, hq, parityQ_lost h hx, unscaleBytes_scaleBytes (pWeight_lt x) hw]

/-- With two strips lost, P and Q give them. -/
theorem solveRow_two {x y : Nat} (hxy : x < y) (hy : y < data.length) (hx0 : have_ x = none) (hy0 : have_ y = none)
    (hkept : ∀ i (_ : i < data.length), i ≠ x → i ≠ y → have_ i = some data[i])
    (hp : have_ dp = some (parityP data)) (hq : have_ (dp + 1) = some (parityQ data)) (hw : pWeight x ^^^ pWeight y ≠ 0) :
    solveRow data.length dp have_ = some data := by
  have hx := hxy.trans hy
  have hmissing : missing data.length have_ = [x, y] := missing_eq (List.pairwise_pair.mpr hxy) fun i => by
    by_cases hix : i = x
    · simp [hix, hx, hx0]
    by_cases hiy : i = y
    · simp [hiy, hy, hy0]
    · simpa [hix, hiy] using fun hlt => by simp [hkept i hlt hix hiy]
  have hknown : knownRow data.length have_ = (data.set x zeroBlock).set y zeroBlock := by
    refine List.ext_getElem (by simp) fun i hi _ => ?_
    have hlt : i < data.length := by simpa using hi
    by_cases hiy : i = y
    · subst hiy
      simp [hy0]
    by_cases hix : i = x
    · subst hix
      simp [hx0, List.getElem_set_ne (Ne.symm hiy)]
    · simp [hkept i hlt hix hiy, List.getElem_set_ne (Ne.symm hix), List.getElem_set_ne (Ne.symm hiy)]
  have hbx := h _ (List.getElem_mem hx)
  have hby := h _ (List.getElem_mem hy)
  have hsolve : unscaleBytes (Nat.xor (pWeight x) (pWeight y)) (xorBytes (scaleBytes (pWeight y) (xorBytes data[x] data[y]))
      (xorBytes (scaleBytes (pWeight x) data[x]) (scaleBytes (pWeight y) data[y]))) = data[x] :=
    solve_two (pWeight_lt x) (pWeight_lt y) hw hbx hby
  have hrest : xorBytes (xorBytes data[x] data[y]) data[x] = data[y] := by
    rw [xorBytes_comm hbx hby, xorBytes_cancel hby hbx]
  rw [solveRow]
  simp only [hmissing, hknown, hp, hq, Option.map_some, parityP_lost_two h hxy hy, parityQ_lost_two h hxy hy,
    hsolve, hrest]
  rw [Option.some_inj, List.set_comm _ _ hxy.ne', List.set_set, List.set_set, List.set_getElem_self, List.set_getElem_self]

end

/-- Settles O52: P, Q, or both give the lost strips, since the weights of thirty strips are distinct and none is zero. -/
theorem lostStripsAreRebuilt : Obligations.LostStripsAreRebuilt := by
  intro data dp hlen hdp hblocks
  obtain ⟨hw, hww⟩ := pWeight_spec
  have hstrip : ∀ i, i < data.length → i ≠ dp ∧ i ≠ dp + 1 := by omega
  refine ⟨fun x hx => ⟨?_, ?_⟩, fun x y hxy hy => ?_⟩
  · refine solveRow_one hblocks hx ?_ (fun i hi hix => ?_) (.inl (if_pos rfl))
    · simp [hstrip x hx]
    · simp [hstrip i hi, hix, hi]
  · refine solveRow_one hblocks hx ?_ (fun i hi hix => ?_) (.inr ⟨?_, if_pos rfl, hw x (by omega)⟩)
    · simp [hstrip x hx]
    · simp [hstrip i hi, hix, hi]
    · simp [hdp]
  · have hx := hxy.trans hy
    refine solveRow_two hblocks hxy hy ?_ ?_ (fun i hi hix hiy => ?_) (if_pos rfl) ?_ ?_
    · simp [hstrip x hx]
    · simp [hstrip y hy]
    · simp [hstrip i hi, hix, hiy, hi]
    · simp
    · rw [Nat.xor_comm]
      exact hww y (by omega) x hxy

end Sys2Proof.Machine
end

section
/-! PROOFS. A source that an ERR bit gates (R441): which bits they are, and what its raise leaves set. -/

namespace Sys2Proof.Machine

/-! ## The gating bits (R441) -/

/-- No source from 512 on is gated. -/
theorem errBit_source_lt {s : Nat} {p : Nat × Nat} (h : errBit s = some p) : s < 512 := by
  by_contra hs
  have out : ∀ a b, b ≤ 512 → ¬ (a ≤ s ∧ s < b) := fun a b hb hab => hs (lt_of_lt_of_le hab.2 hb)
  have h10 : ¬ s < 0x00A := by omega
  have h149 : ¬ s = 0x149 := by omega
  simp [errBit, h10, h149, out] at h

/-- A gating bit is a bit of a 32-bit register; neither that register nor the pending bits of its source are one of the two counts of what was
dropped. -/
theorem errBit_spec {s k i : Nat} (h : errBit s = some (k, i)) :
    i < 32 ∧ k ≠ Reg.evtPktDrop ∧ k ≠ Reg.wblDrop ∧ Reg.evtPend + 4 * (s / 32) ≠ Reg.evtPktDrop ∧ Reg.evtPend + 4 * (s / 32) ≠ Reg.wblDrop := by
  have hall : ∀ s < 512, ∀ p ∈ errBit s,
      p.2 < 32 ∧ p.1 ≠ Reg.evtPktDrop ∧ p.1 ≠ Reg.wblDrop ∧ Reg.evtPend + 4 * (s / 32) ≠ Reg.evtPktDrop ∧
      Reg.evtPend + 4 * (s / 32) ≠ Reg.wblDrop := by decide +kernel
  exact hall s (errBit_source_lt h) (k, i) h

/-! ## The raise of a gated source -/

section
variable {d : Dev} {s k i : Nat} (h : errBit s = some (k, i)) (livery : Option Nat)
include h

theorem Dev.raiseL_of_set (hf : d.flag k i = true) : d.raiseL s livery = d := by
  rw [Dev.raiseL, h]
  exact if_pos hf

theorem Dev.raiseL_of_clear (hf : d.flag k i = false) :
    d.raiseL s livery = Dev.raiseAll (d.setRaw k (setBit (d.raw k) i)) s livery [] none := by
  rw [Dev.raiseL, h]
  exact if_neg (by simp [hf])

/-- A bit that stands when the pending bit of the source is set next still stands after the raise. -/
theorem Dev.latched_raiseL_of_pending {j n : Nat} (hf : d.flag k i = false) (hpkt : j ≠ Reg.evtPktDrop) (hwbl : j ≠ Reg.wblDrop)
    (hj : let e := d.setRaw k (setBit (d.raw k) i)
      (e.setRaw (Reg.evtPend + 4 * (s / 32)) (setBit (e.raw (Reg.evtPend + 4 * (s / 32))) (s % 32))).Latched j n) :
    (d.raiseL s livery).Latched j n := by
  rw [Dev.raiseL_of_clear h livery hf]
  exact Dev.latched_raiseAll_of_deliver hpkt hwbl (Dev.latched_deliver_of_pending hpkt hj _ _ _)

end

/-- Settles O56: the raise sets the gating bit, then the pending bit, and what follows clears neither. -/
theorem gatedEventsAreRaisedOnce : Obligations.GatedEventsAreRaisedOnce := by
  intro d s k i livery h hregs
  obtain ⟨hi, hpkt, hwbl, hpendPkt, hpendWbl⟩ := errBit_spec h
  have herr : (d.setRaw k (setBit (d.raw k) i)).Latched k i := Dev.latched_setBit hregs k hi
  refine ⟨Dev.raiseL_of_set h livery, fun hf => ⟨?_, ?_, d.raiseL_frame s livery⟩⟩
  · exact (Dev.latched_raiseL_of_pending h livery hf hpkt hwbl (herr.setBit _ _)).set
  · exact (Dev.latched_raiseL_of_pending h livery hf hpendPkt hpendWbl (Dev.latched_setBit herr.canonical _ (Nat.mod_lt _ (by decide)))).set

end Sys2Proof.Machine
end

section
/-! PROOFS. What the receipt of a request discards and what a duplicate draws (R63, R66, R73). -/

namespace Sys2Proof.Machine

/-- A discarded packet is counted in CMD_RX_DISCARD, and its first one is reported. -/
theorem Dev.discardPacket_eq (d : Dev) :
    d.discardPacket = (let e := d.setRaw Reg.cmdRxDiscard (min (d.raw Reg.cmdRxDiscard + 1) 0xFFFFFFFF)
      if d.raw Reg.cmdRxDiscard = 0 then e.raise 0x01E else e) := rfl

theorem Dev.discardPacket_frame (d : Dev) : d.signalled d.discardPacket = d.discardPacket := by
  have hcount := d.countReg_frame Reg.cmdRxDiscard 1
  unfold Dev.discardPacket
  dsimp only
  split
  · exact Dev.signalled_trans hcount (Dev.raise_frame _ _)
  · exact hcount

section
variable {d : Dev} {op : Nat} {p : Packet} (htakes : d.takesFrom p.src.transport = true)
include htakes

theorem Dev.receive_unsound (h : packetFits p = false ∨ p.crc.toNat ≠ packetCrc op p) : d.receive op p = d.discardPacket := by
  have hbad : (!packetFits p || p.crc.toNat != packetCrc op p) = true := by simpa using h
  simp [Dev.receive, htakes, hbad]

/-- A sound request touches its session, and then is a duplicate or enters. -/
theorem Dev.receive_sound (hfits : packetFits p = true) (hcrc : p.crc.toNat = packetCrc op p) :
    d.receive op p =
      match (d.sessionAt p.src).bind fun x => (d.touchSession (d.sessionAt p.src)).duplicateOf x p with
      | some (some r) => ((d.touchSession (d.sessionAt p.src)).countReg Reg.cmdDupCnt 1).send r
      | some none => (d.touchSession (d.sessionAt p.src)).countReg Reg.cmdDupCnt 1
      | none => (d.touchSession (d.sessionAt p.src)).enter op p (d.sessionAt p.src) := by
  simp only [Dev.receive, htakes, hfits, hcrc, Bool.not_true, Bool.or_false, bne_self_eq_false, Bool.false_eq_true, if_false] <;>
  rfl

end

/-- Settles O44: `receive` in its three cases. -/
theorem unsoundRequestsAreDiscarded : Obligations.UnsoundRequestsAreDiscarded := by
  intro d op p htakes
  refine ⟨fun h => ?_, fun hfits hcrc x hx => ⟨fun r hr => ?_, fun hr => ?_⟩⟩
  · rw [Dev.receive_unsound htakes h]
    exact ⟨d.discardPacket_eq, d.discardPacket_frame⟩
  all_goals
    rw [Dev.receive_sound htakes hfits hcrc, hx]
    simp only [Dev.touchSession, Option.bind_some, hr]

end Sys2Proof.Machine
end

section
/-! PROOFS. What a byte of a memory reads after a write, and what a read answers (R430). -/

namespace Sys2Proof.Machine

/-! ## Tables in parts -/

theorem sget_of_forall_ne {α : Type} {dflt : Nat → α} {l : List (Nat × α)} {k : Nat} (h : ∀ x ∈ l, x.1 ≠ k) : sget dflt l k = dflt k := by
  induction l with
  | nil => rfl
  | cons x t ih => simp [sget, h x, ih fun y hy => h y (List.mem_cons_of_mem x hy)]

theorem sget_append_of_left_miss {α : Type} {dflt : Nat → α} {l r : List (Nat × α)} {k : Nat} (h : ∀ x ∈ l, x.1 ≠ k) :
    sget dflt (l ++ r) k = sget dflt r k := by
  induction l with
  | nil => rfl
  | cons x t ih => simp [sget, h x, ih fun y hy => h y (List.mem_cons_of_mem x hy)]

theorem sget_append_of_right_miss {α : Type} {dflt : Nat → α} {l r : List (Nat × α)} {k : Nat} (h : ∀ x ∈ r, x.1 ≠ k) :
    sget dflt (l ++ r) k = sget dflt l k := by
  induction l with
  | nil => exact sget_of_forall_ne h
  | cons x t ih => simp [sget, ih]

theorem sget_filter_of_pos {α : Type} {dflt : Nat → α} {l : List (Nat × α)} {k : Nat} {f : Nat × α → Bool} (h : ∀ x, x.1 = k → f x = true) :
    sget dflt (l.filter f) k = sget dflt l k := by
  induction l with
  | nil => rfl
  | cons x t ih =>
    by_cases hx : x.1 = k
    · simp [sget, h x hx, hx]
    · by_cases hf : f x = true <;> simp [sget, hf, hx, ih]

theorem sget_dropWhile {α : Type} {dflt : Nat → α} {l : List (Nat × α)} {k : Nat} {f : Nat × α → Bool} (h : ∀ x, x.1 = k → f x = false) :
    sget dflt (l.dropWhile f) k = sget dflt l k := by
  induction l with
  | nil => rfl
  | cons x t ih =>
    by_cases hf : f x = true
    · have hx : x.1 ≠ k := fun hx => by simp [h x hx] at hf
      simp [sget, hf, hx, ih]
    · simp [hf]

/-! ## Bytes after a write -/

theorem get_cellsFrom {l : List Byte} {a b : Nat} (h : a ≤ b) : sget byteDflt (cellsFrom a l) b = l.getD (b - a) 0 := by
  induction l generalizing a with
  | nil => rfl
  | cons v t ih =>
    rcases Nat.eq_or_lt_of_le h with rfl | hlt
    · have later : sget byteDflt (cellsFrom (a + 1) t) a = byteDflt a :=
        sget_of_forall_ne fun c hc => by have := ((cellsFrom_spec t (a + 1)).2 c hc).1; omega
      by_cases hv : v = byteDflt a <;> simp [cellsFrom, hv, later, sget]
    · have hsub : b - a = b - (a + 1) + 1 := by omega
      by_cases hv : v = byteDflt a <;> simp [cellsFrom, hv, ih hlt, sget, hsub, Nat.ne_of_lt hlt]

/-- A byte reads what was written at it, and as before where nothing was. -/
theorem Memory.get_write (m : Memory) (a : Nat) (l : List Byte) (b : Nat) :
    Memory.get (Memory.write m a l) b = if a ≤ b ∧ b < a + l.length then l.getD (b - a) 0 else Memory.get m b := by
  have hcells := (cellsFrom_spec l a).2
  unfold Memory.get Memory.write
  dsimp only
  split
  next h =>
    rw [sget_append_of_right_miss, sget_append_of_left_miss, get_cellsFrom h.1]
    · intro c hc; have := (List.mem_filter.1 hc).2; simp at this; omega
    · intro c hc; have := (List.mem_filter.1 hc).2; simp at this; omega
  next h =>
    by_cases hb : b < a
    · rw [List.append_assoc, sget_append_of_right_miss, sget_filter_of_pos]
      · intro c hc; simp [hc, hb]
      · intro c hc
        rcases List.mem_append.1 hc with hc | hc
        · have := (hcells c hc).1; omega
        · have := (List.mem_filter.1 hc).2; simp at this; omega
    · rw [sget_append_of_left_miss, sget_filter_of_pos]
      · intro c hc; simp [hc]; omega
      · intro c hc
        rcases List.mem_append.1 hc with hc | hc
        · have := (List.mem_filter.1 hc).2; simp at this; omega
        · have := (hcells c hc).2.1; omega

/-! ## Bytes read -/

@[simp] theorem length_bytesFrom (m : Memory) (a n : Nat) : (bytesFrom m a n).length = n := by
  induction n generalizing m a with
  | zero => cases m <;> rfl
  | succ n ih =>
    rcases m with - | ⟨⟨k, b⟩, t⟩
    · simp [bytesFrom, ih]
    · by_cases hk : k = a <;> simp [bytesFrom, hk, ih]

@[simp] theorem Memory.length_read (m : Memory) (a n : Nat) : (Memory.read m a n).length = n := length_bytesFrom _ _ _

theorem getD_bytesFrom {m : Memory} {a n i : Nat} (hs : m.Pairwise fun x y => x.1 < y.1) (hm : ∀ x ∈ m, a ≤ x.1) (hi : i < n) :
    (bytesFrom m a n).getD i 0 = sget byteDflt m (a + i) := by
  induction n generalizing m a i with
  | zero => omega
  | succ n ih =>
    rcases m with - | ⟨⟨k, b⟩, t⟩
    · rcases i with - | i
      · rfl
      · simpa [bytesFrom, sget, byteDflt] using ih (a := a + 1) (i := i) List.Pairwise.nil (by simp) (by omega)
    · have hfirst : a ≤ k := hm (k, b) List.mem_cons_self
      have hrest : ∀ x ∈ t, k < x.1 := (List.pairwise_cons.1 hs).1
      by_cases hk : k = a
      · rcases i with - | i
        · simp [bytesFrom, hk, sget]
        · have := ih (a := a + 1) (i := i) (List.pairwise_cons.1 hs).2 (fun x hx => by have := hrest x hx; omega) (by omega)
          have hne : k ≠ a + (i + 1) := by omega
          simpa [bytesFrom, hk, sget, hne, Nat.add_comm, Nat.add_left_comm, Nat.add_assoc] using this
      · rcases i with - | i
        · have : sget byteDflt ((k, b) :: t) a = byteDflt a := sget_of_forall_ne fun x hx => by
            rcases List.mem_cons.1 hx with rfl | hx
            · exact hk
            · have := hrest x hx; omega
          simp [bytesFrom, hk, this]
        · have := ih (m := (k, b) :: t) (a := a + 1) (i := i) hs
            (fun x hx => by
              rcases List.mem_cons.1 hx with rfl | hx
              · exact Nat.lt_of_le_of_ne hfirst (Ne.symm hk)
              · have := hrest x hx; omega) (by omega)
          simpa [bytesFrom, hk, Nat.add_comm, Nat.add_left_comm, Nat.add_assoc] using this

/-- What a read answers, byte by byte. -/
theorem Memory.getD_read {m : Memory} {a n i : Nat} (h : Memory.wf m = true) (hi : i < n) :
    (Memory.read m a n).getD i 0 = Memory.get m (a + i) := by
  have hs := ((swf_iff _ _).1 h).1
  have hrest := hs.sublist (List.dropWhile_sublist fun c : Host.Cell => decide (c.1 < a))
  have hfrom : ∀ x ∈ m.dropWhile (fun c => decide (c.1 < a)), a ≤ x.1 := by
    intro x hx
    rcases hd : m.dropWhile (fun c => decide (c.1 < a)) with - | ⟨y, t⟩
    · simp [hd] at hx
    · have hy : ¬ y.1 < a := by simpa [hd] using List.head_dropWhile_not (fun c : Host.Cell => decide (c.1 < a)) (l := m) (by simp [hd])
      rw [hd] at hx hrest
      rcases List.mem_cons.1 hx with rfl | hx
      · omega
      · have := (List.pairwise_cons.1 hrest).1 x hx; omega
  rw [Memory.read, getD_bytesFrom hrest hfrom hi, sget_dropWhile fun x hx => by simp [hx]]
  rfl

/-! ## Bytes after a write with byte enables -/

/-- A byte whose enable is set reads what was written; every other reads as before. -/
theorem Memory.get_writeWhere {m : Memory} {a : Nat} {en : List Bool} {data : List Byte} (h : Memory.wf m = true)
    (hlen : data.length = en.length) (b : Nat) :
    Memory.get (Memory.writeWhere m a (en.zip data)) b =
      if a ≤ b ∧ en.getD (b - a) false = true then data.getD (b - a) 0 else Memory.get m b := by
  rw [Memory.writeWhere, Memory.get_write]
  by_cases hin : a ≤ b ∧ b - a < en.length
  · obtain ⟨hle, hlt⟩ := hin
    have hread : (Memory.read m a en.length)[b - a]'(by simpa using hlt) = Memory.get m b := by
      have := Memory.getD_read (a := a) h hlt
      rwa [List.getD_eq_getElem _ _ (by simpa using hlt), Nat.add_sub_cancel' hle] at this
    have hrange : b < a + (min en.length data.length) := by omega
    have hd : b - a < data.length := by omega
    cases hen : en[b - a] <;> simp [hle, hlt, hlen, hen, hread, show b < a + en.length by omega]
  · have hout : ¬ (a ≤ b ∧ b < a + en.length) := by omega
    have hoff : ¬ (a ≤ b ∧ en.getD (b - a) false = true) := by
      rintro ⟨hle, hen⟩
      have : en.length ≤ b - a := by omega
      simp [List.getElem?_eq_none this] at hen
    rw [if_neg (by simpa [hlen] using hout), if_neg hoff]

/-! ## Reads and writes of a space -/

/-- An armed injection changes the check state of words only. -/
theorem Mem.injected_frame (m : Mem) (hbm : Bool) (a : Nat) :
    m.injected hbm a = { m with poison := (m.injected hbm a).poison, flipped := (m.injected hbm a).flipped, inject := (m.injected hbm a).inject } := by
  unfold Mem.injected
  split
  · rfl
  · split
    · rfl
    · split <;> rfl

theorem Mem.injected_of_none {m : Mem} (h : m.inject = none) (hbm : Bool) (a : Nat) : m.injected hbm a = m := by simp [Mem.injected, h]

theorem Dev.spaceWriteWhere_hbm (d : Dev) (hbm : Bool) (a : Nat) (l : List (Bool × Byte)) :
    (d.spaceWriteWhere hbm a l).mem.hbm = if hbm then Memory.writeWhere d.mem.hbm a l else d.mem.hbm := by
  unfold Dev.spaceWriteWhere Dev.onMem
  cases hbm <;> dsimp only <;> split <;> [rw [Mem.injected_frame]; skip; rw [Mem.injected_frame]; skip] <;> rfl

theorem Dev.spaceWriteWhere_ddr (d : Dev) (hbm : Bool) (a : Nat) (l : List (Bool × Byte)) :
    (d.spaceWriteWhere hbm a l).mem.ddr = if hbm then d.mem.ddr else Memory.writeWhere d.mem.ddr a l := by
  unfold Dev.spaceWriteWhere Dev.onMem
  cases hbm <;> dsimp only <;> split <;> [rw [Mem.injected_frame]; skip; rw [Mem.injected_frame]; skip] <;> rfl

/-- A write with byte enables changes bytes and the check state of words. -/
theorem Dev.spaceWriteWhere_frame (d : Dev) (hbm : Bool) (a : Nat) (l : List (Bool × Byte)) :
    let e := d.spaceWriteWhere hbm a l
    e = { d with mem := { d.mem with hbm := e.mem.hbm, ddr := e.mem.ddr, poison := e.mem.poison, flipped := e.mem.flipped, inject := e.mem.inject } } := by
  unfold Dev.spaceWriteWhere Dev.onMem
  cases hbm <;> dsimp only <;> split <;> [rw [Mem.injected_frame]; skip; rw [Mem.injected_frame]; skip] <;> rfl

/-- Correcting what a read met changes no byte. -/
theorem Dev.correctIn_bytes (d : Dev) (hbm : Bool) (a n : Nat) :
    (d.correctIn hbm a n).mem.hbm = d.mem.hbm ∧ (d.correctIn hbm a n).mem.ddr = d.mem.ddr := by
  have hall : ∀ (l : List (Nat × Nat)) (e : Dev),
      (e.forEach l fun d p => d.correctable p.1 0 false).mem.hbm = e.mem.hbm ∧ (e.forEach l fun d p => d.correctable p.1 0 false).mem.ddr = e.mem.ddr := by
    intro l
    induction l with
    | nil => exact fun e => ⟨rfl, rfl⟩
    | cons p t ih => exact fun e => ih (e.correctable p.1 0 false)
  exact hall _ _

/-! ## Accesses through BAR2 -/

section
variable {s : State} {a : Nat} {en : List Bool} {data : List Byte} (hlen : data.length = en.length) (hend : a + data.length ≤ 0x100000000)
  (hopen : s.bar2Open = true)
include hlen hend hopen

theorem exec_bar2Access_write (hwr : s.flag Reg.mepCtl 1 = true) :
    exec (.bar2Access true a en data) s = .next (s.becomes (s.spaceWriteWhere (s.flag Reg.mepWin 0) (s.winAddr a) (en.zip data))) := by
  have hok : (decide (data.length = en.length) && decide (a + data.length ≤ 0x100000000)) = true := by simp [hlen] at hend ⊢; exact hend
  change execBar2Access true a en data s = _
  unfold execBar2Access
  rw [State.run_next hok]
  simp [hopen, Dev.bar2Write, hwr]

theorem exec_bar2Access_read :
    exec (.bar2Access false a en data) s = .next (s.becomes (s.bar2Read a data.length)) := by
  have hok : (decide (data.length = en.length) && decide (a + data.length ≤ 0x100000000)) = true := by simp [hlen] at hend ⊢; exact hend
  change execBar2Access false a en data s = _
  unfold execBar2Access
  rw [State.run_next hok]
  simp [hopen]

end

/-- A read through BAR2 that meets no poisoned word answers the bytes of the space, and changes none. -/
theorem Dev.bar2Read_of_clean {d : Dev} {a n : Nat} (h : d.poisonIn (d.flag Reg.mepWin 0) (d.winAddr a) n = none) :
    d.bar2Read a n = (d.correctIn (d.flag Reg.mepWin 0) (d.winAddr a) n).emit (.barData (d.spaceRead (d.flag Reg.mepWin 0) (d.winAddr a) n) false) := by
  simp only [Dev.bar2Read, h]

/-- Settles O54: a write is `Memory.writeWhere` on the window's space, and a read answers `Memory.read` of it. -/
theorem windowAccessesAreExact : Obligations.WindowAccessesAreExact := by
  intro s a en data hlen hend hopen hhbm hddr
  refine ⟨fun hwr => ⟨_, exec_bar2Access_write hlen hend hopen hwr, ?_⟩, fun hclean => ⟨_, exec_bar2Access_read hlen hend hopen, ?_⟩⟩
  · generalize s.flag Reg.mepWin 0 = hbm
    obtain ⟨hcanonHbm, hcanonDdr⟩ := s.canonical_spaceWriteWhere hbm (s.winAddr a) (en.zip data) ⟨hhbm, hddr⟩
    refine ⟨hcanonHbm, hcanonDdr, ?_, fun b => ?_, congrArg s.becomes (s.spaceWriteWhere_frame hbm (s.winAddr a) (en.zip data))⟩
    · cases hbm <;> simp [State.becomes, Dev.spaceWriteWhere_hbm, Dev.spaceWriteWhere_ddr]
    · cases hbm
      · simpa [State.becomes, Dev.spaceWriteWhere_ddr] using Memory.get_writeWhere hddr hlen b
      · simpa [State.becomes, Dev.spaceWriteWhere_hbm] using Memory.get_writeWhere hhbm hlen b
  · rw [Dev.bar2Read_of_clean hclean]
    obtain ⟨hkeptHbm, hkeptDdr⟩ := s.correctIn_bytes (s.flag Reg.mepWin 0) (s.winAddr a) data.length
    refine ⟨hkeptHbm, hkeptDdr, _, rfl, Memory.length_read _ _ _, fun i hi => ?_⟩
    cases s.flag Reg.mepWin 0
    · exact Memory.getD_read hddr hi
    · exact Memory.getD_read hhbm hi

/-! ## Poison (R430, R434) -/

theorem wordBytes_pos (m : Nat) : 0 < wordBytes m := by
  unfold wordBytes
  split
  · decide
  · split <;> decide

/-- A write fills a word when the word lies in it and every byte of the word is enabled. -/
theorem wordFilled_zip_iff {hbm : Bool} {a : Nat} {en : List Bool} {data : List Byte} (hlen : data.length = en.length) (p : Nat × Nat) :
    wordFilled hbm a (en.zip data) p = true ↔
      wordCovered hbm a data.length p = true ∧ ∀ i, i < wordBytes p.1 → en.getD (spaceBase p.1 + p.2 - a + i) false = true := by
  have hzip : (en.zip data).length = data.length := by simp [hlen]
  rw [wordFilled, hzip, Bool.and_eq_true]
  refine and_congr_right fun hcov => ?_
  have hend : spaceBase p.1 + p.2 - a + wordBytes p.1 ≤ data.length := by
    simp only [wordCovered, Bool.and_eq_true, decide_eq_true_eq] at hcov
    omega
  generalize spaceBase p.1 + p.2 - a = o at hend ⊢
  rw [List.all_eq_true]
  constructor
  · intro h i hi
    have hen : o + i < en.length := by omega
    have hd : o + i < data.length := by omega
    have := h (en[o + i], data[o + i]) (List.mem_iff_getElem.2 ⟨i, by simp; omega, by simp⟩)
    simpa [List.getElem?_eq_getElem hen] using this
  · intro h x hx
    obtain ⟨i, hi, rfl⟩ := List.mem_iff_getElem.1 hx
    have hi' : i < wordBytes p.1 := by simp at hi; omega
    have hen : o + i < en.length := by omega
    simpa [List.getElem?_eq_getElem hen] using h i hi'

/-- A write that fills a word enables some byte. -/
theorem any_of_wordFilled {hbm : Bool} {a : Nat} {l : List (Bool × Byte)} {p : Nat × Nat} (h : wordFilled hbm a l p = true) :
    (l.any fun x => x.1) = true := by
  simp only [wordFilled, wordCovered, Bool.and_eq_true, decide_eq_true_eq] at h
  obtain ⟨⟨⟨-, hstart⟩, hend⟩, hall⟩ := h
  have hpos := wordBytes_pos p.1
  have hin : spaceBase p.1 + p.2 - a < l.length := by omega
  refine List.any_eq_true.2 ⟨l[spaceBase p.1 + p.2 - a], List.getElem_mem hin, List.all_eq_true.1 hall _ ?_⟩
  exact List.mem_iff_getElem.2 ⟨0, by simp; omega, by simp⟩

/-- Without an armed injection a write with byte enables cleans the words that it fills, and no other. -/
theorem Dev.mem_poison_spaceWriteWhere {d : Dev} (h : d.mem.inject = none) (hbm : Bool) (a : Nat) (l : List (Bool × Byte)) (p : Nat × Nat) :
    p ∈ (d.spaceWriteWhere hbm a l).mem.poison ↔ p ∈ d.mem.poison ∧ wordFilled hbm a l p = false := by
  have hnone : (l.any fun x => x.1) = false → wordFilled hbm a l p = false := fun hany => by
    by_contra hf
    rw [any_of_wordFilled (Bool.eq_true_of_not_eq_false hf)] at hany
    contradiction
  unfold Dev.spaceWriteWhere Dev.onMem
  cases hany : l.any fun x => x.1 <;> cases hbm <;> simp_all [Mem.injected, Mem.merged]

/-- A read through BAR2 that meets a poisoned word answers it as uncorrectable. -/
theorem Dev.bar2Read_of_poisoned {d : Dev} {a n : Nat} {p : Nat × Nat} (hp : p ∈ d.mem.poison)
    (h : wordHit (d.flag Reg.mepWin 0) (d.winAddr a) n p = true) : ∃ l, (d.bar2Read a n).out.head? = some (.barData l true) := by
  obtain ⟨x, hx⟩ := Option.isSome_iff_exists.1 (List.find?_isSome.2 ⟨p, hp, h⟩)
  exact ⟨d.spaceRead (d.flag Reg.mepWin 0) (d.winAddr a) n, by simp [Dev.bar2Read, Dev.poisonIn, hx]⟩

/-- Settles O55: the words that a write fills are the ones it cleans. -/
theorem poisonFollowsWrites : Obligations.PoisonFollowsWrites := by
  intro s p a en data hp hinject hlen hend hopen
  refine ⟨fun hhit => ⟨_, exec_bar2Access_read hlen hend hopen, Dev.bar2Read_of_poisoned hp hhit⟩,
    fun hwr => ⟨_, exec_bar2Access_write hlen hend hopen hwr, ?_⟩⟩
  rw [← wordFilled_zip_iff hlen]
  simp [State.becomes, Dev.mem_poison_spaceWriteWhere hinject, hp]

end Sys2Proof.Machine
end

section
/-! PROOFS. A request that is taken up at once leaves the module that the work of its opcode makes of it (R77). -/

namespace Sys2Proof.Machine

section
variable {s : State} {op n : Nat} {p : Packet} {d e : Dev} {c : Cmd} (h : Started s op p n d c)
include h

/-- The next state of a row of groups 0x00 to 0x03. -/
theorem Started.serve_low (hop : op < 0x0400) (he : d.runLow c = e) : (s.serve p.wf fun x => x.receive op p) = .next (s.serves e) := by
  rw [serve_started h, if_pos hop, he]

/-- The next state of a row of groups 0x04 to 0x07. -/
theorem Started.serve_mid (hlo : 0x0400 ≤ op) (hhi : op < 0x0800) (he : d.runMid c = e) :
    (s.serve p.wf fun x => x.receive op p) = .next (s.serves e) := by
  rw [serve_started h, if_neg (Nat.not_lt.2 hlo), if_pos hhi, he]

/-- The next state of a row of groups 0x08 to 0x0C. -/
theorem Started.serve_high (hlo : 0x0800 ≤ op) (he : d.runHigh c = e) : (s.serve p.wf fun x => x.receive op p) = .next (s.serves e) := by
  rw [serve_started h, if_neg (by omega), if_neg (by omega), he]

end

/-! ## Group 0x00 -/

theorem Dev.runSessionOpen_of_free {d : Dev} {c : Cmd} {k : Nat} (hv : max (c.par 0 1) 0x10 ≤ min (c.par 1 1) 0x12)
    (hroom : (d.sessionAt c.pkt.src).isSome ∨ d.cp.sessions.length < 4096)
    (hk : freeKey Session.id (match d.sessionAt c.pkt.src with | some x => d.closeSession x.id | none => d).cp.sessions 4096 0 = some k) :
    let v := min (c.par 1 1) 0x12
    let e := match d.sessionAt c.pkt.src with | some x => d.closeSession x.id | none => d
    let idle := e.idleAsked c
    let x : Session :=
      { id := k, src := c.pkt.src, version := BitVec.ofNat 8 v, idleMs := idle.1,
        idleAt := if idle.1 = 0 then none else some (e.q + quantaMs idle.1), subs := 0, drops := 0, sent := 0, queue := [], cache := [] }
    let f := { e with cp := { e.cp with sessions := e.cp.sessions ++ [x], peak := max e.cp.peak (e.cp.sessions.length + 1) } }
    d.runSessionOpen c = f.doneClamped { c with session := some k }
      (leBytes 1 v ++ leBytes 1 0x12 ++ leBytes 2 k ++ leBytes 4 idle.1) idle.2 := by
  have hfull : ¬ ((d.sessionAt c.pkt.src).isNone ∧ 4096 ≤ d.cp.sessions.length) := by
    rcases hroom with h | h
    · simp [Option.isNone_iff_eq_none, Option.isSome_iff_ne_none.1 h]
    · exact fun hf => absurd hf.2 (Nat.not_le.2 h)
  rw [Dev.runSessionOpen]
  dsimp only
  rw [if_neg (Nat.not_lt.2 hv), if_neg hfull]
  cases hold : d.sessionAt c.pkt.src <;> rw [hold] at hk <;> simp only [hk]

/-- Settles O1: each row's work under the conditions of its clause. -/
theorem sessionGroupCompletes : Obligations.SessionGroupCompletes := by
  refine ⟨?_, ?_, ?_, ?_, ?_, ?_, ?_, ?_⟩
  · intro s p n d c h
    exact h.serve_low (by decide) (by simp only [Dev.runLow, h.op_eq])
  · intro s p n d c k h v e hv hroom hk
    have hrun : d.runLow c = d.runSessionOpen c := by simp only [Dev.runLow, h.op_eq]
    exact h.serve_low (by decide) (hrun.trans (Dev.runSessionOpen_of_free hv hroom hk))
  · intro s p n d c k h hk
    exact h.serve_low (by decide) (by simp only [Dev.runLow, h.op_eq, Dev.runSessionClose, hk])
  · intro s p n d c h
    exact h.serve_low (by decide) (by simp only [Dev.runLow, h.op_eq, Dev.runVersionQuery])
  · intro s p n d c l h hl hm
    exact h.serve_low (by decide) (by simp [Dev.runLow, h.op_eq, Dev.runStepContinue, hl, hm])
  · intro s p n d c l h hl hm
    exact h.serve_low (by decide) (by simp [Dev.runLow, h.op_eq, Dev.runStepRelease, hl, hm])
  · intro s p n d c l h hl hc
    exact h.serve_low (by decide) (by simp [Dev.runLow, h.op_eq, Dev.runStepCancel, hl, hc])
  · intro s p n d c h
    exact h.serve_low (by decide) (by simp only [Dev.runLow, h.op_eq, Dev.runLongopQuery])

end Sys2Proof.Machine
end

section
/-! PROOFS. Groups 0x01 and 0x02 under the conditions of their clauses: namespaces, takes and media (R77). -/

namespace Sys2Proof.Machine

theorem Dev.makeObject_of_free {d : Dev} {c : Cmd} {kind : ObjKind} {blocks stripes k : Nat} {l : List ClampEntry}
    (hf : d.objectFault stripes = none) (hk : d.freeObject = some k) :
    d.makeObject c kind blocks stripes l = d.changeAll c
      [.objCreate { num := k, kind := kind, livery := c.livery, blocks := blocks, length := 0, accepted := 0, reserved := stripes,
                    frames := [], ordinal := 0,
                    chunks := if stripes = 0 then [] else [(freeChunks d.allRuns (chunksFor stripes), chunksFor stripes)] }]
      (leBytes 2 k ++ leBytes 6 0) l := by
  simp only [Dev.makeObject, hf, hk]

/-- Settles O2: each row's work under the conditions of its clause. -/
theorem objectGroupCompletes : Obligations.ObjectGroupCompletes := by
  refine ⟨?_, ?_, ?_, ?_, ?_, ?_, ?_, ?_, ?_⟩
  · intro s p n d c k h v lb stripes hf hk
    exact h.serve_low (by decide) (by simp only [Dev.runLow, h.op_eq]; exact Dev.makeObject_of_free hf hk)
  · intro s p n d c k h v stripes hf hk
    exact h.serve_low (by decide) (by simp only [Dev.runLow, h.op_eq]; exact Dev.makeObject_of_free hf hk)
  · intro s p n d c o h ho hkind
    exact h.serve_low (by decide) (by rcases hkind with hk | hk <;> simp [Dev.runLow, h.op_eq, Dev.runDelete, ho, hk])
  · intro s p n d c o h ho hkind
    exact h.serve_low (by decide) (by rcases hkind with hk | hk <;> simp [Dev.runLow, h.op_eq, Dev.runDelete, ho, hk])
  · intro s p n d c o h ho hkind
    exact h.serve_low (by decide) (by simp [Dev.runLow, h.op_eq, Dev.runNsFormat, ho, hkind])
  · intro s p n d c o h ho
    exact h.serve_low (by decide) (by simp [Dev.runLow, h.op_eq, Dev.runObjQuery, ho])
  · intro s p n d c o h ho htake
    exact h.serve_low (by decide) (by simp [Dev.runLow, h.op_eq, Dev.runObjQuery, ho, htake])
  · intro s p n d c o h ho hkind
    exact h.serve_low (by decide) (by simp [Dev.runLow, h.op_eq, Dev.runTakeClose, ho, Option.filter_some, hkind])
  · intro s p n d c o h ho hkind
    exact h.serve_low (by decide) (by simp [Dev.runLow, h.op_eq, Dev.runTakeExport, ho, hkind])

/-- A READ_TO of at least one byte whose object, mode, queue and extent are sound starts its read. -/
theorem Dev.runReadTo_of_extent {d : Dev} {c : Cmd} {o : Obj} {mode : Nat} {x : Nat × Nat × List ClampEntry} (ho : d.objOf c = some o)
    (hm : (if 2 < c.par 2 1 then 0 else c.par 2 1) = mode) (hkind : mode ≠ 0 → o.isTake = true) (hrq : d.rqOpen (c.par 4 4) c.livery = true)
    (hx : readExtent o c.pkt.params mode = .ok x) (hbytes : x.2.1 ≠ 0) :
    let first := x.1 / 4096
    let clamps := replaceParam c.pkt.params 2 0 8 3 mode ++ reservedParam c.pkt.params 3 1 7 ++ x.2.2
    d.runReadTo c = (d.onCmd c.id fun c => { c with phase := .running, aux := clampsToNats clamps }).startRead
      (.packet c.id) c.livery o.num mode first (ceilDiv (x.1 + x.2.1) 4096 - first) x.1 x.2.1 (c.par 4 4) (c.par 24 8) (c.par 32 4)
      (bit (c.par 3 1) 0) d.q := by
  have htake : ¬ (mode ≠ 0 ∧ (!o.isTake) = true) := fun hb => by simp [hkind hb.1] at hb
  simp only [Dev.runReadTo, ho, hm, if_neg htake, hrq, Bool.not_true, Bool.false_eq_true, if_false, hx, if_neg hbytes]
  rfl

/-- Settles O3: each row's work under the conditions of its clause. -/
theorem mediaGroupCompletes : Obligations.MediaGroupCompletes := by
  refine ⟨?_, ?_, ?_, ?_⟩
  · intro s p n d c r h hr hroom
    exact h.serve_low (by decide) (by simp only [Dev.runLow, h.op_eq, Dev.runCommit, hr, hroom, if_true])
  · intro s p n d c h work hroom
    exact h.serve_low (by decide) (by simp only [Dev.runLow, h.op_eq]; exact if_pos hroom)
  · intro s p n d c o x h ho mode hmode hrq hx hbytes
    have hrun : d.runLow c = d.runReadTo c := by simp only [Dev.runLow, h.op_eq]
    exact h.serve_low (by decide) (hrun.trans (Dev.runReadTo_of_extent ho rfl hmode hrq hx hbytes))
  · intro s p n d c o h ho htake
    exact h.serve_low (by decide) (by simp [Dev.runLow, h.op_eq, Dev.runFrameIndexQuery, ho, Option.filter_some, htake])

end Sys2Proof.Machine
end

section
/-! PROOFS. Groups 0x03 to 0x05 under the conditions of their clauses: Inkwells and requester queues, the array, the patrol and the rebuild
(R77). -/

namespace Sys2Proof.Machine

/-- Settles O4: each row's work under the conditions of its clause. -/
theorem accessGroupCompletes : Obligations.AccessGroupCompletes := by
  refine ⟨?_, ?_, ?_, ?_, ?_, ?_⟩
  · intro s p n d c o k e h
    dsimp only
    intro ho hblock hpages hink
    have hin : ¬ (bit (c.par 12 4) 31 = true ∧ o.blocks ≤ c.par 16 8) := fun hb => absurd (hblock hb.1) (Nat.not_lt.2 hb.2)
    refine h.serve_low (by decide) ?_
    simp only [Dev.runLow, h.op_eq, Dev.runInkRegister, ho, if_neg hin,
      if_neg (Nat.not_lt.2 hpages), hink]
  · intro s p n d c k h hk hlivery hrev
    exact h.serve_low (by decide) (by simp [Dev.runLow, h.op_eq, Dev.runInkRevoke, hk, Option.filter_some, hlivery, hrev] <;> rfl)
  · intro s p n d c k h hk hlivery
    exact h.serve_low (by decide) (by simp [Dev.runLow, h.op_eq, Dev.runInkQuery, hk, Option.filter_some, hlivery])
  · intro s p n d c q h hmode hq hroom
    exact h.serve_low (by decide) (by simp only [Dev.runLow, h.op_eq, Dev.runRqCreate, hmode, hq, if_neg (Nat.not_le.2 hroom)]; rfl)
  · intro s p n d c q r h hq hr
    exact h.serve_low (by decide) (by simp only [Dev.runLow, h.op_eq, Dev.runRqDestroy, hq, hr])
  · intro s p n d c q h hq hroom
    exact h.serve_low (by decide) (by simp only [Dev.runLow, h.op_eq, Dev.runRqFlush, hq, hroom, if_true])

/-- Settles O5: each row's work under the conditions of its clause. -/
theorem arrayGroupCompletes : Obligations.ArrayGroupCompletes := by
  refine ⟨?_, ?_, ?_, ?_, ?_, ?_, ?_⟩
  · intro s p n d c h
    dsimp only
    intro hforce hslots hg
    have hexists : ¬ (d.lay.geo.isSome && !bit (c.par 11 1) 0) = true := by
      cases hgeo : d.lay.geo.isSome <;> simp [hgeo] at hforce ⊢
      exact hforce
    have hall : ¬ ((createSlots c.pkt.params).any fun k => !(d.slotAt k).usable) = true := by simpa using hslots
    refine h.serve_mid (by decide) (by decide) ?_
    simp only [Dev.runMid, h.op_eq, Dev.runArrayCreate, if_neg hexists, if_neg hall]
    exact if_pos hg
  · intro s p n d c h
    exact h.serve_mid (by decide) (by decide) (by simp only [Dev.runMid, h.op_eq, Dev.runArrayQuery])
  · intro s p n d c h hm
    exact h.serve_mid (by decide) (by decide) (by simp only [Dev.runMid, h.op_eq, Dev.runMemberQuery, if_neg (Nat.not_le.2 hm)])
  · intro s p n d c h
    exact h.serve_mid (by decide) (by decide) (by simp only [Dev.runMid, h.op_eq])
  · intro s p n d c h hlive htrig hwork
    have hforce : ¬ (2 ≤ d.workMembers ∧ (!bit (c.par 1 1) 0) = true) := fun hb => by simp [hwork hb.1] at hb
    have hfail : d.runMemberFail c = (d.onCmd c.id fun c => { c with phase := .running }).failTrigger (c.par 0 1) (some c.id) := by
      simp only [Dev.runMemberFail, hlive, htrig, Bool.not_true, Bool.or_self, Bool.false_eq_true, if_false, if_neg hforce]
    exact h.serve_mid (by decide) (by decide) (by simp only [Dev.runMid, h.op_eq, Dev.failMember, hfail])
  · intro s p n d c h hm hstate hjobs hk husable hcap hfree
    refine h.serve_mid (by decide) (by decide) ?_
    have hjob : ¬ (d.rly.jobs.any fun j => j.member == c.par 0 1) = true := by simpa using hjobs
    have hsound : ¬ (d.members ≤ c.par 0 1 ∨ d.memberState (c.par 0 1) ≠ 1 ∨ (d.rly.jobs.any fun j => j.member == c.par 0 1) = true) := by
      rintro (hb | hb | hb) <;> [omega; exact hb hstate; exact hjob hb]
    have hslot : ¬ (48 ≤ c.par 1 1 ∨ (!(d.slotAt (c.par 1 1)).usable) = true ∨ (d.slotAt (c.par 1 1)).capacity < d.geo.u * d.geo.b ∨
        (d.memberAt (c.par 1 1)).isSome = true) := by
      simp [husable, hfree]; omega
    simp only [Dev.runMid, h.op_eq, Dev.runMemberReplace, if_neg hsound, if_neg hslot]
  · intro s p n d c h
    exact h.serve_mid (by decide) (by decide) (by simp only [Dev.runMid, h.op_eq, Dev.runLostQuery])

/-- Settles O6: each row's work under the conditions of its clause. -/
theorem patrolRebuildGroupCompletes : Obligations.PatrolRebuildGroupCompletes := by
  refine ⟨?_, ?_, ?_, ?_, ?_, ?_, ?_⟩
  · intro s p n d c h
    exact h.serve_mid (by decide) (by decide) (by simp only [Dev.runMid, h.op_eq, Dev.runOtrConfigure])
  · intro s p n d c h hfirst
    exact h.serve_mid (by decide) (by decide) (by simp only [Dev.runMid, h.op_eq, Dev.runOtrPass, if_neg (Nat.not_le.2 hfirst)])
  · intro s p n d c h
    exact h.serve_mid (by decide) (by decide) (by simp only [Dev.runMid, h.op_eq, Dev.runOtrSuspectQuery])
  · intro s p n d c h
    exact h.serve_mid (by decide) (by decide) (by simp only [Dev.runMid, h.op_eq, Dev.runRlyConfigure])
  · intro s p n d c h
    exact h.serve_mid (by decide) (by decide) (by simp only [Dev.runMid, h.op_eq, Dev.runRlyQuery])
  · intro s p n d c h hfirst
    exact h.serve_mid (by decide) (by decide) (by simp only [Dev.runMid, h.op_eq, Dev.runRlyPass, if_neg (Nat.not_le.2 hfirst)])
  · intro s p n d c h hm hstate
    exact h.serve_mid (by decide) (by decide) (by simp [Dev.runMid, h.op_eq, Dev.runRlyCopyback, hstate, Nat.not_le.2 hm])

end Sys2Proof.Machine
end

section
/-! PROOFS. Groups 0x06 to 0x0C under the conditions of their clauses: liveries, Ruling, keys and failover, events and monitors, register
lists, firmware and power (R77). -/

namespace Sys2Proof.Machine

/-! ## Group 0x06 -/

/-- LVY_MAP_PID changes its entries and reports their fields in order. -/
theorem Dev.runLvyMapPid_eq (d : Dev) (c : Cmd) :
    let pp := c.pkt.params
    let i := clampParam pp 0 0 16 0 1023
    let k := clampParam pp 2 0 16 1 (min 1019 (1024 - i.1))
    let change (j : Nat) : MetaChange :=
      .liveryMap (i.1 + j) (clampParam pp (8 + 8 * j) 0 24 0 0xFFFFF).1 (clampParam pp (8 + 8 * j + 3) 0 24 0 0xFFFFF).1 (c.par (8 + 8 * j + 6) 1)
        (bit (c.par (8 + 8 * j + 7) 1) 0)
    let report (j : Nat) : List ClampEntry :=
      (clampParam pp (8 + 8 * j) 0 24 0 0xFFFFF).2 ++ (clampParam pp (8 + 8 * j + 3) 0 24 0 0xFFFFF).2 ++ reservedParam pp (8 + 8 * j + 7) 1 7
    d.runLvyMapPid c = d.changeAll c ((List.range k.1).map change) [] (i.2 ++ k.2 ++ (List.range k.1).flatMap report) := by
  simp only [Dev.runLvyMapPid, List.map_map, List.flatMap_map]
  rfl

/-- Settles O7: each row's work under the conditions of its clause. -/
theorem liveryGroupCompletes : Obligations.LiveryGroupCompletes := by
  refine ⟨?_, ?_, ?_, ?_, ?_, ?_, ?_, ?_, ?_, ?_⟩
  · intro s p n d c h hfree
    exact h.serve_mid (by decide) (by decide) (by simp [Dev.runMid, h.op_eq, Dev.runLvyCreate, hfree])
  · intro s p n d c h hzero hlivery howns
    have hexists : ¬ (c.target = 0 ∨ (d.livery? c.target).isNone = true) := by
      rw [Option.isSome_iff_ne_none] at hlivery
      simp [hzero, hlivery]
    have hforce : ¬ (!bit (c.par 1 1) 0 && d.lay.objects.any fun o => o.livery == c.target) = true := fun hb => by
      rw [Bool.and_eq_true] at hb
      simp [howns hb.2] at hb
    refine h.serve_mid (by decide) (by decide) ?_
    simp only [Dev.runMid, h.op_eq, Dev.runLvyDelete, if_neg hexists, if_neg hforce]
  · intro s p n d c h hlivery
    have hexists : ¬ (d.livery? c.target).isNone = true := by simpa [Option.isSome_iff_ne_none] using hlivery
    exact h.serve_mid (by decide) (by decide) (by simp only [Dev.runMid, h.op_eq, Dev.runLvyConfigure, if_neg hexists] <;> rfl)
  · intro s p n d c h
    have hrun : d.runMid c = d.runLvyMapPid c := by simp only [Dev.runMid, h.op_eq]
    exact h.serve_mid (by decide) (by decide) (hrun.trans (d.runLvyMapPid_eq c))
  · intro s p n d c h hlivery
    have hexists : ¬ (d.livery? c.target).isNone = true := by simpa [Option.isSome_iff_ne_none] using hlivery
    exact h.serve_mid (by decide) (by decide) (by simp only [Dev.runMid, h.op_eq, Dev.runLvyReset, if_neg hexists, beq_iff_eq])
  · intro s p n d c h
    refine ⟨fun hstate => h.serve_mid (by decide) (by decide) ?_, fun hstate => h.serve_mid (by decide) (by decide) ?_⟩ <;>
      rcases hstate with hs | hs <;> simp only [Dev.runMid, h.op_eq, Dev.runLvyFreeze, hs]
  · intro s p n d c h hstate
    dsimp only
    intro hrq hbuf
    have hqueue : ¬ ((if 2 < c.par 1 1 then 0 else c.par 1 1) = 2 ∧ (!d.rqOpen (c.par 4 4) c.livery) = true) := fun hb => by
      simp [hrq hb.1] at hb
    have hbusy : ¬ ((if 2 < c.par 1 1 then 0 else c.par 1 1) ≠ 2 ∧ (clampParam c.pkt.params 2 0 8 0 3).1 ∈ d.lvy.busyBuffers) := fun hb =>
      hbuf hb.1 hb.2
    refine h.serve_mid (by decide) (by decide) ?_
    simp only [Dev.runMid, h.op_eq, Dev.runLvySave, hstate, if_neg hqueue, if_neg hbusy, ne_eq, not_true_eq_false, if_false]
  · intro s p n d c h hlivery
    have hexists : ¬ (d.livery? c.target).isNone = true := by simpa [Option.isSome_iff_ne_none] using hlivery
    exact h.serve_mid (by decide) (by decide) (by simp only [Dev.runMid, h.op_eq, Dev.runLvyRestore, if_neg hexists])
  · intro s p n d c h
    refine ⟨fun hs => ?_, fun hs => ?_, fun hs => ?_⟩ <;>
      exact h.serve_mid (by decide) (by decide) (by simp only [Dev.runMid, h.op_eq, Dev.runLvyThaw, hs])
  · intro s p n d c h hlivery
    have hexists : ¬ (d.livery? c.target).isNone = true := by simpa [Option.isSome_iff_ne_none] using hlivery
    exact h.serve_mid (by decide) (by decide) (by simp only [Dev.runMid, h.op_eq, Dev.runLvyQuery, if_neg hexists])

/-! ## Group 0x07 -/

/-- Settles O8: each row's work under the conditions of its clause. -/
theorem rulingGroupCompletes : Obligations.RulingGroupCompletes := by
  refine ⟨?_, ?_, ?_, ?_, ?_⟩
  · intro s p n d c h
    exact h.serve_mid (by decide) (by decide) (by simp only [Dev.runMid, h.op_eq, Dev.runRulQuery])
  · intro s p n d c h
    exact h.serve_mid (by decide) (by decide) (by simp only [Dev.runMid, h.op_eq, Dev.runRulConfigure])
  · intro s p n d c h
    refine ⟨fun hswap => h.serve_mid (by decide) (by decide) ?_, fun hswap => h.serve_mid (by decide) (by decide) ?_⟩ <;>
      simp [Dev.runMid, h.op_eq, Dev.runRulTableLoad, hswap, List.flatMap_map, List.foldl_map]
  · intro s p n d c h hon hstarted
    exact h.serve_mid (by decide) (by decide) (by simp [Dev.runMid, h.op_eq, Dev.runRulPulse, hon, hstarted])
  · intro s p n d c r h hr
    exact h.serve_mid (by decide) (by decide) (by simp only [Dev.runMid, h.op_eq, Dev.runRulConvert, hr])

/-! ## Groups 0x08 and 0x09 -/

/-- Settles O9: each row's work under the conditions of its clause. -/
theorem keyFailoverGroupsComplete : Obligations.KeyFailoverGroupsComplete := by
  refine ⟨?_, ?_, ?_, ?_, ?_, ?_, ?_⟩
  · intro s p n d c h hslot hfault
    exact h.serve_high (by decide) (by simp only [Dev.runHigh, h.op_eq, Dev.runKeyLoad, if_neg (Nat.not_le.2 hslot), hfault]; rfl)
  · intro s p n d c h hslot hstate
    have hsound : ¬ (64 ≤ c.par 0 1 ∨ (d.keySlot (c.par 0 1)).state = 0) := by simp [hstate, hslot]
    exact h.serve_high (by decide) (by simp only [Dev.runHigh, h.op_eq, Dev.runKeyClear, if_neg hsound]; rfl)
  · intro s p n d c h hslot hsucc
    exact h.serve_high (by decide) (by
      simp only [Dev.runHigh, h.op_eq, Dev.runKeySuccessor, if_neg (Nat.not_le.2 hslot), hsucc, if_true, Dev.setSuccessor])
  · intro s p n d c h hslot
    exact h.serve_high (by decide) (by simp only [Dev.runHigh, h.op_eq, Dev.runKeyQuery, if_neg (Nat.not_le.2 hslot)])
  · intro s p n d c h
    exact h.serve_high (by decide) (by simp only [Dev.runHigh, h.op_eq, Dev.runFovConfigure])
  · intro s p n d c h
    exact h.serve_high (by decide) (by simp only [Dev.runHigh, h.op_eq, Dev.runFovQuery])
  · intro s p n d c h hrole hlist hready
    have hserved : ¬ ((carriedList c.pkt.params).1.any fun n => (d.livery? n).isNone) = true := by
      simpa [Option.isSome_iff_ne_none] using hlist
    refine h.serve_high (by decide) ?_
    simp only [Dev.runHigh, h.op_eq, Dev.runFovHandover, hrole, if_neg hserved, hready, ne_eq, not_true_eq_false, if_false, Bool.not_true,
      Bool.false_eq_true]

/-! ## Group 0x0A -/

/-- Settles O10: each row's work under the conditions of its clause. -/
theorem monitorGroupCompletes : Obligations.MonitorGroupCompletes := by
  refine ⟨?_, ?_, ?_, ?_, ?_, ?_, ?_, ?_, ?_, ?_⟩
  · intro s p n d c k h hk
    exact h.serve_high (by decide) (by simp only [Dev.runHigh, h.op_eq, Dev.runEvtSubscribe, hk] <;> rfl)
  · intro s p n d c k h hk
    exact h.serve_high (by decide) (by simp only [Dev.runHigh, h.op_eq, Dev.runEvtUnsubscribe, hk] <;> rfl)
  · intro s p n d c h hfirst
    exact h.serve_high (by decide) (by simp only [Dev.runHigh, h.op_eq, Dev.runEvtMask, if_neg (Nat.not_lt.2 hfirst)])
  · intro s p n d c h hfirst
    exact h.serve_high (by decide) (by simp only [Dev.runHigh, h.op_eq, Dev.runPmcConfigure, if_neg (Nat.not_lt.2 hfirst)])
  · intro s p n d c h
    exact h.serve_high (by decide) (by simp only [Dev.runHigh, h.op_eq, Dev.runPmcSnapshot])
  · intro s p n d c h
    exact h.serve_high (by decide) (by simp only [Dev.runHigh, h.op_eq, Dev.runPmcQuery])
  · intro s p n d c h
    exact h.serve_high (by decide) (by simp only [Dev.runHigh, h.op_eq, Dev.runLmonConfigure])
  · intro s p n d c h hi
    exact h.serve_high (by decide) (by simp only [Dev.runHigh, h.op_eq, Dev.runLmonQuery, if_neg (Nat.not_lt.2 hi)])
  · intro s p n d c h
    exact h.serve_high (by decide) (by simp only [Dev.runHigh, h.op_eq, Dev.runWblQuery] <;> rfl)
  · intro s p n d c h
    exact h.serve_high (by decide) (by simp only [Dev.runHigh, h.op_eq, Dev.runWblClear])

/-! ## Groups 0x0B and 0x0C -/

/-- A register list whose offsets are sound, by a command that is still there after it, replies with its entries. -/
theorem Dev.runReg_of_sound {d : Dev} {c : Cmd} {each most : Nat} (hoff : badOffset c.pkt.params each (clampParam c.pkt.params 0 0 16 1 most).1 = none)
    (hcmd : ((d.regAccesses c.op c.pkt.params each (clampParam c.pkt.params 0 0 16 1 most).1).1.cmd? c.id).isSome = true) :
    let k := clampParam c.pkt.params 0 0 16 1 most
    let r := d.regAccesses c.op c.pkt.params each k.1
    d.runReg c each most = r.1.doneClamped c r.2 k.2 := by
  simp only [Dev.runReg, hoff, hcmd, if_true]

/-- Settles O11: each row's work under the conditions of its clause. -/
theorem registerModuleGroupsComplete : Obligations.RegisterModuleGroupsComplete := by
  refine ⟨?_, ?_, ?_, ?_, ?_, ?_, ?_, ?_⟩
  · intro s p n d c h k r hoff hcmd
    have hrun : d.runHigh c = d.runReg c 4 2000 := by simp only [Dev.runHigh, h.op_eq]
    refine h.serve_high (by decide) (hrun.trans ?_)
    simpa only [h.op_eq] using Dev.runReg_of_sound hoff (by rw [h.op_eq]; exact hcmd)
  · intro s p n d c h k r hoff hcmd
    have hrun : d.runHigh c = d.runReg c 8 1000 := by simp only [Dev.runHigh, h.op_eq]
    refine h.serve_high (by decide) (hrun.trans ?_)
    simpa only [h.op_eq] using Dev.runReg_of_sound hoff (by rw [h.op_eq]; exact hcmd)
  · intro s p n d c h k r hoff hcmd
    have hrun : d.runHigh c = d.runReg c 16 500 := by simp only [Dev.runHigh, h.op_eq]
    refine h.serve_high (by decide) (hrun.trans ?_)
    simpa only [h.op_eq] using Dev.runReg_of_sound hoff (by rw [h.op_eq]; exact hcmd)
  · intro s p n d c h
    exact h.serve_high (by decide) (by simp only [Dev.runHigh, h.op_eq, Dev.runFwQuery])
  · intro s p n d c h
    dsimp only
    intro hbusy hlo hhi
    have hlen : ¬ (c.par 4 4 < 32 ∨ 50331648 < c.par 4 4) := by omega
    exact h.serve_high (by decide) (by simp only [Dev.runHigh, h.op_eq, Dev.runFwUpdate, if_neg hbusy, if_neg hlen])
  · intro s p n d c h
    dsimp only
    intro hstate
    exact h.serve_high (by decide) (by simp only [Dev.runHigh, h.op_eq, Dev.runFwActivate, hstate, ne_eq, not_true_eq_false, if_false])
  · intro s p n d c h
    exact h.serve_high (by decide) (by simp only [Dev.runHigh, h.op_eq, Dev.runModReset])
  · intro s p n d c h
    exact h.serve_high (by decide) (by simp only [Dev.runHigh, h.op_eq, Dev.runPowerState])

end Sys2Proof.Machine
end

section
/-! PROOFS. Register accesses under the conditions of their clauses (R14, R528 to R532): what a write and a read of a register that is served
do, then the rows of the table for them. -/

namespace Sys2Proof.Machine

/-! ## Writes and reads of a register that is served -/

section
variable {d e : Dev} {m : Master} {off v : Nat} (hb : d.blockServed (off / 0x10000) = true) (hr : isRegister off = true)
include hb hr

/-- A write in a block of the control fabric makes its unit do what it does. -/
theorem Dev.writeReg_control (hlo : off < 0x100000) (h : d.writeControl off v = some e) : d.writeReg m off v = e := by
  simp [Dev.writeReg, hb, hr, hlo, h]

/-- A write in a block of the media path makes its unit do what it does. -/
theorem Dev.writeReg_media (hhi : 0x100000 ≤ off) (h : d.writeMedia off v = some e) : d.writeReg m off v = e := by
  simp [Dev.writeReg, hb, hr, Nat.not_lt.2 hhi, h]

/-- Any other write is taken by its access types and clamps. -/
theorem Dev.writeReg_plain (h : (if off < 0x100000 then d.writeControl off v else d.writeMedia off v) = none) :
    d.writeReg m off v = d.applyWrite off v := by
  simp [Dev.writeReg, hb, hr, h]

/-- A read of the low half of a 64-bit value keeps the high half. -/
theorem Dev.readReg_wide {w : Nat} (hpmc : off / 0x10000 ≠ 7) (h : d.wide off = some w) :
    d.readReg m off = (w % 2 ^ 32, d.setRaw (off + 4) (w / 2 ^ 32)) := by
  simp [Dev.readReg, hb, hr, hpmc, Dev.peek, h]

end

section
variable {s : State} {ok : Bool} {m : Master} {off v : Nat} {e : Dev} (hok : ok = true) (hb : s.blockServed (off / 0x10000) = true)
  (hr : isRegister off = true)
include hok hb hr

theorem State.writes_control (hlo : off < 0x100000) (h : s.writeControl off v = some e) : s.writes ok m off v = .next (s.serves e) := by
  rw [State.writes, State.serve_next hok, Dev.writeReg_control hb hr hlo h]

theorem State.writes_media (hhi : 0x100000 ≤ off) (h : s.writeMedia off v = some e) : s.writes ok m off v = .next (s.serves e) := by
  rw [State.writes, State.serve_next hok, Dev.writeReg_media hb hr hhi h]

theorem State.writes_plain (h : (if off < 0x100000 then s.writeControl off v else s.writeMedia off v) = none) :
    s.writes ok m off v = .next (s.serves (s.applyWrite off v)) := by
  rw [State.writes, State.serve_next hok, Dev.writeReg_plain hb hr h]

end

theorem bit_setBit_self (n i : Nat) : bit (setBit n i) i = true := by simp [bit_setBit]

/-! ## Ports, Turnpike and shapers -/

/-- A write of ETH_CTL with APPLY makes its port take up its settings. -/
theorem Dev.writeMedia_ethCtl (d : Dev) {k v : Nat} (hk : k < 12) (hv : bit v 4 = true) :
    d.writeMedia (0x100000 + 0x10000 * k) v = some ((d.applyWrite (0x100000 + 0x10000 * k) v).applyPort k) := by
  have hin : 0x100000 ≤ 0x100000 + 0x10000 * k ∧ 0x100000 + 0x10000 * k < 0x1C0000 := by omega
  have hfirst : (0x100000 + 0x10000 * k) % 0x10000 = 0 := by omega
  have hport : (0x100000 + 0x10000 * k) / 0x10000 - 0x10 = k := by omega
  simp only [Dev.writeMedia, if_pos hin, if_pos hfirst, hv, hport, if_true]

theorem isRegister_ethCtl {k : Nat} (hk : k < 12) : isRegister (0x100000 + 0x10000 * k) = true := by
  have hall : ∀ k < 12, isRegister (0x100000 + 0x10000 * k) = true := by decide +kernel
  exact hall k hk

/-- Settles O12: each row is the write of one register. -/
theorem switchRegistersComplete : Obligations.SwitchRegistersComplete := by
  refine ⟨?_, ?_, ?_, ?_, ?_⟩
  · intro s m k v hk hb
    have hblock : (0x100000 + 0x10000 * k) / 0x10000 = 0x10 + k := by omega
    exact State.writes_media (decide_eq_true hk) (hblock ▸ hb) (isRegister_ethCtl hk) (Nat.le_add_right _ _)
      (s.writeMedia_ethCtl hk (bit_setBit_self _ _))
  · intro s m v hb
    exact State.writes_media rfl hb rfl (by decide) (congrArg some (if_pos (bit_setBit_self _ _)))
  · intro s m v hb
    exact State.writes_media rfl hb rfl (by decide) (congrArg some (if_pos (bit_setBit_self _ _)))
  · intro s m hb
    exact State.writes_media rfl hb rfl (by decide) rfl
  · intro s m v hb
    exact State.writes_media rfl hb rfl (by decide) (congrArg some (if_pos (bit_setBit_self _ _)))

/-! ## Ruling -/

/-- Settles O13: each row is the access of one register. -/
theorem rulingRegistersComplete : Obligations.RulingRegistersComplete := by
  refine ⟨?_, ?_, ?_, ?_, ?_⟩
  · intro s m v hb
    exact State.writes_control rfl hb rfl (by decide) rfl
  · intro s m v hb hrelock
    have hw : s.writeControl Reg.rulCtl v.toNat =
        some (((s.applyWrite Reg.rulCtl v.toNat).rulEnable (s.flag Reg.rulCtl 0) (bit v.toNat 0)).forceHold (s.flag Reg.rulCtl 3) (bit v.toNat 3)) :=
      congrArg some (if_neg (by simp [hrelock]))
    have hnext := State.writes_control (m := m) (ok := true) rfl hb rfl (by decide) hw
    exact ⟨hnext, hnext⟩
  · intro s m hb hswap
    refine State.writes_control rfl hb rfl (by decide) (congrArg some (?_ : s.requestSwap = _))
    simp only [Dev.requestSwap, hswap]
  · intro s m hb
    exact State.writes_control rfl hb rfl (by decide) rfl
  · intro s m hb
    change (s.serve true fun d => d.readBy m Reg.rulNowLo) = _
    have hread := Dev.readReg_wide (m := m) (off := Reg.rulNowLo) hb rfl (by decide) rfl
    rw [State.serve_next rfl]
    cases m <;> simp only [Dev.readBy, hread]

/-! ## Layout, drive ports and slots -/

/-- The control register of a drive port takes its settings, then RETRAIN and FORMAT. -/
theorem Dev.writeMedia_portCtl (d : Dev) {k : Nat} (v : Nat) (hk : k < 48) : d.writeMedia (portCtl k) v = some (d.writePort (portCtl k) v) := by
  have hlo : 0x2B0000 ≤ portCtl k := by simp only [portCtl, Reg.dpqCtl]; omega
  have hhi : portCtl k < 0x370000 := by simp only [portCtl, Reg.dpqCtl]; omega
  have haligned : portCtl k % 16 = 0 := by simp only [portCtl, Reg.dpqCtl]; omega
  have hne : ∀ c < 0x2B0000, portCtl k ≠ c := fun c hc => by omega
  have heth : ¬ (0x100000 ≤ portCtl k ∧ portCtl k < 0x1C0000) := by omega
  simp only [Dev.writeMedia, if_neg heth, hlo, hhi, haligned, and_self, if_true, hne Reg.tpkTblCmd (by decide), hne Reg.tssShpCmd (by decide),
    hne Reg.tssPolCtl (by decide), hne Reg.tdmTblCmd (by decide), hne Reg.tdmCtl (by decide), hne Reg.tdmTiming (by decide),
    hne Reg.tdmBudget (by decide), hne Reg.inkCtl (by decide), hne Reg.hqeBindData (by decide), hne Reg.rltIdx (by decide),
    hne Reg.lvyCfg (by decide), hne Reg.lvyMapLast (by decide), hne Reg.layLocCmd (by decide), hne Reg.nibDidx (by decide),
    hne Reg.bltCtl (by decide), or_self, if_false]

theorem isRegister_portCtl {k : Nat} (hk : k < 48) : isRegister (portCtl k) = true := by
  have hall : ∀ k < 48, isRegister (portCtl k) = true := by decide +kernel
  exact hall k hk

theorem Dev.writeReg_portCtl {d : Dev} {k : Nat} (m : Master) (v : Nat) (hk : k < 48) (hb : d.blockServed (0x2B + k / 4) = true) :
    d.writeReg m (portCtl k) v = d.writePort (portCtl k) v := by
  have hblock : portCtl k / 0x10000 = 0x2B + k / 4 := by simp only [portCtl, Reg.dpqCtl]; omega
  exact Dev.writeReg_media (hblock ▸ hb) (isRegister_portCtl hk) (by simp only [portCtl, Reg.dpqCtl]; omega) (d.writeMedia_portCtl v hk)

theorem bit_eq_false_of_lt {n i : Nat} (h : n < 2 ^ i) : bit n i = false := by rw [bit_eq_testBit, Nat.testBit_lt_two_pow h]

section
variable {s : State} {m : Master} (hb : s.blockServed 0x37 = true) (hactive : s.isActive = true)

include hactive in
theorem Dev.slotCommand_of_active (v : Nat) :
    let k := min 47 (s.fld Reg.sltIdx 0 6)
    let d := s.setFld (bank Reg.sltCmd k) 0 2 v
    let e := if bit v 2 then ((d.holdPort k).onSlot k fun x =>
      { x with drive := if x.present then .initialising else .absent, escStep := 0, escAt := none }).powerOff k true else d
    let f := if bit v 3 then (e.powerOff k false).slotFails k else e
    s.slotCommand v = if bit v 4 then f.powerOn k else f := by
  simp only [Dev.slotCommand, hactive, Bool.not_true, Bool.false_eq_true, if_false]

include hb in
/-- A write of SLT_CMD with ATTN of the indexed slot as it is and one more bit set. -/
theorem State.serve_slotBit (b : Nat) :
    (s.serve true fun d => d.slotBit m b) =
      .next (s.serves (s.slotCommand (setBit (s.fld (bank Reg.sltCmd (min 47 (s.fld Reg.sltIdx 0 6))) 0 2) b))) := by
  rw [State.serve_next rfl, Dev.slotBit, Dev.writeReg_media (off := Reg.sltCmd) hb rfl (by decide) rfl]

/-- ATTN has no bit of a command. -/
theorem bit_setBit_attn (d : Dev) (k : Nat) {b i : Nat} (hi : 2 ≤ i) : bit (setBit (d.fld (bank Reg.sltCmd k) 0 2) b) i = decide (b = i) := by
  have hlt : d.fld (bank Reg.sltCmd k) 0 2 < 2 ^ i := lt_of_lt_of_le (bits_lt _ _ _) (Nat.pow_le_pow_right (by decide) hi)
  rw [bit_setBit, bit_eq_false_of_lt hlt, Bool.false_or]

end

/-- Settles O14: each row is the write of one register. -/
theorem driveRegistersComplete : Obligations.DriveRegistersComplete := by
  refine ⟨?_, ?_, ?_, ?_, ?_⟩
  · intro s m v hb
    exact State.writes_media rfl hb rfl (by decide) rfl
  · intro s m v hb
    exact State.writes_plain rfl hb rfl rfl
  · intro s m k hk hb
    have hok : wfDrive k = true := decide_eq_true hk
    have hwrite (v : Nat) := Dev.writeReg_portCtl m v hk hb
    constructor
    · change (s.serve (wfDrive k) fun d => d.writeReg m (portCtl k) (setBit (d.raw (portCtl k)) 2)) = _
      rw [State.serve_next hok, hwrite]
      rfl
    · change (s.serve (wfDrive k) fun d => d.writeReg m (portCtl k) (setBit (d.raw (portCtl k)) 3)) = _
      rw [State.serve_next hok, hwrite]
      rfl
  · intro s m v hb hactive
    refine State.writes_media rfl hb rfl (by decide) (congrArg some ?_)
    have hclear (i : Nat) (hi : 2 ≤ i) : bit (v.toNat % 4) i = false :=
      bit_eq_false_of_lt (lt_of_lt_of_le (Nat.mod_lt _ (by decide : 4 > 0)) (Nat.pow_le_pow_right (by decide : 2 > 0) hi : 4 ≤ 2 ^ i))
    rw [Dev.slotCommand_of_active hactive]
    simp only [hclear, Nat.reduceLeDiff, Bool.false_eq_true, if_false]
  · intro s m hb hactive
    refine ⟨(State.serve_slotBit hb 2).trans ?_, (State.serve_slotBit hb 3).trans ?_, (State.serve_slotBit hb 4).trans ?_⟩ <;>
      simp [Dev.slotCommand_of_active hactive, bit_setBit_attn]

/-! ## The check-value engine -/

/-- Settles O15: each row is the write of one register. -/
theorem keyRegistersComplete : Obligations.KeyRegistersComplete := by
  refine ⟨?_, ?_, ?_⟩
  · intro s m hb hsound
    refine State.writes_control rfl hb rfl (by decide) (congrArg some (?_ : s.keyCmdLoad = _))
    simp only [Dev.keyCmdLoad, hsound, Option.isSome_none, Bool.false_eq_true, if_false]
  · intro s m hb hused
    exact State.writes_control rfl hb rfl (by decide) (congrArg some (if_neg hused))
  · intro s m hb hfailed
    change (s.serve true fun d => d.writeReg m Reg.cveCtl (setBit (d.raw Reg.cveCtl) 1)) = _
    have hwrite : s.writeControl Reg.cveCtl (setBit (s.raw Reg.cveCtl) 1) =
        some (s.applyWrite Reg.cveCtl (setBit (s.raw Reg.cveCtl) 1)).entRestartNow := congrArg some (if_pos (bit_setBit_self _ _))
    have hkept : (s.applyWrite Reg.cveCtl (setBit (s.raw Reg.cveCtl) 1)).cve.ent = 2 := hfailed
    rw [State.serve_next rfl, Dev.writeReg_control hb rfl (by decide) hwrite, Dev.entRestartNow, if_pos hkept]

/-! ## Pools, windows, liveries, snapshots, bindings and Inkwell space -/

/-- Settles O16: each row is the write of one register. -/
theorem unitRegistersComplete : Obligations.UnitRegistersComplete := by
  refine ⟨?_, ?_, ?_, ?_, ?_, ?_, ?_, ?_, ?_, ?_⟩
  · intro s m v r hb k hrange
    refine State.writes_media rfl hb rfl (by decide) (congrArg some (?_ : s.writeHeadroom v.toNat = _))
    simp only [Dev.writeHeadroom, show poolHdrmRange (min 14 (s.fld Reg.drlPoolIdx 0 4)) = some r from hrange, k]
  · intro s m v hb
    exact State.writes_media rfl hb rfl (by decide) rfl
  · intro s m v hb
    exact State.writes_plain rfl hb rfl rfl
  · intro s m v hb
    exact State.writes_control rfl hb rfl (by decide) rfl
  · intro s m v hb
    exact State.writes_media rfl hb rfl (by decide) rfl
  · intro s m v hb hlivery
    exact State.writes_media rfl hb rfl (by decide) (congrArg some (if_pos hlivery))
  · intro s m v hb
    exact State.writes_media rfl hb rfl (by decide) rfl
  · intro s m v hb
    exact State.writes_media rfl hb rfl (by decide) rfl
  · intro s m v hb
    exact ⟨fun hw => State.writes_media rfl hb rfl (by decide) (congrArg some (if_pos hw)),
      fun hw => State.writes_media rfl hb rfl (by decide) (congrArg some (if_neg (Nat.not_lt.2 hw)))⟩
  · intro s m v hb
    exact State.writes_media rfl hb rfl (by decide) rfl

end Sys2Proof.Machine
end

section
/-! PROOFS. Rows of Waybill, the ladder, the entropy source, the catalogue and Ruling under the conditions of their clauses: the next state is
what the row's effect makes of the module. -/

namespace Sys2Proof.Machine

/-! ## The next state by an equation of modules -/

theorem State.run_becomes {s : State} {ok : Bool} {f : Dev → Dev} {e : Dev} (hok : ok = true) (h : f s.toDev = e) :
    s.run ok f = .next (s.becomes e) := by
  rw [State.run_next hok, h]

theorem State.act_settles {s : State} {ok : Bool} {f : Dev → Dev} {e : Dev} (hok : ok = true) (h : f s.toDev = e) :
    s.act ok f = .next (s.settles e) := by
  rw [State.act_next hok, h]

theorem State.serve_serves {s : State} {ok : Bool} {f : Dev → Dev} {e : Dev} (hok : ok = true) (h : f s.toDev = e) :
    s.serve ok f = .next (s.serves e) := by
  rw [State.serve_next hok, h]

/-! ## Waybill, the ladder, the entropy source and the catalogue -/

theorem Dev.writeRecord_of_queue {d : Dev} {r : WblRecord} {rest : List WblRecord} (h : d.wbl.queue = r :: rest) :
    let b := d.wbl.headBlock
    let e := if d.wbl.headSlot = 0 then d.eraseBlock (d.wbl.nextGood b) else d
    d.writeRecord = e.onWbl fun w =>
      { w with queue := rest, ring := w.ring ++ [⟨b, w.headSlot, r⟩]
               headBlock := if w.headSlot = 511 then w.nextGood b else b, headSlot := if w.headSlot = 511 then 0 else w.headSlot + 1 } := by
  simp only [Dev.writeRecord, h]

/-- Settles O18: each row's effect under the conditions of its clause. -/
theorem recordAndSourceRowsComplete : Obligations.RecordAndSourceRowsComplete := by
  refine ⟨?_, ?_, ?_, ?_, ?_, ?_, ?_, ?_⟩
  · intro s r rest hscanned hqueue
    change execWblRecordWrite s = _
    rw [execWblRecordWrite, State.run_next rfl, if_pos hscanned, Dev.writeRecord_of_queue hqueue]
  · intro s hscanned hqueue
    change execWblFault s = _
    rw [execWblFault, State.run_next rfl, if_pos hscanned, Dev.blockFails, if_neg (by simp [hqueue])]
  · intro s m htrig hqueued
    change execWblManual m s = _
    rw [execWblManual, State.run_next rfl, Dev.trigger, if_pos htrig]
    simp only [hqueued, Bool.false_eq_true, if_false]
  · intro s level t hlo hhi hstall
    change execLevelStall level s = _
    rw [execLevelStall, State.run_next (by simp [hlo, hhi])]
    simp only [hstall]
  · intro s repetition hent
    change execEntropyHealth repetition s = _
    rw [execEntropyHealth, State.run_next rfl, if_neg hent]
  · intro s hent
    change execEntropyRestartDone true s = _ ∧ execEntropyRestartDone false s = _
    simp only [execEntropyRestartDone, State.run_next, hent, if_true, Bool.false_eq_true, if_false, and_self]
  · intro s g t hdirty hon hstate hactive hseg
    change execCheckpointInterval g s = _
    have hdue : (s.flag Reg.layCkpt 16 && s.lay.state == 3 && s.isActive && s.dirtySegments.contains g) = true := by
      simp [hon, hstate, hactive, hseg]
    rw [execCheckpointInterval, State.run_next rfl]
    simp only [hdirty, hdue, if_true]
  · intro s g t hdirty
    change execCkptLag g s = _
    rw [execCkptLag, State.run_next rfl]
    simp only [hdirty]

/-! ## Ruling -/

/-- A house frame that ends with the right count of lines and the right period is good, and no count stays bad. -/
theorem Dev.houseFrame_of_good {d : Dev} {t : Nat} (hlast : d.rul.house.last = some t) (hlines : d.rul.house.lines = d.rul.judged.lpf)
    (hperiod : d.rul.judged.periodOk (d.q - t) = true) :
    d.houseFrame = (d.onRul fun r =>
      { r with house := { r.house with last := some d.q, lines := 0, good := r.house.good + 1, badCounts := 0,
                                       frame := (r.house.frame + 1) % 2 ^ 32 } }).afterReference 1 := by
  simp only [Dev.houseFrame, hlast, hlines, hperiod, beq_self_eq_true, Bool.and_self, if_true, Nat.reduceLeDiff, if_false] <;> rfl

/-- Settles O19: each row's effect under the conditions of its clause. -/
theorem rulingEdgeRowsComplete : Obligations.RulingEdgeRowsComplete := by
  refine ⟨?_, ?_, ?_, ?_, ?_, ?_⟩
  · intro s at_ t hon hstarted hlast hlines hperiod
    change execHouseFrameEdge at_ s = _
    have hrun : ((s.upTo at_).flag Reg.rulCtl 0 && (s.upTo at_).rul.started) = true := by simp [hon, hstarted]
    rw [execHouseFrameEdge]
    exact State.run_becomes rfl ((if_pos hrun).trans (Dev.houseFrame_of_good hlast hlines hperiod))
  · intro s at_
    rfl
  · intro s source t hsource hdeadline
    change execSourceLost source s = _
    rw [execSourceLost, State.run_next (decide_eq_true hsource)]
    simp only [hdeadline]
  · intro s t hacq hstate hbest
    change (_ → execAcqTimeout s = _) ∧ (_ → execAcqTimeout s = _)
    have hdue : s.rul.state = .acquire ∧ s.bestSource = none := ⟨hstate, hbest⟩
    refine ⟨fun hline => ?_, fun hline => ?_⟩ <;> rw [execAcqTimeout, State.run_next rfl] <;>
      simp only [hacq, if_pos hdue, Dev.upTo_rul, hline, if_true, Bool.false_eq_true, if_false]
  · intro s
    rfl
  · intro s
    change (_ → execFrameStart s = _) ∧ (_ → execFrameStart s = _)
    unfold execFrameStart
    exact ⟨fun hswap => State.run_becomes rfl (if_neg (by simp [hswap])), fun hswap => State.run_becomes rfl (if_pos hswap)⟩

end Sys2Proof.Machine
end

section
/-! PROOFS. Rows of the write path, of the read path, Outrider and Relay, and of events and monitors under the conditions of their clauses. -/

namespace Sys2Proof.Machine

/-! ## The write path -/

/-- Settles O20: each row's effect under the conditions of its clause. -/
theorem nibRowsComplete : Obligations.NibRowsComplete := by
  refine ⟨?_, ?_, ?_, ?_, ?_⟩
  · intro s i x e hx hwants hsince hroom hstopped halloc
    change execDrainSlotGrant i s = _
    rw [execDrainSlotGrant]
    refine State.run_becomes rfl ?_
    have hdue : (x.wantsSlot && x.waitingSince == (s.nib.descs.filter Desc.wantsSlot).foldl (fun a x => min a x.waitingSince) s.q &&
        decide ((s.nib.descs.filter Desc.hasSlot).length < s.drainSlots) && !s.blt.stopped) = true := by
      simp [hwants, ← hsince, hroom, hstopped]
    simp only [hx, hdue, halloc, if_true] <;> rfl
  · intro s i x strip block w c t hx hstate hw hc hsent hstrip hblock hin hroom
    change (_ → _ → execDriveBlockFetch i strip block s = _) ∧ (_ → ∀ y, _ → execDriveBlockFetch i strip block s = _)
    have hok : (decide (strip < 32) && decide (block < 256)) = true := by simp [hstrip, hblock]
    have hserved : ¬ (c.at_.isNone || !(x.state == .draining || x.state == .parity) || decide (s.geo.b ≤ block) || !s.cveRoom) = true := by
      rcases hstate with hs | hs <;> simp [hsent, hs, hin, hroom]
    unfold execDriveBlockFetch
    refine ⟨fun hdata hclean => State.run_becomes hok ?_, fun hparity y hy => State.run_becomes hok ?_⟩
    · simp only [hx, hw, Option.bind_some, hc, if_neg hserved, if_pos hdata, hclean, Bool.false_eq_true, if_false]
    · simp only [hx, hw, Option.bind_some, hc, if_neg hserved, if_neg (Nat.not_lt.2 hparity), hy]
  · intro s i x t hx hstate hclose
    change execDescriptorClosePoint i s = _
    rw [execDescriptorClosePoint]
    refine State.run_becomes rfl ?_
    simp only [hx, if_pos hstate, hclose]
  · intro s i x o hx hstate hclose ho htake htail hon
    change execDescriptorIdleClose i s = _
    rw [execDescriptorIdleClose]
    refine State.run_becomes rfl ?_
    simp [hx, hstate, hclose, ho, htake, htail, hon]
  · intro s i x hx hstate hpath
    change execSubStripeAdmit i s = _
    rw [execSubStripeAdmit]
    have hwaits : (x.state == .closing && (x.path == .merge || x.path == .small || x.path == .recon)) = true := by
      rcases hpath with hp | hp | hp <;> simp [hstate, hp]
    refine State.run_becomes rfl ?_
    simp only [hx, hwaits, if_true]

/-! ## The read path, Outrider and Relay -/

/-- Settles O21: each row's effect under the conditions of its clause. -/
theorem passRowsComplete : Obligations.PassRowsComplete := by
  refine ⟨?_, ?_, ?_⟩
  · intro s id r hr hgranted hsubmitted
    dsimp only
    intro hfree
    change (_ → execReadGranuleGrant id s = _) ∧ (_ → execReadGranuleGrant id s = _)
    have hask : (r.granted && !r.submitted) = true := by simp [hgranted, hsubmitted]
    unfold execReadGranuleGrant
    refine ⟨fun hnone => State.run_becomes rfl ?_, fun hall => State.run_becomes rfl ?_⟩
    · simp only [hr, hask, if_true, Dev.askGranules, hfree, hnone, Bool.false_eq_true, if_false]
    · simp only [hr, hask, if_true, Dev.askGranules, hfree, hall, Bool.false_eq_true, if_false] <;> rfl
  · intro s hstart
    have hmay : ¬ (!s.otrMayStart) = true := by simp [hstart]
    refine ⟨fun psi rest hrepair hskip => ?_, fun hrepair hskip => ?_⟩
    all_goals
      change execOtrCheckStart s = _
      rw [execOtrCheckStart]
      refine State.run_becomes rfl ?_
      simp only [if_neg hmay, hrepair, Dev.otrBegin, hskip, Bool.false_eq_true, if_false, if_true]
  · intro s hphase
    dsimp only
    intro hstate hwork hstopped
    have hready : ¬ (s.relayTick.judgeRaised.lay.state ≠ 3 ∨ s.relayTick.judgeRaised.rly.work.isSome = true ∨
        s.relayTick.judgeRaised.blt.stopped = true) := by simp [hstate, hwork, hstopped]
    change (_ → _ → execRelayStep s = _) ∧ (_ → _ → execRelayStep s = _) ∧ (_ → _ → _ → (_ → execRelayStep s = _) ∧ (_ → (_ → execRelayStep s = _) ∧
      (∀ k, _ → execRelayStep s = _)))
    unfold execRelayStep
    refine ⟨fun hp hnone => State.run_becomes rfl ?_, fun hp hsome => State.run_becomes rfl ?_, fun hp hon hpass =>
      ⟨fun hend => State.run_becomes rfl ?_, fun hmore => ⟨fun hj => State.run_becomes rfl ?_, fun k hj => State.run_becomes rfl ?_⟩⟩⟩
    · simp only [if_neg hphase, if_neg hready, hp, hnone, List.isEmpty_nil, if_true]
    · simp only [if_neg hphase, if_neg hready, hp, List.isEmpty_iff, if_neg hsome]
    all_goals
      have hrun : ¬ (!s.relayTick.judgeRaised.flag Reg.rlyCtl 0 || s.relayTick.judgeRaised.rly.pass.isSome) = true := by simp [hon, hpass]
      simp only [if_neg hphase, if_neg hready]
      split
      · omega
      · omega
    · rw [if_neg hrun, if_pos hend]
    · rw [if_neg hrun, if_neg (Nat.not_le.2 hmore), hj]
    · rw [if_neg hrun, if_neg (Nat.not_le.2 hmore), hj]

/-! ## Events, counters and monitors -/

/-- Settles O22: each row's effect under the conditions of its clause. -/
theorem eventAndMonitorRowsComplete : Obligations.EventAndMonitorRowsComplete := by
  refine ⟨?_, ?_, ?_, ?_, ?_, ?_, ?_, ?_, ?_, ?_, ?_⟩
  · intro s k x e rest hx hqueue hfresh hready
    change execEventPacketSend k s = _
    rw [execEventPacketSend]
    refine State.run_becomes rfl ?_
    have hserved : ¬ (!s.transportReady x) = true := by simp [hready]
    simp only [hx, Dev.sendEvent, hqueue]
    exact (if_neg (ne_true_of_eq_false hfresh)).trans (if_neg hserved)
  · intro s m g v hg
    exact if_pos (decide_eq_true hg)
  · intro s m g v hg
    exact if_pos (decide_eq_true hg)
  · intro s u rest hinflight
    change execPmcUpdateArrival s = _
    rw [execPmcUpdateArrival]
    refine State.run_becomes rfl ?_
    simp only [Dev.pmcArrive, hinflight] <;> rfl
  · intro s m v
    rfl
  · intro s m
    rfl
  · intro s m v
    rfl
  · intro s m v
    rfl
  · intro s m
    rfl
  · intro s m
    rfl
  · intro s m v
    rfl

end Sys2Proof.Machine
end

section
/-! PROOFS. Rows of the module endpoint and of failover: the next state under the conditions of each clause, and the claim that is lost, which
leaves the module STANDBY. -/

namespace Sys2Proof.Machine

/-! ## The module endpoint -/

/-- Settles O23: each row's effect under the conditions of its clause. -/
theorem endpointRowsComplete : Obligations.EndpointRowsComplete := by
  refine ⟨?_, ?_, ?_, ?_, ?_, ?_, ?_, ?_, ?_, ?_⟩
  · intro s m r ci hr hci
    exact if_pos (by simp [hr, hci])
  · intro s m c v hc
    exact if_pos hc
  · intro s c x ending data hc hstate hbme
    change execDmaDescriptorDone c x ending data s = _
    have hrun : ¬ ((s.dma c).state ≠ 1 ∨ (!s.mep.bme) = true) := by simp [hstate, hbme]
    rw [execDmaDescriptorDone]
    exact State.run_becomes hc (if_neg hrun)
  · intro s m c hc hstate
    change execDmaResume m c s = _
    rw [execDmaResume]
    exact State.run_becomes hc (if_pos hstate)
  · intro s
    change (_ → execBmeChange true s = _) ∧ (_ → execBmeChange false s = _)
    unfold execBmeChange
    refine ⟨fun hbme => State.run_becomes rfl ?_, fun hbme => State.run_becomes rfl ?_⟩ <;> simp [Dev.setBme, hbme]
  · intro s a en data hlen hend hopen
    refine ⟨fun hwr => exec_bar2Access_write hlen hend hopen hwr, fun hclean => ?_, fun hpoison => ?_⟩
    · rw [exec_bar2Access_read hlen hend hopen, Dev.bar2Read_of_clean hclean]
    · obtain ⟨p, hp⟩ := Option.ne_none_iff_exists'.1 hpoison
      rw [exec_bar2Access_read hlen hend hopen, Dev.bar2Read]
      simp only [show s.poisonIn (s.flag Reg.mepWin 0) (s.winAddr a) data.length = some p from hp]
  · intro s
    exact ⟨rfl, rfl, rfl⟩
  · intro s speed width hspeed hwidth hchange
    change execEpLinkChange speed width s = _
    rw [execEpLinkChange]
    exact State.run_becomes (by simp [hspeed, hwidth]) (if_neg (by tauto))
  · intro s v
    refine ⟨rfl, rfl, rfl, fun hreset => ?_, fun r hr hother hmask hbars => ?_⟩
    · exact congrArg (fun d => Host.Outcome.next (s.becomes d)) (if_pos hreset)
    · change execConfigSpaceWrite r v s = _
      rw [execConfigSpaceWrite]
      refine State.run_becomes (decide_eq_true hr) ?_
      simp only [List.mem_cons, List.not_mem_nil, or_false, not_or] at hother
      obtain ⟨hcommand, hpower, hmsix, hdevice⟩ := hother
      simp only [Dev.configWrite, if_neg hcommand, if_neg hpower, if_neg hmsix, if_neg hdevice, hmask, hbars, Bool.false_eq_true, or_self, if_false]
  · intro s off hon
    have hserved : ¬ (!s.smbOn) = true := by simp [hon]
    change (_ → execSmbusAddr off true s = _ ∧ execSmbusAddr off false s = _) ∧ execSmbusStatus s = _ ∧ execSmbusTimeout s = _
    unfold execSmbusAddr execSmbusStatus execSmbusTimeout
    exact ⟨fun hoff => ⟨State.run_becomes (decide_eq_true hoff) (if_neg hserved), State.run_becomes (decide_eq_true hoff) (if_neg hserved)⟩,
      State.run_becomes rfl (if_pos hon), State.run_becomes rfl (if_pos hon)⟩

/-! ## A claim that is lost (R401, R403) -/

/-- The module in slot B claims, and the guard runs. -/
def claimingDev : State :=
  { State.reset with
    fov := { State.reset.fov with role := .claiming, guardAt := some 5 }
    pins := { State.reset.pins with slotIdStrap := true } }

/-- It loses the claim, is INIT again, finds ACT_PEER high and becomes STANDBY. -/
theorem role_claimLost_claimingDev : (match exec .claimLost claimingDev with | .next t => t.fov.role | _ => .init) = .standby := by decide +kernel

/-- Refutes O24: the clause of CLAIM_LOST leaves the module in INIT, where the model's module goes on to STANDBY in the same step. -/
theorem not_failoverRowsComplete : ¬ Obligations.FailoverRowsComplete := by
  unfold Obligations.FailoverRowsComplete
  rintro ⟨-, -, hlost, -⟩
  have hrole := role_claimLost_claimingDev
  rw [hlost claimingDev 5 rfl rfl rfl] at hrole
  contradiction

end Sys2Proof.Machine
end

section
/-! PROOFS. Rows of power entry, start-up and reset under the conditions of their clauses. -/

namespace Sys2Proof.Machine

/-! ## Power entry -/

section
variable {d : Dev} {mv : Nat} (hgone : d.pes.inputGone = false)
include hgone

/-- The input of a running module that stays inside the window may lie near an edge of it. -/
theorem Dev.inputAt_on_inside (hstate : d.pes.state = .on) (hlo : 42000 < mv) (hhi : mv < 62000) :
    let e := d.onPes fun p => { p with inputMv := mv }
    let f := if mv < 44000 then e.raise 0x007 else e
    d.inputAt mv = if 60000 < mv then f.raise 0x008 else f := by
  simp [Dev.inputAt, Dev.onPes, hgone, hstate, Nat.not_le.2 hlo, Nat.not_le.2 hhi]

/-- An overvoltage turns the FET of a running or ramping module off. -/
theorem Dev.inputAt_over (hstate : d.pes.state = .on ∨ d.pes.state = .ramp) (hhi : 62000 ≤ mv) :
    d.inputAt mv = ((d.onPes fun p => { p with inputMv := mv }).pesFault 1).fetOff .ov := by
  rcases hstate with hs | hs <;> simp [Dev.inputAt, Dev.onPes, hgone, hs, hhi]

/-- An undervoltage turns the FET of a running or ramping module off. -/
theorem Dev.inputAt_under (hstate : d.pes.state = .on ∨ d.pes.state = .ramp) (hlo : mv ≤ 42000) :
    d.inputAt mv = ((d.onPes fun p => { p with inputMv := mv }).pesFault 0).fetOff .off := by
  have hover : ¬ 62000 ≤ mv := by omega
  rcases hstate with hs | hs <;> simp [Dev.inputAt, Dev.onPes, hgone, hs, hlo, hover]

/-- From OFF and from OV the input enters the window. -/
theorem Dev.inputAt_enters (hstate : d.pes.state = .off ∨ d.pes.state = .ov) (hin : inWindow d.pes.state mv = true) (hlo : 42000 < mv)
    (hhi : mv < 62000) : d.inputAt mv = (d.onPes fun p => { p with inputMv := mv }).inputEnters := by
  rcases hstate with hs | hs <;> rw [hs] at hin <;> simp [Dev.inputAt, Dev.onPes, hgone, hs, hin, Nat.not_le.2 hlo, Nat.not_le.2 hhi]

end

/-- Settles O25: each row's effect under the conditions of its clause. -/
theorem powerRowsComplete : Obligations.PowerRowsComplete := by
  refine ⟨?_, ?_, ?_, ?_, ?_, ?_, ?_, ?_, ?_, ?_, ?_, ?_, ?_, ?_, ?_⟩
  · intro s mv hgone
    have hexec : mv < 65536 → exec (.inputThreshold mv) s = .next (s.becomes (s.inputAt mv)) := fun hmv => if_pos (decide_eq_true hmv)
    refine ⟨fun hs hlo hhi => ?_, fun hs hlo hhi => ?_, fun hs hlo hhi => ?_, fun hs hlo hhi => ?_, fun hs hlo => ?_, fun hs hlo hhi => ?_,
      fun hs hlo hhi => ?_⟩
    · rw [hexec (by omega), Dev.inputAt_on_inside hgone hs (by omega) (by omega), if_neg (by omega), if_neg (by omega)]
    · rw [hexec (by omega), Dev.inputAt_on_inside hgone hs hlo (by omega), if_pos hhi, if_neg (by omega)]
    · rw [hexec (by omega), Dev.inputAt_on_inside hgone hs (by omega) hhi, if_pos hlo, if_neg (by omega)]
    · rw [hexec hhi, Dev.inputAt_over hgone hs hlo]
    · rw [hexec (by omega), Dev.inputAt_under hgone hs hlo]
    · rw [hexec (by omega), Dev.inputAt_enters hgone (.inl hs) (by simp [hs, inWindow, hlo, hhi]) (by omega) hhi]
    · rw [hexec (by omega), Dev.inputAt_enters hgone (.inr hs) (by simp [hs, inWindow, hlo, hhi]) hlo (by omega)]
  · intro s t ht hs
    change execInsertionDelayExpiry s = _
    rw [execInsertionDelayExpiry]
    refine State.run_becomes rfl ?_
    simp only [ht, if_pos hs, Dev.startRamp]
  · intro s hs
    change execInrushTrip s = _ ∧ execEnergyTrip s = _ ∧ execPowerGood s = _
    unfold execInrushTrip execEnergyTrip execPowerGood
    exact ⟨State.run_becomes rfl (if_pos hs), State.run_becomes rfl (if_pos hs), State.run_becomes rfl (if_pos hs)⟩
  · intro s hs
    change execBreakerTrip s = _ ∧ execFastTrip s = _
    unfold execBreakerTrip execFastTrip
    exact ⟨State.run_becomes rfl (if_pos hs), State.run_becomes rfl (if_pos hs)⟩
  · intro s hs hgone
    have hend : s.pes.state = .cool ∧ (!s.pes.inputGone) = true := by simp [hs, hgone]
    change (_ → execOfftimeExpiry s = _) ∧ (_ → _ → execOfftimeExpiry s = _) ∧ (_ → _ → execOfftimeExpiry s = _)
    unfold execOfftimeExpiry
    refine ⟨fun hen => State.run_becomes rfl ((if_pos hend).trans ?_), fun hen hin => State.run_becomes rfl ((if_pos hend).trans ?_),
      fun hen hout => State.run_becomes rfl ((if_pos hend).trans ?_)⟩
    · simp [hen]
    · simp [hen, hin]
    · simp [hen, hout]
  · intro s t ht
    change execRetryCountReset s = _
    rw [execRetryCountReset]
    refine State.run_becomes rfl ?_
    simp only [ht]
  · intro s hen hs
    change execPwrEnInChange false s = _
    rw [execPwrEnInChange]
    refine State.run_becomes rfl ?_
    simp [Dev.pwrEnIn, hen, hs]
  · intro s hen hs hin
    change execPwrEnInChange true s = _
    rw [execPwrEnInChange]
    refine State.run_becomes rfl ?_
    simp [Dev.pwrEnIn, hen, hs, Dev.onPins, Dev.onPes, hin] <;> rfl
  · intro s m
    rfl
  · intro s t ht
    change execPartnerCycleEnd s = _
    rw [execPartnerCycleEnd]
    refine State.run_becomes rfl ?_
    simp only [ht]
  · intro s
    rfl
  · intro s t ht hgone
    change execKeptStateExpiry s = _
    rw [execKeptStateExpiry]
    refine State.run_becomes rfl ?_
    simp only [ht, hgone, if_true]
  · intro s hpin hint
    change execPwrFailAsserted s = _ ∧ (_ → _ → execPfInternalThreshold s = _)
    unfold execPwrFailAsserted execPfInternalThreshold
    refine ⟨State.run_becomes rfl ?_, fun hon hmv => State.run_becomes rfl ?_⟩
    · simp only [hpin, hint, Bool.false_eq_true, if_false]
    · simp [hon, hmv, hint, Dev.pwrFail, hpin]
  · intro s hfail
    change execPwrFailDeasserted s = _
    rw [execPwrFailDeasserted]
    exact State.run_becomes rfl (if_pos hfail)
  · intro s t ht hin
    change execPwrFailReleased s = _
    rw [execPwrFailReleased]
    refine State.run_becomes rfl ?_
    simp only [ht]
    exact if_pos hin

/-! ## Start-up and reset -/

/-- Settles O26: each row's effect under the conditions of its clause. -/
theorem startupRowsComplete : Obligations.StartupRowsComplete := by
  refine ⟨?_, ?_, ?_, ?_⟩
  · intro s hreset hfailed hdone
    have hrun : ¬ (s.clk.inReset || s.clk.failed || s.clk.done) = true := by simp [hreset, hfailed, hdone]
    refine ⟨fun hzero => ?_, fun hzero hend => ?_⟩
    · change s.run true Dev.stepComplete = _
      exact State.run_becomes rfl ((if_neg hrun).trans (if_pos hzero))
    · dsimp only
      intro hon
      change s.run true Dev.stepComplete = _
      refine State.run_becomes rfl ?_
      have hmay : ¬ (!s.stepMayEnd s.clk.step) = true := by simp [hend]
      simp only [Dev.stepComplete, if_neg hrun, if_neg hzero, if_neg hmay, hon, Bool.false_eq_true, if_false]
  · intro s hreset hfailed hdone hstep
    change execStartStepSlow s = _ ∧ (∀ cause, _ → _ → _ → execStartStepFailed cause s = _) ∧ (_ → _ → execDrivesLate s = _)
    unfold execStartStepSlow execStartStepFailed execDrivesLate
    refine ⟨State.run_becomes rfl (if_pos (by simp [hreset, hfailed, hdone, hstep])), fun cause hlo hhi hfail => ?_, fun hs hlate => ?_⟩
    · exact State.run_becomes (by simp [hlo, hhi]) (if_pos (by simp [hreset, hfailed, hdone, hfail]))
    · exact State.run_becomes rfl (if_pos (by simp [hdone, hs, hlate]))
  · intro s
    refine ⟨rfl, fun hactive => ?_⟩
    exact congrArg (fun d => Host.Outcome.next (s.becomes d)) (if_pos hactive)
  · intro s m
    rfl

end Sys2Proof.Machine
end

section
/-! PROOFS. Rows of Tandem, Turnpike, the shapers and long operations under the conditions of their clauses. -/

namespace Sys2Proof.Machine

/-! ## Tandem, Turnpike and the shapers -/

/-- Settles O27: each row's effect under the conditions of its clause. -/
theorem switchRowsComplete : Obligations.SwitchRowsComplete := by
  refine ⟨?_, ?_, ?_, ?_, ?_, ?_, ?_, ?_, ?_, ?_, ?_, ?_, ?_⟩
  · intro s k hk hup hrole hon hid
    change execHelloSend k s = _
    rw [execHelloSend]
    exact State.run_becomes hk (if_pos (by simp [hup, hrole, hon, hid]))
  · intro s k hk hstate
    change execHelloLoss k s = _
    rw [execHelloLoss]
    exact State.run_becomes hk (if_pos hstate)
  · intro s source flow c hsource hflow hc hheld
    change execReseqContextFree source flow s = _
    rw [execReseqContextFree]
    refine State.run_becomes (by simp [hsource, hflow]) ?_
    simp only [Dev.reseqFree, hc, hheld, List.isEmpty_nil, if_true]
  · intro s link prio p hlink hprio hp
    have hok : (wfLink link && wfPrio prio) = true := by simp [hlink, hprio]
    change execPauseTimerExpiry link prio s = _ ∧ (_ → _ → execPfcWatchdog link prio s = _)
    unfold execPauseTimerExpiry execPfcWatchdog
    refine ⟨State.run_becomes hok ?_, fun hbark hdue => State.run_becomes hok (Dev.pfcBarks_of_paused hp hbark hdue)⟩
    simp only [Dev.pauseEnds, hp]
  · intro s link prio x hlink hprio hx
    change execXoffRepeat link prio s = _
    rw [execXoffRepeat]
    refine State.run_becomes (by simp [hlink, hprio]) ?_
    simp only [Dev.xoffAgain, hx]
  · intro s link hlink hup hfree
    have hserved : ¬ (!s.linkUp link || decide (s.q < s.busyUntil link)) = true := by simp [hup, hfree]
    change (_ → execLinkTxSelect link s = _) ∧ (_ → (∀ p, _ → execLinkTxSelect link s = _) ∧ (∀ p a n, _ → _ → execLinkTxSelect link s = _))
    unfold execLinkTxSelect
    refine ⟨fun hctl => State.run_becomes hlink ?_, fun hctl => ⟨fun p hp => State.run_becomes hlink ?_, fun p a n hp hpick => State.run_becomes hlink ?_⟩⟩
    · simp only [Dev.linkSelect, if_neg hserved, hctl, if_true]
    · simp only [Dev.linkSelect, if_neg hserved, hctl, Bool.false_eq_true, if_false, hp]
    · simp only [Dev.linkSelect, if_neg hserved, hctl, Bool.false_eq_true, if_false, hp, hpick]
  · intro s port livery f rest hport hpick hlist
    change (_ → execFairQueueSelect port s = _) ∧ (∀ g t, _ → execFairQueueSelect port s = _)
    unfold execFairQueueSelect
    refine ⟨fun hrest => State.run_becomes hport ?_, fun g t hrest => State.run_becomes hport ?_⟩ <;>
      simp only [Dev.fairSelect, hpick, hlist, hrest]
  · intro s
    rfl
  · intro s hfresh
    change execStorageAttachmentServe s = _
    rw [execStorageAttachmentServe]
    exact State.run_becomes rfl (if_pos hfresh)
  · intro s link prio f rest hlink hprio hlist hgated hopen hend hlong
    change execGateRunOpen link prio s = _
    rw [execGateRunOpen]
    refine State.run_becomes (by simp [hlink, hprio]) ?_
    simp only [Dev.gateOpens, hlist, hgated, hopen, hend, hlong, decide_true, Bool.and_self, if_true]
  · intro s port l corr hport hl hcorr
    exact if_pos (by simp [hport, hl, hcorr])
  · intro s link hlink hexists
    change (_ → _ → _ → execEthLinkChange link true s = _) ∧ (_ → execEthLinkChange link false s = _)
    unfold execEthLinkChange
    refine ⟨fun hdown hen hcage => State.run_becomes hlink ?_, fun hup => State.run_becomes hlink ?_⟩
    · simp [Dev.linkChange, hexists, hdown, hen, hcage]
    · simp [Dev.linkChange, hexists, hup]
  · intro s link hlink hup hrole hport hsync
    change execDelayReqSend link s = _
    rw [execDelayReqSend]
    exact State.run_becomes hlink (if_pos (by simp [hup, hrole, hport, hsync]))

/-! ## Long operations -/

/-- Settles O28: each row's effect under the conditions of its clause. -/
theorem longOperationRowsComplete : Obligations.LongOperationRowsComplete := by
  refine ⟨?_, ?_, ?_⟩
  · intro s slot l hslot hl hruns
    change execLongopStep slot s = _
    rw [execLongopStep]
    refine State.act_settles hslot ?_
    rcases hruns with hr | hr <;> simp [Dev.longopStep, hl, hr]
  · intro s slot l t hslot hl hhold hmode hwaiter
    change execCookieExpired slot s = _
    rw [execCookieExpired]
    refine State.act_settles hslot ?_
    simp [Dev.cookieExpires, hl, hhold, hmode, hwaiter]
  · intro s slot l hslot hl hmode
    dsimp only
    intro hfirst hother
    change (_ → execHeldLongopStart slot s = _) ∧ (_ → execHeldLongopStart slot s = _)
    unfold execHeldLongopStart
    refine ⟨fun hwaiter => State.act_settles hslot ?_, fun hwaiter => State.act_settles hslot ?_⟩
    · simp [Dev.heldStart, hl, hmode, hfirst, hother, hwaiter]
    · simp [Dev.heldStart, hl, hmode, hfirst, hother, hwaiter]

end Sys2Proof.Machine
end

section
/-! PROOFS. Rows of the remote access engine under the conditions of their clauses. -/

namespace Sys2Proof.Machine

/-- A REQ that its port accepts makes its QP CONNECTING, and REP leaves. -/
theorem Dev.acceptCm_of_context {d : Dev} {m : CmReq} {livery : Option Nat} {nvme : Bool} {n : Nat × Dev}
    (hn : d.openQp livery nvme true m.pinned m.pid m.peerQp m.startPsn m.cmTimeoutUs m.ackExponent = some n) :
    let psn := Config.free n.2.free % 2 ^ 24
    d.acceptCm m livery nvme = ((n.2.takeFree.2).onQp n.1 fun q => { q with sendPsn := psn }).emit (.cm n.1 (.rep psn)) := by
  simp only [Dev.acceptCm, hn]

/-- A REQ on the NVMe port with sound queue sizes is accepted without a livery. -/
theorem Dev.cmReq_nvme {d : Dev} {m : CmReq} (hopen : d.portsOpen = true) (hport : m.port = d.fld Reg.raeCm 16 16)
    (hsq : m.hsqsize ≤ (if m.nvmeQid = 0 then 32 else 1024)) (hrq : m.hsqsize ≤ m.hrqsize) : d.cmReq m = d.acceptCm m none true := by
  have hserved : ¬ (!d.portsOpen) = true := by simp [hopen]
  have hsubmission : ¬ (if m.nvmeQid = 0 then 32 else 1024) < m.hsqsize := Nat.not_lt.2 hsq
  have hreceive : ¬ m.hrqsize < m.hsqsize := Nat.not_lt.2 hrq
  simp only [Dev.cmReq, if_neg hserved, if_pos hport, Dev.nvmeReq, if_neg hsubmission, if_neg hreceive]

/-- A REQ on the native port that names the livery in service of its identifier is accepted for it. -/
theorem Dev.cmReq_native {d : Dev} {m : CmReq} {x : Livery} (hopen : d.portsOpen = true) (hnvme : m.port ≠ d.fld Reg.raeCm 16 16)
    (hport : m.port = d.fld Reg.raeCm 0 16) (hpid : d.mapPid m.pid = some m.livery) (hx : d.livery? m.livery = some x)
    (hstate : x.state = .service) : d.cmReq m = d.acceptCm m (some m.livery) false := by
  have hserved : ¬ (!d.portsOpen) = true := by simp [hopen]
  have hserves : ¬ ((d.livery? m.livery).all fun x => x.state != .service) = true := by rw [hx]; simp [hstate]
  rw [Dev.cmReq, if_neg hserved]
  refine (if_neg hnvme).trans ((if_pos hport).trans ?_)
  unfold Dev.nativeReq
  generalize d.mapPid m.pid = found at *
  subst hpid
  exact (if_neg (not_not_intro rfl)).trans (if_neg hserves)

/-- Settles O29: each row's effect under the conditions of its clause. -/
theorem remoteAccessRowsComplete : Obligations.RemoteAccessRowsComplete := by
  refine ⟨?_, ?_, ?_, ?_, ?_, ?_, ?_, ?_⟩
  · intro s m livery nvme n hwf hopen hkind hn
    change execCmReq m s = _
    rw [execCmReq]
    refine State.act_settles hwf ?_
    rcases hkind with ⟨rfl, rfl, hport, hsq, hrq⟩ | ⟨rfl, rfl, hnvme, hport, hpid, x, hx, hstate⟩
    · rw [Dev.cmReq_nvme hopen hport hsq hrq, Dev.acceptCm_of_context hn]
    · rw [Dev.cmReq_native hopen hnvme hport hpid hx hstate, Dev.acceptCm_of_context hn]
  · intro s qp peer psn q hqp hpeer hpsn hq hstate hactive
    change execCmRep qp peer psn s = _
    rw [execCmRep]
    refine State.act_settles (by simp [hqp, hpeer, hpsn]) ?_
    simp [Dev.cmRep, hq, Option.filter_some, hstate, hactive] <;> rfl
  · intro s qp q hqp hq hstate
    change (_ → execCmRtu qp s = _) ∧ (_ → ∀ us, execCmMra qp us s = _) ∧ (∀ reason, _ → execCmRej qp reason s = _) ∧ (∀ t, _ → execCmTimeout qp s = _)
    unfold execCmRtu execCmMra execCmRej execCmTimeout
    refine ⟨fun hpassive => State.act_settles hqp ?_, fun hactive us => State.act_settles hqp ?_, fun reason hr => State.act_settles hqp ?_,
      fun t ht => State.act_settles hqp ?_⟩
    · simp [Dev.cmRtu, hq, Option.filter_some, hpassive, Dev.firstPacket, hstate]
    · simp [hq, Option.filter_some, hactive, hstate]
    · simp [hr, Dev.connectFails, hq, Option.filter_some, hstate]
    · have hq' : (s.upTo t).qp? qp = some q := hq
      simp [hq, Option.filter_some, hstate, ht, Dev.connectFails, hq']
  · intro s qp q hqp hq
    change (_ → execCmDreq qp s = _) ∧ (_ → execCmDrep qp s = _) ∧ (∀ t, _ → _ → execQpLingerExpiry qp s = _)
    unfold execCmDreq execCmDrep execQpLingerExpiry
    refine ⟨fun hstate => State.act_settles hqp ?_, fun hclose => State.act_settles hqp ?_, fun t hstate ht => State.act_settles hqp ?_⟩
    · rcases hstate with hs | hs <;> simp [Dev.cmDreq, hq, Option.filter_some, hs]
    · simp [hq, Option.filter_some, hclose]
    · simp [hq, Option.filter_some, hstate, ht]
  · intro s qp q r hqp hopen hq hr
    have hrq : ¬ q.rq.isNone = true := by simp [hr]
    change (_ → execCnpReceived qp s = _) ∧ (_ → execCnpReceived qp s = _)
    unfold execCnpReceived
    refine ⟨fun hoff => State.act_settles hqp ((if_pos hopen).trans ?_), fun hon => State.act_settles hqp ((if_pos hopen).trans ?_)⟩
    · simp only [Dev.cnpIn, hq, if_neg hrq, hoff, Bool.not_false, if_true]
    · simp only [Dev.cnpIn, hq, if_neg hrq, hon, Bool.not_true, Bool.false_eq_true, if_false]
  · intro s qp q t hqp hq ht hon
    change execCcRateIncrease qp s = _
    rw [execCcRateIncrease]
    refine State.act_settles hqp ?_
    simp only [Dev.rateUp, hq, Option.bind_some, ht, hon, Bool.not_true, Bool.false_eq_true, if_false] <;> rfl
  · intro s qp r hqp hr
    refine ⟨fun n => ?_, fun hflying => ⟨?_, fun hleft => ?_, fun hspent => ?_, fun hrnr => ?_⟩, fun t q ht hq => ?_, ?_, fun t ht => ?_⟩
    · change execRqAckReceived qp n s = _
      rw [execRqAckReceived]
      refine State.act_settles hqp ?_
      simp only [Dev.rqAcked, hr]
    · change execRqNakReceived qp true s = _
      rw [execRqNakReceived]
      refine State.act_settles hqp ?_
      simp only [hflying, Bool.not_true, Bool.false_eq_true, if_false, if_true]
    · change execRqNakReceived qp false s = _
      rw [execRqNakReceived]
      refine State.act_settles hqp ?_
      simp only [hflying, Bool.not_true, Bool.false_eq_true, if_false, Dev.retryOnce, hr, if_neg (Nat.not_le.2 hleft)]
    · change execRqNakReceived qp false s = _
      rw [execRqNakReceived]
      refine State.act_settles hqp ?_
      simp only [hflying, Bool.not_true, Bool.false_eq_true, if_false, Dev.retryOnce, hr, if_pos hspent]
    · change execRnrRetryTimer qp s = _
      rw [execRnrRetryTimer]
      refine State.act_settles hqp ?_
      have hlimit : ¬ (s.fld Reg.raeRetry 8 3 ≠ 7 ∧ s.fld Reg.raeRetry 8 3 ≤ r.rnrRetries) := by omega
      simp only [hflying, if_true, Dev.rnrRetry, hr, if_neg hlimit]
    · change execRqAckTimeout qp s = _
      rw [execRqAckTimeout]
      refine State.act_settles hqp ?_
      simp only [ht, hq]
    · change execWorkRequestWaitRelease qp s = _
      rw [execWorkRequestWaitRelease]
      refine State.act_settles hqp ?_
      simp only [Dev.startWork, hr]
    · change execFlushTimeout qp s = _
      rw [execFlushTimeout]
      refine State.act_settles hqp ?_
      simp only [ht]
  · intro s i x t hi hx ht
    change execRevokeCut i s = _
    rw [execRevokeCut]
    refine State.act_settles (decide_eq_true hi) ?_
    simp only [hx, Option.bind_some, ht]

end Sys2Proof.Machine
end

section
/-! PROOFS. Rows of drives and slots under the conditions of their clauses. -/

namespace Sys2Proof.Machine

/-! ## How a command's end depends on its status -/

/-- A Read that does not succeed is counted and fails. -/
theorem Dev.driveEnds_read {d : Dev} {c : DriveCmd} {st : DriveStatus} {l : List Block} (hst : st ≠ .success) (hop : c.op = .read) :
    d.driveEnds c st l = ((d.countDrive c.slot 9 1).dropDrvCmd c.id).driveReadFails c false := by
  cases st with
  | success => exact absurd rfl hst
  | _ => exact if_pos hop

/-- Any other command that ends with an error goes by its status and by whether it writes. -/
theorem Dev.driveEnds_error {d : Dev} {c : DriveCmd} {st : DriveStatus} {l : List Block} (hst : st ≠ .success) (hop : c.op ≠ .read) :
    d.driveEnds c st l =
      if st = .reservationConflict then d.resvConflict c
      else if c.op.writes then d.writeFailed c (st == .writeRetryable) else d.otherFailed c := by
  cases st with
  | success => exact absurd rfl hst
  | _ => exact if_neg hop

/-- Success ends a command that is no reservation by counting and dropping it. -/
theorem Dev.driveEnds_success {d : Dev} {c : DriveCmd} {l : List Block} (hp : ∀ k, c.purpose ≠ .reserve k) :
    d.driveEnds c .success l = ((d.countDone c).dropDrvCmd c.id).driveDone c l := by
  unfold Dev.driveEnds
  dsimp only
  split
  next k h => exact absurd h (hp k)
  next => rfl

/-- Success of a reservation acquires it. -/
theorem Dev.driveEnds_reserve {d : Dev} {c : DriveCmd} {k : Bool} {l : List Block} (hp : c.purpose = .reserve k) :
    d.driveEnds c .success l = d.resvAcquired c.slot := by
  simp only [Dev.driveEnds, hp]

/-- DRIVE_COMPLETION ends the command that is at its drive. -/
theorem execDriveCompletion_at {s : State} {id t : Nat} {c : DriveCmd} {st : DriveStatus} {l : List Block} {e : Dev} (hc : s.drvCmd? id = some c)
    (ht : c.at_ = some t) (h : s.toDev.driveEnds c st l = e) : execDriveCompletion id st l s = .next (s.settles e) := by
  rw [execDriveCompletion]
  refine State.act_settles rfl ?_
  simp only [hc, ht, Option.isSome_some, if_true, h]

/-! ## Links -/

/-- A link that trains below speed 3 at a powered slot takes its speed, at least the port's own. -/
theorem Dev.linkTrained_up {d : Dev} {slot speed width : Nat} (hspeed : speed < 3) (hpresent : (d.slotAt slot).present = true)
    (hpower : (d.slotAt slot).powerEn = true) :
    let v := max speed (min 2 (d.fld (portReg slot 0) 0 2))
    let trained := d.onSlot slot fun x => { x with speed := v, narrow := decide (width = 1), contained := false }
    let e := if (v ≠ 0 ∨ width = 1) ∧ trained.hqe.pstate = 0 ∧ !trained.entering then trained.raise 0x1C1 else trained
    d.linkTrained slot speed width =
      if (d.slotAt slot).drive = .initialising ∧ (d.slotAt slot).speed = 3 then e.admin slot identifyController else e := by
  intro v trained e
  have hv : ¬ v = 3 := by omega
  have hon : ¬ (!(d.slotAt slot).present || !(d.slotAt slot).powerEn) = true := by simp [hpresent, hpower]
  simp only [Dev.linkTrained, if_neg (show ¬ speed = 3 by omega), if_neg hon]
  exact if_neg hv

/-- Settles O30: each row's effect under the conditions of its clause. -/
theorem driveRowsComplete : Obligations.DriveRowsComplete := by
  refine ⟨?_, ?_, ?_, ?_, ?_, ?_, ?_, ?_, ?_, ?_⟩
  · intro s id c t hc ht
    refine ⟨fun l hp => execDriveCompletion_at hc ht (Dev.driveEnds_success hp), fun k l hp => execDriveCompletion_at hc ht (Dev.driveEnds_reserve hp),
      fun st l hst hop => execDriveCompletion_at hc ht (Dev.driveEnds_read hst hop), fun l hop => execDriveCompletion_at hc ht ?_,
      fun st l hst hconf hop hw => execDriveCompletion_at hc ht ?_, fun st l hst hconf hop hw => execDriveCompletion_at hc ht ?_, ?_⟩
    · exact (Dev.driveEnds_error (st := .reservationConflict) nofun hop).trans (if_pos rfl)
    · exact (Dev.driveEnds_error hst hop).trans ((if_neg hconf).trans (if_pos hw))
    · exact (Dev.driveEnds_error hst hop).trans ((if_neg hconf).trans (if_neg (by simp [hw])))
    · change execCmdTimeout id s = _
      rw [execCmdTimeout]
      refine State.act_settles rfl ?_
      simp only [hc, ht, Dev.timedOut]
  · intro s id c t hc ht
    change execDriveWriteRetry id s = _
    rw [execDriveWriteRetry]
    refine State.act_settles rfl ?_
    simp only [hc, Option.bind_some, ht]
  · intro s slot hwf hdrive hstep
    have hescalates : ¬ ((s.slotAt slot).drive ≠ .escalating ∨ ((s.slotAt slot).escStep = 2 ∧ (s.slotAt slot).powerEn = false)) := by
      rcases hstep with hstep | hpower
      · simp [hdrive, hstep]
      · simp [hdrive, hpower]
    change execCtrlResetResult slot true s = _ ∧ (∀ t, _ → execCtrlResetResult slot false s = _)
    unfold execCtrlResetResult
    refine ⟨State.act_settles hwf ((if_neg hescalates).trans (if_pos rfl)), fun t ht => State.act_settles hwf ((if_neg hescalates).trans ?_)⟩
    simp only [Bool.false_eq_true, if_false, ht]
  · intro s slot t hwf
    refine ⟨fun ht => ?_, fun ht => ?_, fun ht hactive => ?_⟩
    · change execSlotPowerOffExpiry slot s = _
      rw [execSlotPowerOffExpiry]
      refine State.act_settles hwf ?_
      simp only [ht]
    · change execBootTimeout slot s = _
      rw [execBootTimeout]
      refine State.act_settles hwf ?_
      simp only [ht]
    · change execInsertDelayExpiry slot s = _
      rw [execInsertDelayExpiry]
      refine State.act_settles hwf ?_
      have hactive' : (s.upTo t).isActive = true := hactive
      simp only [ht, hactive', if_true]
  · intro s slot hwf
    dsimp only
    intro hmine
    change execReservationAcquired slot s = _
    rw [execReservationAcquired]
    exact State.act_settles hwf (if_pos hmine)
  · intro s slot speed width hslot hspeed hwidth hpresent hpower
    change execDriveLinkTrained slot speed width s = _
    rw [execDriveLinkTrained, Nat.min_eq_left (by omega)]
    exact State.act_settles (by simp [hslot, hwidth]; omega) (Dev.linkTrained_up hspeed hpresent hpower)
  · intro s slot kind hwf hkind
    change execAerError slot kind s = _
    rw [execAerError]
    refine State.act_settles hwf ?_
    simp only [Dev.aerError, if_neg hkind]
  · intro s slot hwf
    change execAerCorrectable slot s = _
    rw [execAerCorrectable]
    exact State.act_settles hwf rfl
  · intro s slot hwf
    change execDriveAsyncEvent slot true s = _ ∧ execDriveAsyncEvent slot false s = _
    unfold execDriveAsyncEvent
    exact ⟨State.run_becomes hwf rfl, State.run_becomes hwf rfl⟩
  · intro s l hlen hwf hon
    change execSlotPoll l s = _
    rw [execSlotPoll]
    exact State.act_settles (by simp [hlen, hwf]) (if_pos hon)

end Sys2Proof.Machine

end

section
/-! PROOFS. Rows of members, locks, windows, reads, check values and of the record log under the conditions of their clauses. -/

namespace Sys2Proof.Machine

/-! ## Members, locks, windows, reads and check values -/

/-- A read of a packet with ready bytes and room on its queue sends them next. -/
theorem Dev.deliverRead_ready {d : Dev} {r : ReadReq} {k n : Nat} (hk : r.skip r.blocks r.delivered = k) (hn : d.readyRun r k = n)
    (hready : n ≠ 0) (hpoison : r.poisoned = none) (hroom : (d.onRead r.id fun r => { r with delivered := k }).rqRoom r.qp = true) :
    d.deliverRead r =
      ((d.onRead r.id fun r => { r with delivered := k }).onRead r.id fun r => { r with delivered := k + n, ends := r.ends ++ [k + n] }).postWork r.qp
        (.plain (.write (r.addr + (r.span k n).1) r.key (r.payload k n)) (some r.id) none) := by
  have hgoes : ¬ (n = 0 ∨ r.poisoned.isSome = true) := by simp [hready, hpoison]
  simp only [Dev.deliverRead, hk, hn, if_neg hgoes, hroom, if_true]

/-- Settles O31: each row's effect under the conditions of its clause. -/
theorem mediaRowsComplete : Obligations.MediaRowsComplete := by
  refine ⟨?_, ?_, ?_, ?_, ?_, ?_⟩
  · intro s j rest hjobs hkind hstep hwrites
    change execDeclarationEffect s = _
    rw [execDeclarationEffect]
    refine State.act_settles rfl ?_
    simp only [hjobs, hkind, hstep, hwrites, and_self, if_true]
  · intro s m hm hlive hnew
    have htrigger : (s.isLive m && !(s.rly.triggers.contains m)) = true := by simp [hlive, hnew]
    change execMemberFailDeclare m s = _
    rw [execMemberFailDeclare]
    exact State.act_settles (by simp [hm]) (if_pos htrigger)
  · intro s id l hl hfree
    change execRangeLockGrant id s = _
    rw [execRangeLockGrant]
    refine State.act_settles rfl ?_
    simp only [hl, hfree, if_true]
  · intro s cls t hcls hclosed ht
    change execClassWindowOpen cls s = _
    rw [execClassWindowOpen]
    refine State.act_settles (by simp [hcls]) ?_
    simp only [hclosed, Bool.false_eq_true, if_false, ht]
  · intro s id r hr
    refine ⟨fun qp cid howner => ?_, fun c howner => ?_⟩
    · change execReadDelivery id s = _
      rw [execReadDelivery]
      refine State.act_settles rfl ?_
      simp only [hr, howner]
    · dsimp only
      intro hready hpoison hroom
      change execReadDelivery id s = _
      rw [execReadDelivery]
      refine State.act_settles rfl ?_
      simp only [hr, howner]
      exact Dev.deliverRead_ready rfl rfl hready hpoison hroom
  · intro s r hnext hrun
    have hlanes : s.lanesRun = true := by rw [Dev.lanesRun, hrun]; rfl
    change (_ → execCveTagRequest s = _) ∧ (_ → execCveVerifyRequest s = _)
    unfold execCveTagRequest execCveVerifyRequest
    refine ⟨fun htag => State.act_settles rfl ?_, fun htag => State.act_settles rfl ?_⟩
    · simp only [hnext, hlanes, htag, Bool.and_self, if_true]
    · simp only [hnext, hlanes, htag, Bool.not_false, Bool.and_self, if_true]

/-! ## The record log -/

/-- A partner with a common version, of the record and map versions served. -/
theorem Dev.partnerFound_common {d : Dev} {low high rv mv v : Nat} (hv : commonVersion low high 0x10 0x11 = some v) :
    let e : Dev := { d with fov := { d.fov with partnerVersion := v } }
    d.partnerFound low high rv mv =
      if rv ≠ 0x10 then e.raise 0x189
      else if mv ≠ 0x10 then e.raise 0x162
      else if !(e.flag Reg.bltCtl 0) || e.lay.state != 3 then e
      else if e.isActive then e.sendKeys.enterResync
      else if e.fov.role = .standby then e.onBlt fun b => { b with mirror := .resync }
      else e := by
  simp only [Dev.partnerFound, hv]

/-- The map loads from the label that governs. -/
theorem Dev.mapLoads_of_lead {d : Dev} {l : List (Nat × List Label)} {entries : List (Nat × Nat × Nat)} {gov : Nat × Label}
    (hgov : leadLabel ((l.filterMap fun x => (bestLabel x.2).map fun b => (x.1, b)).filter fun x => labelServed x.2) = some gov)
    (hruns : (d.isActive && d.blt.stopped) = false) :
    let retired := match d.savedFor gov.2.identity with | some x => x.retired | none => []
    let e := d.loadArray gov.2 l entries
    d.mapLoads l entries = if e.isActive then e.loadActive gov.2 l retired else e.loadStandby retired := by
  simp only [Dev.mapLoads, hgov, hruns, Bool.false_eq_true, if_false] <;> rfl

/-- Settles O32: each row's effect under the conditions of its clause. -/
theorem logRowsComplete : Obligations.LogRowsComplete := by
  refine ⟨?_, ?_, ?_, ?_, ?_, ?_, ?_, ?_, ?_⟩
  · intro s hopen
    change execBatchExpiry s = _
    rw [execBatchExpiry]
    exact State.act_settles rfl (if_neg (by simp [hopen]))
  · intro s records payload a ra hrole
    change execMirrorRecordsReceived records payload a ra s = _
    rw [execMirrorRecordsReceived]
    exact State.act_settles rfl (if_neg (not_not_intro hrole))
  · intro s rsn
    change execMirrorAckReceived rsn s = _
    rw [execMirrorAckReceived]
    exact State.act_settles rfl rfl
  · intro s t ht hlive
    change execMirrorAckTimeout s = _
    rw [execMirrorAckTimeout]
    refine State.act_settles rfl ?_
    simp only [ht, hlive, if_true]
  · intro s low high rv mv
    change (_ → execPartnerDiscovered low high rv mv s = _) ∧ (∀ v, _ → (_ → execPartnerDiscovered low high rv mv s = _) ∧
      (_ → _ → execPartnerDiscovered low high rv mv s = _) ∧ (_ → _ → _ → _ → (_ → execPartnerDiscovered low high rv mv s = _) ∧
      (_ → _ → execPartnerDiscovered low high rv mv s = _)))
    unfold execPartnerDiscovered
    refine ⟨fun hnone => State.act_settles rfl ?_, fun v hv => ⟨fun hrv => State.act_settles rfl ?_, fun hrv hmv => State.act_settles rfl ?_,
      fun hrv hmv hon hlay => ?_⟩⟩
    · simp only [Dev.partnerFound, hnone]
    · exact (Dev.partnerFound_common hv).trans (if_pos hrv)
    · exact (Dev.partnerFound_common hv).trans ((if_neg (not_not_intro hrv)).trans (if_pos hmv))
    · have hserved : ¬ (!(s.flag Reg.bltCtl 0) || s.lay.state != 3) = true := by simp [hon, hlay]
      have hversions := (Dev.partnerFound_common (d := s.toDev) (rv := rv.toNat) (mv := mv.toNat) hv).trans
        ((if_neg (not_not_intro hrv)).trans ((if_neg (not_not_intro hmv)).trans (if_neg hserved)))
      refine ⟨fun hactive => State.act_settles rfl (hversions.trans (if_pos hactive)), fun hactive hrole => State.act_settles rfl ?_⟩
      exact hversions.trans ((if_neg (ne_true_of_eq_false hactive)).trans (if_pos hrole))
  · intro s hresync
    change execPartnerCheckpointLoaded s = _
    rw [execPartnerCheckpointLoaded]
    exact State.act_settles rfl (if_pos hresync)
  · intro s t hremirror hlate ht
    have hpending : ¬ (s.blt.remirror.isEmpty || s.blt.remirrorLate) = true := by simp [hremirror, hlate]
    change execRemirrorLate s = _
    rw [execRemirrorLate]
    refine State.act_settles rfl ((if_neg hpending).trans ?_)
    simp only [ht]
  · intro s l hreplay hdue
    have hscan : s.blt.replay = 0 ∧ ((s.clk.step = 13 ∧ (!s.clk.done) = true ∧ (!s.clk.failed) = true ∧ s.isActive = true) ∨ s.resumesFull = true) := by
      simpa only [hreplay, true_and, Bool.not_eq_true'] using hdue
    change (_ → execBlotterReplay l s = _) ∧ (_ → execBlotterReplay l s = _)
    unfold execBlotterReplay
    refine ⟨fun hknown => State.act_settles rfl ((if_pos hscan).trans ?_), fun hunknown => State.act_settles rfl ((if_pos hscan).trans ?_)⟩
    · exact if_neg (ne_true_of_eq_false hknown)
    · exact if_pos hunknown
  · intro s l entries gov hdue
    dsimp only
    intro hgov hruns
    have hload : (s.clk.step = 14 ∧ (!s.clk.done) = true ∧ (!s.clk.failed) = true ∧ s.blt.replay ≤ 1) ∨ (s.resumesFull = true ∧ s.blt.replay = 1) := by
      simpa only [Bool.not_eq_true'] using hdue
    change execMapLoad l entries s = _
    rw [execMapLoad]
    refine State.act_settles rfl ((if_pos hload).trans ?_)
    simp only [Dev.mapLoads_of_lead hgov hruns] <;> rfl

end Sys2Proof.Machine

end

section
/-! PROOFS. Rows of NVMe over Fabrics under the conditions of their clauses: a capsule that finds its queue and its controller goes by them. -/

namespace Sys2Proof.Machine

/-! ## A capsule that is taken -/

section
variable {s : State} {c : Capsule} {d : Dev} {q : NvmeQueue} {k : Controller}

/-- A capsule that is taken meets its queue and its controller. -/
theorem Taken.capsuleIn (h : Taken s c d q k) (f : Dev → NvmeQueue → Controller → Dev) : s.toDev.capsuleIn c f = f d q k := by
  obtain ⟨-, ⟨x, hx, rfl⟩, hqueue, hcontroller⟩ := h
  simp only [Dev.capsuleIn, hx, hqueue, hcontroller]

/-- On the admin queue it meets its controller. -/
theorem Taken.adminIn (h : Taken s c d q k) (hadmin : q.qid = 0) (f : Dev → Controller → Dev) : s.toDev.adminIn c f = f d k := by
  rw [Dev.adminIn, h.capsuleIn, if_pos hadmin]

/-- The row of a capsule answers the module that its effect makes, settled. -/
theorem Taken.act (h : Taken s c d q k) {f : Dev → Dev} {e : Dev} (he : f s.toDev = e) : s.act c.wf f = .next (s.settles e) :=
  State.act_settles h.wf he

end

/-- A Connect of a new admin queue, to a livery's subsystem that its host is bound to, makes a controller and joins the queue to it. -/
theorem Dev.connect_admin {e : Dev} {c : ConnectData} {x : Qp} {n : Nat} {l : Livery} {b : Binding} (hx : e.nvmeQp? c.qp = some x)
    (hfresh : ((e.firstPacket x).countHqe 0 1).nvmeQueue? c.qp = none) (hon : ((e.firstPacket x).countHqe 0 1).flag Reg.hqeCtl 0 = true)
    (hl : ((e.firstPacket x).countHqe 0 1).lvy.liveries.find? (fun l => l.name == c.subNqn) = some l)
    (hb : ((e.firstPacket x).countHqe 0 1).bindingOf c.hostNqn = some b) (hpid : ((e.firstPacket x).countHqe 0 1).mapPid b.pid = some l.num)
    (hqid : c.qid = 0) (hcntlid : c.cntlid = 0xFFFF) (hn : ((e.firstPacket x).countHqe 0 1).freeCntlid = some n) :
    let d := (e.firstPacket x).countHqe 0 1
    let k : Controller :=
      { cntlid := n, livery := l.num, generation := d.generation l.num, hostNqn := c.hostNqn, hostId := c.hostId,
        discovery := c.subNqn == discoveryNqn, cc := 0, csts := 0, katoMs := d.applyKato c.katoMs, kaAt := d.q, ioQueues := 0,
        aerConfig := 0, resvMask := 0, pendingNotice := [], changedNs := [], resvLog := [], errors := 0 }
    e.connect c = (d.onHqe fun h => { h with controllers := h.controllers ++ [k] }).joinQueue c l.num n := by
  unfold Dev.connect
  rw [hx]
  dsimp only
  generalize (e.firstPacket x).countHqe 0 1 = d at *
  simp only [hfresh, hon, hl, hb, Option.isSome_none, Option.isNone_some, Bool.false_and, Bool.not_true, Bool.false_eq_true, if_false]
  generalize d.mapPid b.pid = found at *
  subst hpid
  refine (if_pos rfl).trans ?_
  simp only [Dev.connectChecked, if_pos hqid, hcntlid, hn, ne_eq, not_true_eq_false, if_false]

/-- Settles O33: each command's effect under the conditions of its clause. -/
theorem hostAdminRowsComplete : Obligations.HostAdminRowsComplete := by
  refine ⟨?_, ?_, ?_⟩
  · intro s c x n hwf hx
    dsimp only
    intro hfresh hon l b hl hb hpid hqid hcntlid hn
    change execNvmeConnect c s = _
    rw [execNvmeConnect]
    exact State.act_settles hwf (Dev.connect_admin hx hfresh hon hl hb hpid hqid hcntlid hn)
  · intro s c d q k h
    refine ⟨fun v hv => ?_, fun hcc => ?_⟩
    · change execPropertyGet c s = _
      refine h.act ?_
      rw [Dev.propertyGet, h.capsuleIn]
      simp only [hv]
    · change execPropertySet c s = _
      refine h.act ?_
      rw [Dev.propertySet, h.capsuleIn]
      exact if_neg (not_not_intro hcc)
  · intro s c d q k h hadmin
    have hqueue : d.nvmeQueue? c.qp = some q := h.queue
    refine ⟨fun l hl => ?_, fun hid => ⟨?_, ?_⟩, fun hid => ⟨?_, ?_⟩, fun hid => ⟨?_, ?_⟩, fun l hl => ?_, ?_, fun hroom => ?_, fun hana hsel => ?_, ?_⟩
    · change execIdentify c s = _
      refine h.act ?_
      rw [Dev.identify, h.adminIn hadmin]
      simp only [hl]
    · change execGetFeatures c s = _
      refine h.act ?_
      rw [Dev.getFeatures, h.adminIn hadmin]
      simp only [hid]
    · change execSetFeatures c s = _
      refine h.act ?_
      rw [Dev.setFeatures, h.adminIn hadmin]
      simp only [hid]
    · change execGetFeatures c s = _
      refine h.act ?_
      rw [Dev.getFeatures, h.adminIn hadmin]
      simp only [hid]
    · change execSetFeatures c s = _
      refine h.act ?_
      rw [Dev.setFeatures, h.adminIn hadmin]
      simp only [hid]
    · change execGetFeatures c s = _
      refine h.act ?_
      rw [Dev.getFeatures, h.adminIn hadmin]
      simp only [hid]
    · change execSetFeatures c s = _
      refine h.act ?_
      rw [Dev.setFeatures, h.adminIn hadmin]
      simp only [hid]
    · change execGetLogPage c s = _
      refine h.act ?_
      rw [Dev.getLogPage, h.adminIn hadmin]
      simp only [hl]
    · change execKeepAlive c s = _
      refine h.act ?_
      rw [Dev.keepAlive, h.adminIn hadmin]
    · change execAsynchronousEventRequest c s = _
      refine h.act ?_
      rw [Dev.asyncRequest, h.adminIn hadmin]
      simp only [if_neg (Nat.not_le.2 hroom), hqueue]
    · dsimp only
      intro n hfault hn
      change execNamespaceManagement c s = _
      refine h.act ?_
      rw [Dev.nsManagement, h.adminIn hadmin]
      refine (if_neg (not_not_intro hana)).trans ((if_pos hsel).trans ?_)
      simp only [hfault, hn, hqueue, Option.getD_some]
    · change execAbort c s = _
      refine h.act ?_
      rw [Dev.abort, h.adminIn hadmin]

/-! ## I/O commands -/

/-- An I/O command that is part of no fused pair, on a queue that waits for none, joins the commands of its queue. -/
theorem Taken.ioIn {s : State} {c : Capsule} {d : Dev} {q : NvmeQueue} {k : Controller} {op : Nat} (h : Taken s c d q k) (hio : q.qid ≠ 0)
    (hlast : q.lastFuse = none) (hfuse : c.fuse = 0) :
    let e := d.onHqe fun h => { h with queues := modifyAt NvmeQueue.qp c.qp (fun q => { q with lastFuse := none }) h.queues }
    s.toDev.ioIn c op = ((e.wakeShelf).keepNvme c op q 0).nvmeProgress := by
  rw [Dev.ioIn, h.capsuleIn]
  refine (if_neg hio).trans ?_
  simp only [hlast, hfuse, Option.bind_none, Nat.zero_ne_one, if_false, OfNat.zero_ne_ofNat]

/-- Settles O34: each command's effect under the conditions of its clause. -/
theorem hostIoRowsComplete : Obligations.HostIoRowsComplete := by
  refine ⟨?_, ?_, ?_, ?_, ?_⟩
  · intro s c d q k i op h hio hlast hfuse hi
    have hruns : exec i s = s.act c.wf fun d => d.ioIn c op := by
      simp only [List.mem_cons, Prod.mk.injEq, List.not_mem_nil, or_false] at hi
      rcases hi with ⟨rfl, rfl⟩ | ⟨rfl, rfl⟩ | ⟨rfl, rfl⟩ | ⟨rfl, rfl⟩ | ⟨rfl, rfl⟩ | ⟨rfl, rfl⟩ | ⟨rfl, rfl⟩ | ⟨rfl, rfl⟩ | ⟨rfl, rfl⟩ <;> rfl
    rw [hruns]
    exact h.act (h.ioIn hio hlast hfuse)
  · intro s c d q k h hlast
    change execInvalidCommandOpcode c s = _
    refine h.act ?_
    rw [Dev.invalidIn, h.capsuleIn]
    simp only [hlast, Option.bind_none]
  · intro s qp cid data c hqp hcid hc hstage
    change execRdmaReadPullDone qp cid data s = _
    rw [execRdmaReadPullDone]
    refine State.act_settles (by simp [hqp, hcid]) ?_
    simp [Dev.pullDone, hc, Option.filter_some, hstage]
  · intro s n k hn hk hkato
    change execKatoExpired n s = _
    rw [execKatoExpired]
    refine State.act_settles hn ?_
    simp only [hk, if_neg hkato, Dev.katoExpires]
  · intro s qp cid c t hqp hcid hc ht
    change execCmdOverdue qp cid s = _
    rw [execCmdOverdue]
    refine State.act_settles (by simp [hqp, hcid]) ?_
    simp only [hc, Option.bind_some, ht]

end Sys2Proof.Machine

end

section
/-! PROOFS. Rows of the memories, the clocks and the command processors under the conditions of their clauses. -/

namespace Sys2Proof.Machine

/-- A scrubbing read of a memory whose scrubber is enabled: what it does with its word, then the next one. -/
theorem Dev.scrub_of_enabled {d e : Dev} {m : Nat} (hon : d.flag Reg.scbCtl m = true)
    (he : (if (m, d.scrubAt m) ∈ d.mem.poison then ((d.takeFree.2).uncorrectable m (d.scrubAt m) (d.takeFree.1 % 2 ^ 32)).raise 0x071
      else if (m, d.scrubAt m) ∈ d.mem.flipped then
        (d.onMem fun x => { x with flipped := x.flipped.filter fun p => p != (m, d.scrubAt m) }).correctable m 0 false
      else d) = e) : d.scrub m = e.scrubNext m := by
  have hserved : ¬ (!(d.flag Reg.scbCtl m)) = true := by simp [hon]
  rw [Dev.scrub, if_neg hserved, ← he]

/-- Settles O35: each row's effect under the conditions of its clause. -/
theorem memoryAndClockRowsComplete : Obligations.MemoryAndClockRowsComplete := by
  refine ⟨?_, ?_, ?_, ?_, ?_, ?_, ?_, ?_, ?_, ?_, ?_⟩
  · intro s m a device high hwf hdevice
    change execCorrectableError m a device high s = _
    rw [execCorrectableError]
    exact State.run_becomes (by simp [hwf, hdevice]) rfl
  · intro s m a syn r hwf
    change execUncorrectableError m a syn r s = _
    rw [execUncorrectableError]
    exact State.act_settles hwf rfl
  · intro s m hm
    change execCeRateWindow m s = _
    rw [execCeRateWindow]
    exact State.run_becomes (by simp [hm]) rfl
  · intro s g hg
    have hheld : ¬ (!(s.lay.reloading.contains g)) = true := by simp [hg]
    change execMapSegReload g s = _
    rw [execMapSegReload]
    exact State.act_settles rfl (if_neg hheld)
  · intro s m hm hon
    change (_ → execScrubRead m s = _) ∧ (_ → _ → execScrubRead m s = _) ∧ (_ → _ → execScrubRead m s = _)
    unfold execScrubRead
    refine ⟨fun hpoison => ?_, fun hpoison hflipped => ?_, fun hpoison hflipped => ?_⟩
    all_goals refine State.run_becomes (by simp [hm]) (Dev.scrub_of_enabled hon ?_)
    · exact if_pos hpoison
    · exact (if_neg hpoison).trans (if_pos hflipped)
    · exact (if_neg hpoison).trans (if_neg hflipped)
  · intro s m v
    change execMemInjArm m v s = _
    rw [execMemInjArm]
    exact State.run_becomes rfl rfl
  · intro s failed hfailed hstep hreset hfail
    change execMemoryFill failed s = _
    rw [execMemoryFill]
    exact State.run_becomes (by simp [hfailed]) (if_neg (by simp [hstep, hreset, hfail]))
  · intro s khz hlen
    have hwf : decide (khz.length = 61) = true := by simp [hlen]
    refine ⟨fun hcore => ?_, fun hcore hreset => ?_, fun hcore hreset => ?_⟩
    all_goals
      change execClockCheck khz s = _
      rw [execClockCheck]
      refine State.act_settles hwf ?_
    · exact if_pos hcore
    · exact (if_neg (ne_true_of_eq_false hcore)).trans (if_pos hreset)
    · exact (if_neg (ne_true_of_eq_false hcore)).trans (if_neg (ne_true_of_eq_false hreset))
  · intro s i hi hruns
    have hrunning : ¬ (!(bit s.cp.run i) || decide (4 ≤ i)) = true := by simp [hruns, hi]
    change execCpStopped i s = _
    rw [execCpStopped]
    exact State.act_settles (by simp [hi]) (if_neg hrunning)
  · intro s t ht
    change execTempSample t s = _
    rw [execTempSample]
    exact State.run_becomes (by simp [ht]) rfl
  · intro s cage hcage
    change execPlugInModuleOverpower cage s = _
    rw [execPlugInModuleOverpower]
    exact State.run_becomes (by simp [hcage]) rfl

end Sys2Proof.Machine

end

section
/-! PROOFS. Rows of arrival under the conditions of their clauses: held and waiting commands, sessions, doorbells and frames. -/

namespace Sys2Proof.Machine

/-! ## Doorbells -/

section
variable {d : Dev} {r pi : Nat} {pasid : Option Nat}

/-- A doorbell past the ring's eight slots is counted and raised. -/
theorem Dev.ringDoorbell_past (hon : bit (d.raw (Reg.mepRingCfg + 16 * r)) 0 = true)
    (hn : 8 < (pi + 65536 - d.fld (Reg.mepRingReq + 16 * r) 16 16) % 65536) : d.ringDoorbell r pi pasid = (d.countMep 2 1).raise 0x0D0 := by
  have hserved : ¬ (!(bit (d.raw (Reg.mepRingCfg + 16 * r)) 0)) = true := by simp [hon]
  exact (if_neg hserved).trans (if_pos (.inl hn))

/-- A doorbell within the ring moves PI and marks the slots between by the PASID. -/
theorem Dev.ringDoorbell_within (hon : bit (d.raw (Reg.mepRingCfg + 16 * r)) 0 = true) :
    let cfg := d.raw (Reg.mepRingCfg + 16 * r)
    let q := Reg.mepRingReq + 16 * r
    let was := (d.fld q 0 16 + 65536 - d.fld q 16 16) % 65536
    let n := (pi + 65536 - d.fld q 16 16) % 65536
    n ≤ 8 → was ≤ n → (bit cfg 1 = true → pasid ≠ none) →
    let mark := if bit cfg 1 then pasid.getD 0 + 1 else 0
    d.ringDoorbell r pi pasid = (d.setFld q 0 16 pi).onMep fun m =>
      { m with rings := m.rings.modify r fun g =>
        { g with pasids := (List.range' was (n - was)).foldl (fun t k => sput (fun _ => 0) t ((d.fld q 16 16 + k) % 8) mark) g.pasids } } := by
  intro cfg q was n hn hwas hpasid
  have hserved : ¬ (!(bit cfg 0)) = true := by simp [cfg, hon]
  have hfits : ¬ (8 < n ∨ n < was ∨ (bit cfg 1 = true ∧ pasid = none)) := by
    rintro (hpast | hback | ⟨hmarks, hnone⟩)
    · omega
    · omega
    · exact hpasid hmarks hnone
  exact (if_neg hserved).trans (if_neg hfits)

end

/-! ## Frames -/

/-- A sound frame on a link that is up, once the ports carry traffic. -/
theorem Dev.ethIn_sound {d : Dev} {f : EthFrame} {cp : CommandSink} (hup : d.linkUp f.link = true) (hmin : 64 ≤ f.length)
    (hmax : f.length ≤ d.fld (ethReg Reg.ethCtl (f.link / 8)) 8 14) (hfcs : f.fcsOk = true)
    (hdone : ((d.countEth f.link 0 1).countEth f.link 1 f.length).clk.done = true) :
    let e := (d.countEth f.link 0 1).countEth f.link 1 f.length
    d.ethIn f cp = match f.kind with
      | .pfc enable times => e.pfcIn f.link enable times
      | _ => match e.stage2 f with
        | none => e
        | some x => e.stage3 x cp := by
  have hlink : ¬ (!(d.linkUp f.link)) = true := by simp [hup]
  have hlength : ¬ (f.length < 64 ∨ d.fld (ethReg Reg.ethCtl (f.link / 8)) 8 14 < f.length) := by omega
  have hsum : ¬ (!f.fcsOk) = true := by simp [hfcs]
  have htraffic : ¬ (!((d.countEth f.link 0 1).countEth f.link 1 f.length).clk.done && !(isPtpKind f.kind)) = true := by simp [hdone]
  exact (if_neg hlink).trans ((if_neg hlength).trans ((if_neg hsum).trans (if_neg htraffic)))

/-- A Tandem frame on a tandem-role link that is up, once the ports carry traffic. -/
theorem Dev.tandemArrives_up {d : Dev} {f : TandemFrame} (hup : d.linkUp f.link = true) (hrole : d.tandemRole f.link = true)
    (hdone : d.clk.done = true) : d.tandemArrives f = d.tandemIn f fun d f => d.tandemDeliver f := by
  have hlink : ¬ (!(d.linkUp f.link)) = true := by simp [hup]
  have htraffic : ¬ (!(d.tandemRole f.link) || !d.clk.done) = true := by simp [hrole, hdone]
  exact (if_neg hlink).trans (if_neg htraffic)

/-- Settles O36: each row's effect under the conditions of its clause. -/
theorem arrivalRowsComplete : Obligations.ArrivalRowsComplete := by
  refine ⟨?_, ?_, ?_, ?_, ?_, ?_, ?_⟩
  · intro s id c rts hc hphase
    dsimp only
    intro hfault
    change execHeldCommandDispatch id s = _
    rw [execHeldCommandDispatch]
    refine State.serve_serves rfl ?_
    simp only [hc, hphase, Dev.dispatchHeld, hfault]
  · intro s id c hc hphase hturn hserved
    have hgoes : ¬ (s.mustWait c || !(s.served c.op)) = true := by simp [hturn, hserved]
    change execOrdCommandStart id s = _
    rw [execOrdCommandStart]
    refine State.serve_serves rfl ?_
    simp only [hc, Option.filter_some, hphase, beq_self_eq_true, if_true]
    exact if_neg hgoes
  · intro s k x t hx ht
    change execUdpSessionIdle k s = _
    rw [execUdpSessionIdle]
    refine State.serve_serves rfl ?_
    simp only [hx, Option.bind_some, ht]
  · intro s r pi pasid slots hr hpi hslots hserved
    dsimp only
    intro hon
    have hwf : (decide (r < 8) && decide (pi < 65536) && decide (slots.length ≤ 8)) = true := by simp [hr, hpi, hslots]
    refine ⟨fun hn hwas hpasid => ?_, fun hn => ?_⟩
    · change execMailboxDoorbell r pi pasid slots s = _
      rw [execMailboxDoorbell]
      exact State.serve_serves hwf ((if_pos hserved).trans (Dev.ringDoorbell_within hon hn hwas hpasid))
    · change execMailboxDoorbell r pi pasid slots s = _
      rw [execMailboxDoorbell]
      exact State.serve_serves hwf ((if_pos hserved).trans (Dev.ringDoorbell_past hon hn))
  · intro s f hwf hup hmin hmax hfcs
    dsimp only
    intro hdone
    refine ⟨fun en times hkind => ?_, fun x hkind hx => ?_⟩
    · change execEthFrameReceived f s = _
      rw [execEthFrameReceived]
      refine State.serve_serves hwf ((Dev.ethIn_sound hup hmin hmax hfcs hdone).trans ?_)
      simp only [hkind]
    · change execEthFrameReceived f s = _
      rw [execEthFrameReceived]
      refine State.serve_serves hwf ((Dev.ethIn_sound hup hmin hmax hfcs hdone).trans ?_)
      split
      next en times h => exact absurd h (hkind en times)
      next => simp only [hx]
  · intro s f hwf hup hrole hdone
    change (_ → _ → execTandemFrameReceived f s = _) ∧ (_ → _ → _ → execTandemFrameReceived f s = _)
    unfold execTandemFrameReceived
    refine ⟨fun htype hversion => State.serve_serves hwf ((Dev.tandemArrives_up hup hrole hdone).trans ?_),
      fun htype hstate hversion => State.serve_serves hwf ((Dev.tandemArrives_up hup hrole hdone).trans ?_)⟩
    · exact (if_neg (by omega)).trans ((if_pos htype).trans (if_pos hversion))
    · have hmatches : ¬ ((s.tdmLink f.link).state ≠ 2 ∨ f.version.toNat ≠ (s.tdmLink f.link).version) := by simp [hstate, hversion]
      exact (if_neg (by omega)).trans ((if_neg (by omega)).trans (if_neg hmatches))
  · intro s source flow c h t hsource hflow hc hheld
    change execReseqFlush source flow s = _
    rw [execReseqFlush]
    refine State.serve_serves (by simp [hsource, hflow]) ?_
    simp only [Dev.reseqFlush, hc, hheld]

end Sys2Proof.Machine

end

section
/-! PROOFS. RoCE packets under the conditions of their clauses: what a packet that reaches its QP meets there, in order, before its turn and past a
gap. -/

namespace Sys2Proof.Machine

/-! ## A packet that reaches its QP -/

section
variable {s : State} {h : RoceHdr} {d : Dev} {q : Qp}

/-- A livery in service or freezing turns no packet away. -/
theorem Dev.livery_admits {st : LiveryState} {cut : Bool} {gone away goes : Dev} (hst : st = .service ∨ st = .freezing) (hcut : cut = false) :
    (if st == .deleting then gone else if (st != .service && st != .freezing) || cut then away else goes) = goes := by
  rcases hst with rfl | rfl
  · rw [hcut]; rfl
  · rw [hcut]; rfl

/-- A packet that reaches its QP meets its sequence there. -/
theorem Reaches.roceIn (r : Reaches s h d q) (c : Instr) (f : Dev → Qp → Dev) : s.toDev.roceIn h c f = f d q := by
  obtain ⟨-, -, henabled, hsound, x, hx, hstate, hfreeze, hresident, hparked, hserved, rfl, rfl⟩ := r
  have hon : ¬ (!(s.flag Reg.raeCtl 0)) = true := by simp [henabled]
  have hsum : ¬ (!h.icrcOk) = true := by simp [hsound]
  unfold Dev.roceIn
  rw [if_neg hon, if_neg hsum]
  simp only [hx]
  rw [if_neg hstate]
  have hout : ¬ ((!x.resident) = true ∨ (!x.parked.isEmpty) = true) := by simp [hresident, hparked]
  generalize x.livery.bind (s.countRae 0 1).livery? = found at *
  cases found with
  | none => exact (Dev.livery_admits (.inl rfl) hfreeze).trans (if_neg hout)
  | some l => exact (Dev.livery_admits (hserved l rfl) hfreeze).trans (if_neg hout)

/-- With the ports open it arrives so. -/
theorem Reaches.roceArrives (r : Reaches s h d q) (c : Instr) : s.toDev.roceArrives h c = d.rocePacket q h.psn c :=
  (if_pos r.ports).trans (r.roceIn c _)

/-- The row of a packet that reaches its QP answers what the packet does there. -/
theorem Reaches.serves (r : Reaches s h d q) {ok : Bool} {c : Instr} {e : Dev} (hok : ok = true) (he : d.rocePacket q h.psn c = e) :
    s.serve ok (fun d => d.roceArrives h c) = .next (s.serves e) :=
  State.serve_serves hok ((r.roceArrives c).trans he)

/-! ## Its place in the sequence -/

/-- A packet whose PSN is the expected one takes its PSNs and acts. -/
theorem Dev.bySequence_turn (hturn : psnAhead q.expected h.psn = 0) (n : Nat) (f dup : Dev → Qp → Dev) :
    d.bySequence q h.psn n f dup = f (d.passed q h.psn n) { q with state := .ready } :=
  if_pos hturn

/-- A packet past the expected PSN draws a NAK once per gap. -/
theorem Dev.bySequence_gap (hpast : 0 < psnAhead q.expected h.psn) (hbefore : psnAhead q.expected h.psn < 2 ^ 23) (n : Nat) (f dup : Dev → Qp → Dev) :
    d.bySequence q h.psn n f dup =
      if q.nakSent then d
      else ((d.onQp q.num fun x => { x with nakSent := true }).emit (.roce q.num (.nakSequence q.expected))).countRae 5 1 :=
  (if_neg hpast.ne').trans (if_neg (Nat.not_le.2 hbefore))

/-- Where the next packet of a QP goes. -/
theorem Dev.nextHdr_qp (d : Dev) (qp : Nat) : (d.nextHdr qp).qp = qp := by
  unfold Dev.nextHdr
  split <;> rfl

end

/-! ## Writes and Reads -/

/-- A Write of one packet whose access is granted is placed, acknowledged and over. -/
theorem Dev.writePacket_whole {e : Dev} {q : Qp} {psn key va length : Nat} {data : List Byte} {imm : Option Word} {k : Inkwell} (hlength : length ≠ 0)
    (hok : e.accessOk q key va length true = true) (hk : e.inkOf (key / 256) = some k) :
    let l := data.take length
    let a : Admitted := { ink := key / 256, next := va + l.length, stop := va + length, cutAt := none, cut := false }
    e.writePacket q psn key va length true true data imm =
      (((e.onQp q.num fun x => { x with admitted := some a }).place4k k va l).roceAck q.num psn).messagePlaced q.num a imm := by
  have hempty : ¬ (true = true ∧ length = 0) := by simp [hlength]
  have hgranted : ¬ (true && !(e.accessOk q key va length true)) = true := by simp [hok]
  unfold Dev.writePacket
  rw [if_neg hempty, if_neg hgranted]
  simp only [if_true, Bool.false_eq_true, if_false, hk, Nat.add_sub_cancel_left]

/-- A Read whose access is granted and whose bytes are sound is answered with them. -/
theorem Dev.readPacket_sound {e : Dev} {q : Qp} {psn key va length : Nat} {k : Inkwell} (hlength : length ≠ 0)
    (hok : e.accessOk q key va length false = true) (hk : e.inkAt key = some k) (hsound : e.inkPoisoned k va length = false) :
    e.readPacket q psn key va length = (e.emit (.roce q.num (.readResponse psn (e.inkRead k va length)))).countRae 1 1 := by
  have hgranted : ¬ (!(e.accessOk q key va length false)) = true := by simp [hok]
  unfold Dev.readPacket
  rw [if_neg hlength, if_neg hgranted]
  simp only [hk, hsound, Bool.false_eq_true, if_false]

/-- Settles O37: each packet's effect under the conditions of its clause. -/
theorem rocePacketsComplete : Obligations.RocePacketsComplete := by
  refine ⟨?_, ?_, ?_, ?_, ?_, ?_, ?_, ?_⟩
  · intro s h d q key va length data k r hkey hva hlen hlength
    dsimp only
    intro hok hk
    have hwf : (h.wf && wfKey key && wfVa va && wfMsgLen length) = true := by simp [r.wf, hkey, hva, hlen]
    refine ⟨?_, fun imm => ?_⟩
    · change execRdmaWrite h key va length true true data s = _
      rw [execRdmaWrite]
      refine r.toReaches.serves hwf ?_
      change d.writeBySeq q h.psn key va length true true data none = _
      rw [Dev.writeBySeq, Dev.bySequence_turn r.turn]
      exact Dev.writePacket_whole (q := { q with state := .ready }) hlength hok hk
    · change execRdmaWriteWithImmediate h key va length true true data imm s = _
      rw [execRdmaWriteWithImmediate]
      refine r.toReaches.serves hwf ?_
      change d.writeBySeq q h.psn key va length true true data (some imm) = _
      rw [Dev.writeBySeq, Dev.bySequence_turn r.turn]
      exact Dev.writePacket_whole (q := { q with state := .ready }) hlength hok hk
  · intro s h d q key va length k r hkey hva hlen hlength
    dsimp only
    intro hok hk hsound
    change execRdmaRead h key va length s = _
    rw [execRdmaRead]
    refine r.toReaches.serves (by simp [r.wf, hkey, hva, hlen]) ?_
    change d.readBySeq q h.psn key va length = _
    rw [Dev.readBySeq, Dev.bySequence_turn r.turn]
    exact Dev.readPacket_sound (q := { q with state := .ready }) hlength hok hk hsound
  · intro s h d q l r hnative hroom hlen hcommand
    change execRoceSend h l s = _
    rw [execRoceSend]
    refine r.toReaches.serves r.wf ?_
    have hbuffer : ¬ (!q.nvme && d.buffersFull && psnAhead q.expected h.psn == 0) = true := by simp [hroom]
    have hfits : ¬ (if q.nvme then 8256 else 8192) < l.length := by simp [hnative, hlen]
    refine (if_neg hbuffer).trans ((Dev.bySequence_turn r.turn _ _ _).trans ((if_neg hfits).trans ?_))
    exact (if_neg (ne_true_of_eq_false hnative)).trans (if_neg hcommand)
  · intro s qp d q r hnative
    have hqp : wfQp qp = true := by
      have hwf := r.wf
      rw [RoceHdr.wf, Dev.nextHdr_qp, Bool.and_eq_true] at hwf
      exact hwf.1
    have hplaces (kind n : Nat) : d.placementBySeq q (s.nextHdr qp).psn kind n =
        ((d.passed q (s.nextHdr qp).psn 1).roceAck q.num (s.nextHdr qp).psn).placementMessage q.num kind n :=
      (if_neg (ne_true_of_eq_false hnative)).trans (Dev.bySequence_turn r.turn _ _ _)
    refine ⟨fun n => ?_, fun n => ?_⟩
    · change execPlacementFlushRequest qp n s = _
      rw [execPlacementFlushRequest]
      exact State.serve_serves hqp ((r.toReaches.roceArrives _).trans (hplaces 1 n))
    · change execPlacementFlushReply qp n s = _
      rw [execPlacementFlushReply]
      exact State.serve_serves hqp ((r.toReaches.roceArrives _).trans (hplaces 2 n))
  · intro s h d q r
    change execUnsupportedOp h .memoryWindow s = _ ∧ execUnsupportedOp h .atomic s = _
    unfold execUnsupportedOp
    exact ⟨r.toReaches.serves r.wf (if_pos r.turn), r.toReaches.serves r.wf (if_pos r.turn)⟩
  · intro s h d q key va length r hkey hva hlen hbefore
    have hwf : (h.wf && wfKey key && wfVa va && wfMsgLen length) = true := by simp [r.wf, hkey, hva, hlen]
    change execDuplicatePacket h false key va length s = _ ∧ (∀ k, _ → _ → execDuplicatePacket h true key va length s = _)
    unfold execDuplicatePacket
    refine ⟨r.serves hwf (if_pos hbefore), fun k hk hsize => r.serves hwf ((if_pos hbefore).trans ?_)⟩
    simp only [if_true, Dev.readAgain, hk, if_pos hsize]
  · intro s h d q r hpast hbefore
    have hgap : ¬ (psnAhead q.expected h.psn = 0 ∨ 2 ^ 23 ≤ psnAhead q.expected h.psn) := by omega
    have hdraws : d.gapIn q h.psn = _ := (if_neg hgap).trans (Dev.bySequence_gap hpast hbefore _ _ _)
    change (_ → execPsnSequenceError h s = _) ∧ (_ → execPsnSequenceError h s = _)
    unfold execPsnSequenceError
    refine ⟨fun hfirst => r.serves r.wf (hdraws.trans ?_), fun hsent => r.serves r.wf (hdraws.trans ?_)⟩
    · exact if_neg (ne_true_of_eq_false hfirst)
    · exact if_pos hsent
  · intro s qp q hqp hq hroom
    have hfull : ¬ (!s.makeRoom.2) = true := by simp [hroom]
    change execContextFetchDone qp s = _
    rw [execContextFetchDone]
    refine State.serve_serves hqp ?_
    simp only [Dev.contextArrives, hq, if_neg hfull] <;> rfl

end Sys2Proof.Machine

end
